-- ==== Sys2Proof/Word.lean ====
section
/-! DEFINITION. The plain types of the machine: bytes, words, commands, samples, and the one shape every
memory, cache and table has, a list of (index, element) pairs. -/

namespace Sys2Proof

/-- One byte of the bitstream buffer (20_memory.md R72). -/
abbrev Byte := BitVec 8

/-- A 32-bit register or operand word. -/
abbrev Word := BitVec 32

/-- A command: word 0 in bits 63:32, word 1 in bits 31:0 (30_encoding.md R100). -/
abbrev Command := BitVec 64

/-- One sample. `BIT_DEPTH` is at most 14 (00_scope.md R5), so 14 bits hold every legal sample. -/
abbrev Sample := BitVec 14

/-- An index space (20_memory.md R70): its written elements, by rising index. `Cells Byte` is a list of
`Host.Cell`. What an unlisted index reads as is said where the space is read. -/
abbrev Cells (α : Type) := List (Nat × α)

/-- The three kinds of slice (10_state.md R32). -/
inductive SliceType where
  | p
  | b
  | i
  deriving DecidableEq, Repr

end Sys2Proof
end

