-- ==== Sys2Proof/Syntax.lean ====
section
/-! DEFINITION. The instructions: one constructor per row of spec/opcode_table.json. A command carries its
operand fields (30_encoding.md R100, R102); a bitstream element carries the value it spells (R110 to R116). -/

namespace Sys2Proof

/-- The engine's instructions: the 64 commands, then the 118 bitstream elements. -/
inductive Instr where
  /-- `VLC_INIT`, op 0x01 (R102, R170). -/
  | vlcInit
  /-- `RESET`, op 0x02 (R102, R511). -/
  | reset
  /-- `CR_WRITE`, op 0x03 (R102, R512). -/
  | crWrite (reg : BitVec 8) (value : Word)
  /-- `CR_READ`, op 0x04 (R102, R513). -/
  | crRead (reg : BitVec 8)
  /-- `TAB_WRITE`, op 0x05 (R102, R514). -/
  | tabWrite (ram : BitVec 8) (hi : BitVec 8) (lo : BitVec 8) (value : Word)
  /-- `BS_LOAD`, op 0x06 (R102, R171). -/
  | bsLoad (len : Word)
  /-- `BS_SEEK`, op 0x07 (R102, R171). -/
  | bsSeek (pos : Word)
  /-- `PEEK`, op 0x08 (R102, R172). -/
  | peek (n : BitVec 8)
  /-- `SKIP`, op 0x09 (R102, R173). -/
  | skip (n : BitVec 8)
  /-- `READ`, op 0x0A (R102, R174). -/
  | read (n : BitVec 8)
  /-- `READ_UE`, op 0x0B (R102, R175). -/
  | readUe
  /-- `READ_SE`, op 0x0C (R102, R176). -/
  | readSe
  /-- `READ_TE`, op 0x0D (R102, R177). -/
  | readTe (range : BitVec 8)
  /-- `ALIGN`, op 0x0E (R102, R178). -/
  | align
  /-- `BITS_LEFT`, op 0x0F (R102, R179). -/
  | bitsLeft
  /-- `READ_COEFF_TOKEN`, op 0x10 (R102, R206). -/
  | readCoeffToken (sel : BitVec 8)
  /-- `READ_TRAILING_SIGNS`, op 0x11 (R102, R208). -/
  | readTrailingSigns
  /-- `READ_LEVEL`, op 0x12 (R102, R210). -/
  | readLevel
  /-- `READ_TOTAL_ZEROS`, op 0x13 (R102, R218). -/
  | readTotalZeros
  /-- `READ_RUN_BEFORE`, op 0x14 (R102, R220). -/
  | readRunBefore
  /-- `DECODE_RESIDUAL`, op 0x18 (R102, R200). -/
  | decodeResidual (blk : BitVec 8) (scan : BitVec 8) (maxCoeff : BitVec 8) (qmul : Word)
  /-- `CACHE_FILL`, op 0x20 (R102, R252). -/
  | cacheFill
  /-- `PRED_NNZ`, op 0x21 (R102, R264). -/
  | predNnz (n : BitVec 8)
  /-- `PRED_MV`, op 0x22 (R102, R266). -/
  | predMv (n : BitVec 8) (width : BitVec 8) (list : BitVec 8) (ref : Word)
  /-- `PRED_MV_16x8`, op 0x23 (R102, R270). -/
  | predMv16x8 (n : BitVec 8) (list : BitVec 8) (ref : Word)
  /-- `PRED_MV_8x16`, op 0x24 (R102, R271). -/
  | predMv8x16 (n : BitVec 8) (list : BitVec 8) (ref : Word)
  /-- `PRED_MV_PSKIP`, op 0x25 (R102, R272). -/
  | predMvPskip
  /-- `PRED_I4MODE`, op 0x26 (R102, R274). -/
  | predI4Mode (n : BitVec 8)
  /-- `CACHE_WRITEBACK`, op 0x27 (R102, R278). -/
  | cacheWriteback
  /-- `SLICE_START`, op 0x30 (R102, R300). -/
  | sliceStart (pos : Word)
  /-- `MB_DECODE`, op 0x31 (R102, R301). -/
  | mbDecode
  /-- `MB_RECON`, op 0x32 (R102, R450). -/
  | mbRecon
  /-- `SLICE_END`, op 0x33 (R102, R360). -/
  | sliceEnd
  /-- `MC_SET`, op 0x38 (R102, R371). -/
  | mcSet (reg : BitVec 8) (value : Word)
  /-- `QPEL_MC00`, op 0x40 (R102, R376). -/
  | qpelMc00
  /-- `QPEL_MC10`, op 0x41 (R102, R377). -/
  | qpelMc10
  /-- `QPEL_MC20`, op 0x42 (R102, R378). -/
  | qpelMc20
  /-- `QPEL_MC30`, op 0x43 (R102, R379). -/
  | qpelMc30
  /-- `QPEL_MC01`, op 0x44 (R102, R380). -/
  | qpelMc01
  /-- `QPEL_MC11`, op 0x45 (R102, R381). -/
  | qpelMc11
  /-- `QPEL_MC21`, op 0x46 (R102, R382). -/
  | qpelMc21
  /-- `QPEL_MC31`, op 0x47 (R102, R383). -/
  | qpelMc31
  /-- `QPEL_MC02`, op 0x48 (R102, R384). -/
  | qpelMc02
  /-- `QPEL_MC12`, op 0x49 (R102, R385). -/
  | qpelMc12
  /-- `QPEL_MC22`, op 0x4A (R102, R386). -/
  | qpelMc22
  /-- `QPEL_MC32`, op 0x4B (R102, R387). -/
  | qpelMc32
  /-- `QPEL_MC03`, op 0x4C (R102, R388). -/
  | qpelMc03
  /-- `QPEL_MC13`, op 0x4D (R102, R389). -/
  | qpelMc13
  /-- `QPEL_MC23`, op 0x4E (R102, R390). -/
  | qpelMc23
  /-- `QPEL_MC33`, op 0x4F (R102, R391). -/
  | qpelMc33
  /-- `MC_CHROMA`, op 0x50 (R102, R394). -/
  | mcChroma (plane : BitVec 8)
  /-- `WEIGHT_UNI`, op 0x51 (R102, R400). -/
  | weightUni (plane : BitVec 8) (list : BitVec 8) (ref : BitVec 8)
  /-- `WEIGHT_BI`, op 0x52 (R102, R401). -/
  | weightBi (plane : BitVec 8) (ref0 : BitVec 8) (ref1 : BitVec 8)
  /-- `MC_PART`, op 0x54 (R102, R408). -/
  | mcPart (n : BitVec 8) (width : BitVec 8) (height : BitVec 8)
  /-- `IMPLICIT_WEIGHT`, op 0x55 (R102, R405). -/
  | implicitWeight
  /-- `WAIT_ROW`, op 0x56 (R102, R372). -/
  | waitRow (list : BitVec 8) (ref : BitVec 8) (row : Word)
  /-- `IDCT4_ADD`, op 0x60 (R102, R422). -/
  | idct4Add (b : BitVec 8)
  /-- `IDCT4_DC_ADD`, op 0x61 (R102, R424). -/
  | idct4DcAdd (b : BitVec 8)
  /-- `IDCT8_ADD`, op 0x62 (R102, R426). -/
  | idct8Add (q : BitVec 8)
  /-- `IDCT8_DC_ADD`, op 0x63 (R102, R428). -/
  | idct8DcAdd (q : BitVec 8)
  /-- `LUMA_DC_DEQUANT_IDCT`, op 0x64 (R102, R430). -/
  | lumaDcDequantIdct (qmul : Word)
  /-- `CHROMA_DC_DEQUANT_IDCT`, op 0x65 (R102, R432). -/
  | chromaDcDequantIdct (plane : BitVec 8) (qmul : Word)
  /-- `CHROMA422_DC_DEQUANT_IDCT`, op 0x66 (R102, R434). -/
  | chroma422DcDequantIdct (plane : BitVec 8) (qmul : Word)
  /-- `INTRA_PRED`, op 0x67 (R102, R440). -/
  | intraPred (kind : BitVec 8) (b : BitVec 8)
  /-- Element `u(n)` (30_encoding.md R110). -/
  | elemU (n : Nat) (x : Nat)
  /-- Element `ue(v)` (30_encoding.md R111). -/
  | elemUe (v : Nat)
  /-- Element `se(v)` (30_encoding.md R112). -/
  | elemSe (v : Int)
  /-- Element `te_v__range_1` (30_encoding.md R113). -/
  | elemTe1
  /-- Element `te_v__range_2` (30_encoding.md R113). -/
  | elemTe2 (v : Nat)
  /-- Element `te_v__range_2_2` (30_encoding.md R113). -/
  | elemTeN (range : Nat) (v : Nat)
  /-- Element `level_prefix` (30_encoding.md R115). -/
  | levelPrefix (p : Nat)
  /-- Element `level_suffix` (30_encoding.md R115). -/
  | levelSuffix (n : Nat) (x : Nat)
  /-- Element `trailing_ones_sign` (30_encoding.md R208). -/
  | trailingOnesSign (neg : Bool)
  /-- Element `I_MB_TYPE[0]` (43_mb_type_motion.md R306). -/
  | iMbType0 (sl : SliceType)
  /-- Element `I_MB_TYPE[1]` (43_mb_type_motion.md R306). -/
  | iMbType1 (sl : SliceType)
  /-- Element `I_MB_TYPE[2]` (43_mb_type_motion.md R306). -/
  | iMbType2 (sl : SliceType)
  /-- Element `I_MB_TYPE[3]` (43_mb_type_motion.md R306). -/
  | iMbType3 (sl : SliceType)
  /-- Element `I_MB_TYPE[4]` (43_mb_type_motion.md R306). -/
  | iMbType4 (sl : SliceType)
  /-- Element `I_MB_TYPE[5]` (43_mb_type_motion.md R306). -/
  | iMbType5 (sl : SliceType)
  /-- Element `I_MB_TYPE[6]` (43_mb_type_motion.md R306). -/
  | iMbType6 (sl : SliceType)
  /-- Element `I_MB_TYPE[7]` (43_mb_type_motion.md R306). -/
  | iMbType7 (sl : SliceType)
  /-- Element `I_MB_TYPE[8]` (43_mb_type_motion.md R306). -/
  | iMbType8 (sl : SliceType)
  /-- Element `I_MB_TYPE[9]` (43_mb_type_motion.md R306). -/
  | iMbType9 (sl : SliceType)
  /-- Element `I_MB_TYPE[10]` (43_mb_type_motion.md R306). -/
  | iMbType10 (sl : SliceType)
  /-- Element `I_MB_TYPE[11]` (43_mb_type_motion.md R306). -/
  | iMbType11 (sl : SliceType)
  /-- Element `I_MB_TYPE[12]` (43_mb_type_motion.md R306). -/
  | iMbType12 (sl : SliceType)
  /-- Element `I_MB_TYPE[13]` (43_mb_type_motion.md R306). -/
  | iMbType13 (sl : SliceType)
  /-- Element `I_MB_TYPE[14]` (43_mb_type_motion.md R306). -/
  | iMbType14 (sl : SliceType)
  /-- Element `I_MB_TYPE[15]` (43_mb_type_motion.md R306). -/
  | iMbType15 (sl : SliceType)
  /-- Element `I_MB_TYPE[16]` (43_mb_type_motion.md R306). -/
  | iMbType16 (sl : SliceType)
  /-- Element `I_MB_TYPE[17]` (43_mb_type_motion.md R306). -/
  | iMbType17 (sl : SliceType)
  /-- Element `I_MB_TYPE[18]` (43_mb_type_motion.md R306). -/
  | iMbType18 (sl : SliceType)
  /-- Element `I_MB_TYPE[19]` (43_mb_type_motion.md R306). -/
  | iMbType19 (sl : SliceType)
  /-- Element `I_MB_TYPE[20]` (43_mb_type_motion.md R306). -/
  | iMbType20 (sl : SliceType)
  /-- Element `I_MB_TYPE[21]` (43_mb_type_motion.md R306). -/
  | iMbType21 (sl : SliceType)
  /-- Element `I_MB_TYPE[22]` (43_mb_type_motion.md R306). -/
  | iMbType22 (sl : SliceType)
  /-- Element `I_MB_TYPE[23]` (43_mb_type_motion.md R306). -/
  | iMbType23 (sl : SliceType)
  /-- Element `I_MB_TYPE[24]` (43_mb_type_motion.md R306). -/
  | iMbType24 (sl : SliceType)
  /-- Element `I_MB_TYPE[25]` (43_mb_type_motion.md R306). -/
  | iMbType25 (sl : SliceType)
  /-- Element `P_MB_TYPE[0]` (43_mb_type_motion.md R307). -/
  | pMbType0
  /-- Element `P_MB_TYPE[1]` (43_mb_type_motion.md R307). -/
  | pMbType1
  /-- Element `P_MB_TYPE[2]` (43_mb_type_motion.md R307). -/
  | pMbType2
  /-- Element `P_MB_TYPE[3]` (43_mb_type_motion.md R307). -/
  | pMbType3
  /-- Element `P_MB_TYPE[4]` (43_mb_type_motion.md R307). -/
  | pMbType4
  /-- Element `B_MB_TYPE[0]` (43_mb_type_motion.md R308). -/
  | bMbType0
  /-- Element `B_MB_TYPE[1]` (43_mb_type_motion.md R308). -/
  | bMbType1
  /-- Element `B_MB_TYPE[2]` (43_mb_type_motion.md R308). -/
  | bMbType2
  /-- Element `B_MB_TYPE[3]` (43_mb_type_motion.md R308). -/
  | bMbType3
  /-- Element `B_MB_TYPE[4]` (43_mb_type_motion.md R308). -/
  | bMbType4
  /-- Element `B_MB_TYPE[5]` (43_mb_type_motion.md R308). -/
  | bMbType5
  /-- Element `B_MB_TYPE[6]` (43_mb_type_motion.md R308). -/
  | bMbType6
  /-- Element `B_MB_TYPE[7]` (43_mb_type_motion.md R308). -/
  | bMbType7
  /-- Element `B_MB_TYPE[8]` (43_mb_type_motion.md R308). -/
  | bMbType8
  /-- Element `B_MB_TYPE[9]` (43_mb_type_motion.md R308). -/
  | bMbType9
  /-- Element `B_MB_TYPE[10]` (43_mb_type_motion.md R308). -/
  | bMbType10
  /-- Element `B_MB_TYPE[11]` (43_mb_type_motion.md R308). -/
  | bMbType11
  /-- Element `B_MB_TYPE[12]` (43_mb_type_motion.md R308). -/
  | bMbType12
  /-- Element `B_MB_TYPE[13]` (43_mb_type_motion.md R308). -/
  | bMbType13
  /-- Element `B_MB_TYPE[14]` (43_mb_type_motion.md R308). -/
  | bMbType14
  /-- Element `B_MB_TYPE[15]` (43_mb_type_motion.md R308). -/
  | bMbType15
  /-- Element `B_MB_TYPE[16]` (43_mb_type_motion.md R308). -/
  | bMbType16
  /-- Element `B_MB_TYPE[17]` (43_mb_type_motion.md R308). -/
  | bMbType17
  /-- Element `B_MB_TYPE[18]` (43_mb_type_motion.md R308). -/
  | bMbType18
  /-- Element `B_MB_TYPE[19]` (43_mb_type_motion.md R308). -/
  | bMbType19
  /-- Element `B_MB_TYPE[20]` (43_mb_type_motion.md R308). -/
  | bMbType20
  /-- Element `B_MB_TYPE[21]` (43_mb_type_motion.md R308). -/
  | bMbType21
  /-- Element `B_MB_TYPE[22]` (43_mb_type_motion.md R308). -/
  | bMbType22
  /-- Element `P_SUB_MB_TYPE[0]` (43_mb_type_motion.md R309). -/
  | pSubMbType0 (i : BitVec 2)
  /-- Element `P_SUB_MB_TYPE[1]` (43_mb_type_motion.md R309). -/
  | pSubMbType1 (i : BitVec 2)
  /-- Element `P_SUB_MB_TYPE[2]` (43_mb_type_motion.md R309). -/
  | pSubMbType2 (i : BitVec 2)
  /-- Element `P_SUB_MB_TYPE[3]` (43_mb_type_motion.md R309). -/
  | pSubMbType3 (i : BitVec 2)
  /-- Element `B_SUB_MB_TYPE[0]` (43_mb_type_motion.md R309). -/
  | bSubMbType0 (i : BitVec 2)
  /-- Element `B_SUB_MB_TYPE[1]` (43_mb_type_motion.md R309). -/
  | bSubMbType1 (i : BitVec 2)
  /-- Element `B_SUB_MB_TYPE[2]` (43_mb_type_motion.md R309). -/
  | bSubMbType2 (i : BitVec 2)
  /-- Element `B_SUB_MB_TYPE[3]` (43_mb_type_motion.md R309). -/
  | bSubMbType3 (i : BitVec 2)
  /-- Element `B_SUB_MB_TYPE[4]` (43_mb_type_motion.md R309). -/
  | bSubMbType4 (i : BitVec 2)
  /-- Element `B_SUB_MB_TYPE[5]` (43_mb_type_motion.md R309). -/
  | bSubMbType5 (i : BitVec 2)
  /-- Element `B_SUB_MB_TYPE[6]` (43_mb_type_motion.md R309). -/
  | bSubMbType6 (i : BitVec 2)
  /-- Element `B_SUB_MB_TYPE[7]` (43_mb_type_motion.md R309). -/
  | bSubMbType7 (i : BitVec 2)
  /-- Element `B_SUB_MB_TYPE[8]` (43_mb_type_motion.md R309). -/
  | bSubMbType8 (i : BitVec 2)
  /-- Element `B_SUB_MB_TYPE[9]` (43_mb_type_motion.md R309). -/
  | bSubMbType9 (i : BitVec 2)
  /-- Element `B_SUB_MB_TYPE[10]` (43_mb_type_motion.md R309). -/
  | bSubMbType10 (i : BitVec 2)
  /-- Element `B_SUB_MB_TYPE[11]` (43_mb_type_motion.md R309). -/
  | bSubMbType11 (i : BitVec 2)
  /-- Element `B_SUB_MB_TYPE[12]` (43_mb_type_motion.md R309). -/
  | bSubMbType12 (i : BitVec 2)
  /-- Element `COEFF_TOKEN[0]` (31_vlc_tables.md R141). -/
  | coeffToken0 (t : Nat) (n : Nat)
  /-- Element `COEFF_TOKEN[1]` (31_vlc_tables.md R142). -/
  | coeffToken1 (t : Nat) (n : Nat)
  /-- Element `COEFF_TOKEN[2]` (31_vlc_tables.md R143). -/
  | coeffToken2 (t : Nat) (n : Nat)
  /-- Element `COEFF_TOKEN[3]` (31_vlc_tables.md R144). -/
  | coeffToken3 (t : Nat) (n : Nat)
  /-- Element `CHROMA_DC_COEFF_TOKEN` (31_vlc_tables.md R145). -/
  | chromaDcCoeffToken (t : Nat) (n : Nat)
  /-- Element `CHROMA422_DC_COEFF_TOKEN` (31_vlc_tables.md R146). -/
  | chroma422DcCoeffToken (t : Nat) (n : Nat)
  /-- Element `TOTAL_ZEROS[1]` (31_vlc_tables.md R147). -/
  | totalZeros1 (z : Nat)
  /-- Element `TOTAL_ZEROS[2]` (31_vlc_tables.md R147). -/
  | totalZeros2 (z : Nat)
  /-- Element `TOTAL_ZEROS[3]` (31_vlc_tables.md R147). -/
  | totalZeros3 (z : Nat)
  /-- Element `TOTAL_ZEROS[4]` (31_vlc_tables.md R147). -/
  | totalZeros4 (z : Nat)
  /-- Element `TOTAL_ZEROS[5]` (31_vlc_tables.md R147). -/
  | totalZeros5 (z : Nat)
  /-- Element `TOTAL_ZEROS[6]` (31_vlc_tables.md R147). -/
  | totalZeros6 (z : Nat)
  /-- Element `TOTAL_ZEROS[7]` (31_vlc_tables.md R147). -/
  | totalZeros7 (z : Nat)
  /-- Element `TOTAL_ZEROS[8]` (31_vlc_tables.md R147). -/
  | totalZeros8 (z : Nat)
  /-- Element `TOTAL_ZEROS[9]` (31_vlc_tables.md R147). -/
  | totalZeros9 (z : Nat)
  /-- Element `TOTAL_ZEROS[10]` (31_vlc_tables.md R147). -/
  | totalZeros10 (z : Nat)
  /-- Element `TOTAL_ZEROS[11]` (31_vlc_tables.md R147). -/
  | totalZeros11 (z : Nat)
  /-- Element `TOTAL_ZEROS[12]` (31_vlc_tables.md R147). -/
  | totalZeros12 (z : Nat)
  /-- Element `TOTAL_ZEROS[13]` (31_vlc_tables.md R147). -/
  | totalZeros13 (z : Nat)
  /-- Element `TOTAL_ZEROS[14]` (31_vlc_tables.md R147). -/
  | totalZeros14 (z : Nat)
  /-- Element `TOTAL_ZEROS[15]` (31_vlc_tables.md R147). -/
  | totalZeros15 (z : Nat)
  /-- Element `CHROMA_DC_TOTAL_ZEROS[1]` (31_vlc_tables.md R148). -/
  | chromaDcTotalZeros1 (z : Nat)
  /-- Element `CHROMA_DC_TOTAL_ZEROS[2]` (31_vlc_tables.md R148). -/
  | chromaDcTotalZeros2 (z : Nat)
  /-- Element `CHROMA_DC_TOTAL_ZEROS[3]` (31_vlc_tables.md R148). -/
  | chromaDcTotalZeros3 (z : Nat)
  /-- Element `CHROMA422_DC_TOTAL_ZEROS[1]` (31_vlc_tables.md R149). -/
  | chroma422DcTotalZeros1 (z : Nat)
  /-- Element `CHROMA422_DC_TOTAL_ZEROS[2]` (31_vlc_tables.md R149). -/
  | chroma422DcTotalZeros2 (z : Nat)
  /-- Element `CHROMA422_DC_TOTAL_ZEROS[3]` (31_vlc_tables.md R149). -/
  | chroma422DcTotalZeros3 (z : Nat)
  /-- Element `CHROMA422_DC_TOTAL_ZEROS[4]` (31_vlc_tables.md R149). -/
  | chroma422DcTotalZeros4 (z : Nat)
  /-- Element `CHROMA422_DC_TOTAL_ZEROS[5]` (31_vlc_tables.md R149). -/
  | chroma422DcTotalZeros5 (z : Nat)
  /-- Element `CHROMA422_DC_TOTAL_ZEROS[6]` (31_vlc_tables.md R149). -/
  | chroma422DcTotalZeros6 (z : Nat)
  /-- Element `CHROMA422_DC_TOTAL_ZEROS[7]` (31_vlc_tables.md R149). -/
  | chroma422DcTotalZeros7 (z : Nat)
  /-- Element `RUN_BEFORE[1]` (31_vlc_tables.md R150). -/
  | runBefore1 (r : Nat)
  /-- Element `RUN_BEFORE[2]` (31_vlc_tables.md R150). -/
  | runBefore2 (r : Nat)
  /-- Element `RUN_BEFORE[3]` (31_vlc_tables.md R150). -/
  | runBefore3 (r : Nat)
  /-- Element `RUN_BEFORE[4]` (31_vlc_tables.md R150). -/
  | runBefore4 (r : Nat)
  /-- Element `RUN_BEFORE[5]` (31_vlc_tables.md R150). -/
  | runBefore5 (r : Nat)
  /-- Element `RUN_BEFORE[6]` (31_vlc_tables.md R150). -/
  | runBefore6 (r : Nat)
  /-- Element `RUN7` (31_vlc_tables.md R151). -/
  | run7 (r : Nat)
  deriving DecidableEq, Repr

/-- A bitstream element by its family: the universal codes (R110 to R115), the codewords that select a macroblock
or sub-macroblock type (R305 to R309; `iMb k sl` is entry `k` of `I_MB_TYPE` read in a slice of type `sl`), and
the codewords of the VLC tables (R114, R116). -/
inductive Element where
  | u (n x : Nat)
  | ue (v : Nat)
  | se (v : Int)
  | te1
  | te2 (v : Nat)
  | teN (range v : Nat)
  | levelPrefix (p : Nat)
  | levelSuffix (n x : Nat)
  | sign (neg : Bool)
  | iMb (k : Nat) (sl : SliceType)
  | pMb (k : Nat)
  | bMb (k : Nat)
  | pSub (k : Nat) (i : BitVec 2)
  | bSub (k : Nat) (i : BitVec 2)
  | token (sel t n : Nat)
  | zeros (tc z : Nat)
  | chromaDcZeros (tc z : Nat)
  | chroma422DcZeros (tc z : Nat)
  | run (zl r : Nat)
  deriving DecidableEq, Repr

/-- What the grammar expects at the cursor (R120, R121): it selects the table an element is read with. -/
inductive ElemCtx where
  | u (n : Nat)
  | ue
  | se
  | te (range : Nat)
  | levelPrefix
  | levelSuffix (n : Nat)
  | sign
  | mbType (sl : SliceType)
  | subMbType (sl : SliceType) (i : BitVec 2)
  | token (sel : Nat)
  | zeros (tc : Nat)
  | chromaDcZeros (tc : Nat)
  | chroma422DcZeros (tc : Nat)
  | run (zl : Nat)
  deriving DecidableEq, Repr

/-- The element an instruction stands for; a command stands for none. -/
def Instr.element : Instr → Option Element
  | .vlcInit => none
  | .reset => none
  | .crWrite _ _ => none
  | .crRead _ => none
  | .tabWrite _ _ _ _ => none
  | .bsLoad _ => none
  | .bsSeek _ => none
  | .peek _ => none
  | .skip _ => none
  | .read _ => none
  | .readUe => none
  | .readSe => none
  | .readTe _ => none
  | .align => none
  | .bitsLeft => none
  | .readCoeffToken _ => none
  | .readTrailingSigns => none
  | .readLevel => none
  | .readTotalZeros => none
  | .readRunBefore => none
  | .decodeResidual _ _ _ _ => none
  | .cacheFill => none
  | .predNnz _ => none
  | .predMv _ _ _ _ => none
  | .predMv16x8 _ _ _ => none
  | .predMv8x16 _ _ _ => none
  | .predMvPskip => none
  | .predI4Mode _ => none
  | .cacheWriteback => none
  | .sliceStart _ => none
  | .mbDecode => none
  | .mbRecon => none
  | .sliceEnd => none
  | .mcSet _ _ => none
  | .qpelMc00 => none
  | .qpelMc10 => none
  | .qpelMc20 => none
  | .qpelMc30 => none
  | .qpelMc01 => none
  | .qpelMc11 => none
  | .qpelMc21 => none
  | .qpelMc31 => none
  | .qpelMc02 => none
  | .qpelMc12 => none
  | .qpelMc22 => none
  | .qpelMc32 => none
  | .qpelMc03 => none
  | .qpelMc13 => none
  | .qpelMc23 => none
  | .qpelMc33 => none
  | .mcChroma _ => none
  | .weightUni _ _ _ => none
  | .weightBi _ _ _ => none
  | .mcPart _ _ _ => none
  | .implicitWeight => none
  | .waitRow _ _ _ => none
  | .idct4Add _ => none
  | .idct4DcAdd _ => none
  | .idct8Add _ => none
  | .idct8DcAdd _ => none
  | .lumaDcDequantIdct _ => none
  | .chromaDcDequantIdct _ _ => none
  | .chroma422DcDequantIdct _ _ => none
  | .intraPred _ _ => none
  | .elemU n x => some (.u n x)
  | .elemUe v => some (.ue v)
  | .elemSe v => some (.se v)
  | .elemTe1 => some (.te1)
  | .elemTe2 v => some (.te2 v)
  | .elemTeN range v => some (.teN range v)
  | .levelPrefix p => some (.levelPrefix p)
  | .levelSuffix n x => some (.levelSuffix n x)
  | .trailingOnesSign neg => some (.sign neg)
  | .iMbType0 sl => some (.iMb 0 sl)
  | .iMbType1 sl => some (.iMb 1 sl)
  | .iMbType2 sl => some (.iMb 2 sl)
  | .iMbType3 sl => some (.iMb 3 sl)
  | .iMbType4 sl => some (.iMb 4 sl)
  | .iMbType5 sl => some (.iMb 5 sl)
  | .iMbType6 sl => some (.iMb 6 sl)
  | .iMbType7 sl => some (.iMb 7 sl)
  | .iMbType8 sl => some (.iMb 8 sl)
  | .iMbType9 sl => some (.iMb 9 sl)
  | .iMbType10 sl => some (.iMb 10 sl)
  | .iMbType11 sl => some (.iMb 11 sl)
  | .iMbType12 sl => some (.iMb 12 sl)
  | .iMbType13 sl => some (.iMb 13 sl)
  | .iMbType14 sl => some (.iMb 14 sl)
  | .iMbType15 sl => some (.iMb 15 sl)
  | .iMbType16 sl => some (.iMb 16 sl)
  | .iMbType17 sl => some (.iMb 17 sl)
  | .iMbType18 sl => some (.iMb 18 sl)
  | .iMbType19 sl => some (.iMb 19 sl)
  | .iMbType20 sl => some (.iMb 20 sl)
  | .iMbType21 sl => some (.iMb 21 sl)
  | .iMbType22 sl => some (.iMb 22 sl)
  | .iMbType23 sl => some (.iMb 23 sl)
  | .iMbType24 sl => some (.iMb 24 sl)
  | .iMbType25 sl => some (.iMb 25 sl)
  | .pMbType0 => some (.pMb 0)
  | .pMbType1 => some (.pMb 1)
  | .pMbType2 => some (.pMb 2)
  | .pMbType3 => some (.pMb 3)
  | .pMbType4 => some (.pMb 4)
  | .bMbType0 => some (.bMb 0)
  | .bMbType1 => some (.bMb 1)
  | .bMbType2 => some (.bMb 2)
  | .bMbType3 => some (.bMb 3)
  | .bMbType4 => some (.bMb 4)
  | .bMbType5 => some (.bMb 5)
  | .bMbType6 => some (.bMb 6)
  | .bMbType7 => some (.bMb 7)
  | .bMbType8 => some (.bMb 8)
  | .bMbType9 => some (.bMb 9)
  | .bMbType10 => some (.bMb 10)
  | .bMbType11 => some (.bMb 11)
  | .bMbType12 => some (.bMb 12)
  | .bMbType13 => some (.bMb 13)
  | .bMbType14 => some (.bMb 14)
  | .bMbType15 => some (.bMb 15)
  | .bMbType16 => some (.bMb 16)
  | .bMbType17 => some (.bMb 17)
  | .bMbType18 => some (.bMb 18)
  | .bMbType19 => some (.bMb 19)
  | .bMbType20 => some (.bMb 20)
  | .bMbType21 => some (.bMb 21)
  | .bMbType22 => some (.bMb 22)
  | .pSubMbType0 i => some (.pSub 0 i)
  | .pSubMbType1 i => some (.pSub 1 i)
  | .pSubMbType2 i => some (.pSub 2 i)
  | .pSubMbType3 i => some (.pSub 3 i)
  | .bSubMbType0 i => some (.bSub 0 i)
  | .bSubMbType1 i => some (.bSub 1 i)
  | .bSubMbType2 i => some (.bSub 2 i)
  | .bSubMbType3 i => some (.bSub 3 i)
  | .bSubMbType4 i => some (.bSub 4 i)
  | .bSubMbType5 i => some (.bSub 5 i)
  | .bSubMbType6 i => some (.bSub 6 i)
  | .bSubMbType7 i => some (.bSub 7 i)
  | .bSubMbType8 i => some (.bSub 8 i)
  | .bSubMbType9 i => some (.bSub 9 i)
  | .bSubMbType10 i => some (.bSub 10 i)
  | .bSubMbType11 i => some (.bSub 11 i)
  | .bSubMbType12 i => some (.bSub 12 i)
  | .coeffToken0 t n => some (.token 0 t n)
  | .coeffToken1 t n => some (.token 1 t n)
  | .coeffToken2 t n => some (.token 2 t n)
  | .coeffToken3 t n => some (.token 3 t n)
  | .chromaDcCoeffToken t n => some (.token 4 t n)
  | .chroma422DcCoeffToken t n => some (.token 5 t n)
  | .totalZeros1 z => some (.zeros 1 z)
  | .totalZeros2 z => some (.zeros 2 z)
  | .totalZeros3 z => some (.zeros 3 z)
  | .totalZeros4 z => some (.zeros 4 z)
  | .totalZeros5 z => some (.zeros 5 z)
  | .totalZeros6 z => some (.zeros 6 z)
  | .totalZeros7 z => some (.zeros 7 z)
  | .totalZeros8 z => some (.zeros 8 z)
  | .totalZeros9 z => some (.zeros 9 z)
  | .totalZeros10 z => some (.zeros 10 z)
  | .totalZeros11 z => some (.zeros 11 z)
  | .totalZeros12 z => some (.zeros 12 z)
  | .totalZeros13 z => some (.zeros 13 z)
  | .totalZeros14 z => some (.zeros 14 z)
  | .totalZeros15 z => some (.zeros 15 z)
  | .chromaDcTotalZeros1 z => some (.chromaDcZeros 1 z)
  | .chromaDcTotalZeros2 z => some (.chromaDcZeros 2 z)
  | .chromaDcTotalZeros3 z => some (.chromaDcZeros 3 z)
  | .chroma422DcTotalZeros1 z => some (.chroma422DcZeros 1 z)
  | .chroma422DcTotalZeros2 z => some (.chroma422DcZeros 2 z)
  | .chroma422DcTotalZeros3 z => some (.chroma422DcZeros 3 z)
  | .chroma422DcTotalZeros4 z => some (.chroma422DcZeros 4 z)
  | .chroma422DcTotalZeros5 z => some (.chroma422DcZeros 5 z)
  | .chroma422DcTotalZeros6 z => some (.chroma422DcZeros 6 z)
  | .chroma422DcTotalZeros7 z => some (.chroma422DcZeros 7 z)
  | .runBefore1 r => some (.run 1 r)
  | .runBefore2 r => some (.run 2 r)
  | .runBefore3 r => some (.run 3 r)
  | .runBefore4 r => some (.run 4 r)
  | .runBefore5 r => some (.run 5 r)
  | .runBefore6 r => some (.run 6 r)
  | .run7 r => some (.run 7 r)

/-- The instruction of an element, where its table has that entry. -/
def Element.toInstr : Element → Option Instr
  | .u n x => some (.elemU n x)
  | .ue v => some (.elemUe v)
  | .se v => some (.elemSe v)
  | .te1 => some (.elemTe1)
  | .te2 v => some (.elemTe2 v)
  | .teN range v => some (.elemTeN range v)
  | .levelPrefix p => some (.levelPrefix p)
  | .levelSuffix n x => some (.levelSuffix n x)
  | .sign neg => some (.trailingOnesSign neg)
  | .iMb 0 sl => some (.iMbType0 sl)
  | .iMb 1 sl => some (.iMbType1 sl)
  | .iMb 2 sl => some (.iMbType2 sl)
  | .iMb 3 sl => some (.iMbType3 sl)
  | .iMb 4 sl => some (.iMbType4 sl)
  | .iMb 5 sl => some (.iMbType5 sl)
  | .iMb 6 sl => some (.iMbType6 sl)
  | .iMb 7 sl => some (.iMbType7 sl)
  | .iMb 8 sl => some (.iMbType8 sl)
  | .iMb 9 sl => some (.iMbType9 sl)
  | .iMb 10 sl => some (.iMbType10 sl)
  | .iMb 11 sl => some (.iMbType11 sl)
  | .iMb 12 sl => some (.iMbType12 sl)
  | .iMb 13 sl => some (.iMbType13 sl)
  | .iMb 14 sl => some (.iMbType14 sl)
  | .iMb 15 sl => some (.iMbType15 sl)
  | .iMb 16 sl => some (.iMbType16 sl)
  | .iMb 17 sl => some (.iMbType17 sl)
  | .iMb 18 sl => some (.iMbType18 sl)
  | .iMb 19 sl => some (.iMbType19 sl)
  | .iMb 20 sl => some (.iMbType20 sl)
  | .iMb 21 sl => some (.iMbType21 sl)
  | .iMb 22 sl => some (.iMbType22 sl)
  | .iMb 23 sl => some (.iMbType23 sl)
  | .iMb 24 sl => some (.iMbType24 sl)
  | .iMb 25 sl => some (.iMbType25 sl)
  | .pMb 0 => some (.pMbType0)
  | .pMb 1 => some (.pMbType1)
  | .pMb 2 => some (.pMbType2)
  | .pMb 3 => some (.pMbType3)
  | .pMb 4 => some (.pMbType4)
  | .bMb 0 => some (.bMbType0)
  | .bMb 1 => some (.bMbType1)
  | .bMb 2 => some (.bMbType2)
  | .bMb 3 => some (.bMbType3)
  | .bMb 4 => some (.bMbType4)
  | .bMb 5 => some (.bMbType5)
  | .bMb 6 => some (.bMbType6)
  | .bMb 7 => some (.bMbType7)
  | .bMb 8 => some (.bMbType8)
  | .bMb 9 => some (.bMbType9)
  | .bMb 10 => some (.bMbType10)
  | .bMb 11 => some (.bMbType11)
  | .bMb 12 => some (.bMbType12)
  | .bMb 13 => some (.bMbType13)
  | .bMb 14 => some (.bMbType14)
  | .bMb 15 => some (.bMbType15)
  | .bMb 16 => some (.bMbType16)
  | .bMb 17 => some (.bMbType17)
  | .bMb 18 => some (.bMbType18)
  | .bMb 19 => some (.bMbType19)
  | .bMb 20 => some (.bMbType20)
  | .bMb 21 => some (.bMbType21)
  | .bMb 22 => some (.bMbType22)
  | .pSub 0 i => some (.pSubMbType0 i)
  | .pSub 1 i => some (.pSubMbType1 i)
  | .pSub 2 i => some (.pSubMbType2 i)
  | .pSub 3 i => some (.pSubMbType3 i)
  | .bSub 0 i => some (.bSubMbType0 i)
  | .bSub 1 i => some (.bSubMbType1 i)
  | .bSub 2 i => some (.bSubMbType2 i)
  | .bSub 3 i => some (.bSubMbType3 i)
  | .bSub 4 i => some (.bSubMbType4 i)
  | .bSub 5 i => some (.bSubMbType5 i)
  | .bSub 6 i => some (.bSubMbType6 i)
  | .bSub 7 i => some (.bSubMbType7 i)
  | .bSub 8 i => some (.bSubMbType8 i)
  | .bSub 9 i => some (.bSubMbType9 i)
  | .bSub 10 i => some (.bSubMbType10 i)
  | .bSub 11 i => some (.bSubMbType11 i)
  | .bSub 12 i => some (.bSubMbType12 i)
  | .token 0 t n => some (.coeffToken0 t n)
  | .token 1 t n => some (.coeffToken1 t n)
  | .token 2 t n => some (.coeffToken2 t n)
  | .token 3 t n => some (.coeffToken3 t n)
  | .token 4 t n => some (.chromaDcCoeffToken t n)
  | .token 5 t n => some (.chroma422DcCoeffToken t n)
  | .zeros 1 z => some (.totalZeros1 z)
  | .zeros 2 z => some (.totalZeros2 z)
  | .zeros 3 z => some (.totalZeros3 z)
  | .zeros 4 z => some (.totalZeros4 z)
  | .zeros 5 z => some (.totalZeros5 z)
  | .zeros 6 z => some (.totalZeros6 z)
  | .zeros 7 z => some (.totalZeros7 z)
  | .zeros 8 z => some (.totalZeros8 z)
  | .zeros 9 z => some (.totalZeros9 z)
  | .zeros 10 z => some (.totalZeros10 z)
  | .zeros 11 z => some (.totalZeros11 z)
  | .zeros 12 z => some (.totalZeros12 z)
  | .zeros 13 z => some (.totalZeros13 z)
  | .zeros 14 z => some (.totalZeros14 z)
  | .zeros 15 z => some (.totalZeros15 z)
  | .chromaDcZeros 1 z => some (.chromaDcTotalZeros1 z)
  | .chromaDcZeros 2 z => some (.chromaDcTotalZeros2 z)
  | .chromaDcZeros 3 z => some (.chromaDcTotalZeros3 z)
  | .chroma422DcZeros 1 z => some (.chroma422DcTotalZeros1 z)
  | .chroma422DcZeros 2 z => some (.chroma422DcTotalZeros2 z)
  | .chroma422DcZeros 3 z => some (.chroma422DcTotalZeros3 z)
  | .chroma422DcZeros 4 z => some (.chroma422DcTotalZeros4 z)
  | .chroma422DcZeros 5 z => some (.chroma422DcTotalZeros5 z)
  | .chroma422DcZeros 6 z => some (.chroma422DcTotalZeros6 z)
  | .chroma422DcZeros 7 z => some (.chroma422DcTotalZeros7 z)
  | .run 1 r => some (.runBefore1 r)
  | .run 2 r => some (.runBefore2 r)
  | .run 3 r => some (.runBefore3 r)
  | .run 4 r => some (.runBefore4 r)
  | .run 5 r => some (.runBefore5 r)
  | .run 6 r => some (.runBefore6 r)
  | .run 7 r => some (.run7 r)
  | _ => none

end Sys2Proof
end

