-- ==== Sys2Proof/Machine/Legal.lean ====
section
/-! DEFINITION. The legal set of every operand field of a command (30_encoding.md R102, and the rule of the
command), as far as it does not depend on the state. -/

namespace Sys2Proof.Legal

/-- A bit count, 0..32 (R172 to R174). -/
def bits (n : BitVec 8) : Bool := decide (n.toNat ≤ 32)

/-- A candidate count, 1..32 (R177). -/
def range (n : BitVec 8) : Bool := decide (1 ≤ n.toNat ∧ n.toNat ≤ 32)

/-- A register number, 0..13 (R513). -/
def controlReg (a : BitVec 8) : Bool := decide (a.toNat ≤ 13)

/-- A register `CR_WRITE` may write (70_reset_and_hazards.md R512). -/
def writableReg (a : BitVec 8) : Bool := decide (a.toNat ∈ [0, 1, 2, 3, 9, 10, 11])

/-- A table RAM id, 0..8 (R514). -/
def ram (a : BitVec 8) : Bool := decide (a.toNat ≤ 8)

/-- A bitstream length, below 2^31 (R171). -/
def streamLen (d : Word) : Bool := decide (d.toNat < 2 ^ 31)

/-- A coefficient-token table selector, 0..5 (R206). -/
def tokenSel (a : BitVec 8) : Bool := decide (a.toNat ≤ 5)

/-- A block id of a residual block with a predicted count, 0..23 (R264). -/
def block (a : BitVec 8) : Bool := decide (a.toNat ≤ 23)

/-- A luma block id, 0..15. -/
def lumaBlock (a : BitVec 8) : Bool := decide (a.toNat ≤ 15)

/-- A luma 8x8 quadrant, 0..3. -/
def quadrant (a : BitVec 8) : Bool := decide (a.toNat ≤ 3)

/-- A list number, 0..1. -/
def list (a : BitVec 8) : Bool := decide (a.toNat ≤ 1)

/-- A reference index in an 8-bit field, 0..31. -/
def ref (a : BitVec 8) : Bool := decide (a.toNat ≤ 31)

/-- A reference index in field `d`, 0..31. -/
def refWord (d : Word) : Bool := decide (d.toNat ≤ 31)

/-- A plane number 0 Y, 1 Cb, 2 Cr (R400). -/
def plane (a : BitVec 8) : Bool := decide (a.toNat ≤ 2)

/-- A chroma plane number of `MC_CHROMA`, 1 or 2 (R394). -/
def chromaPlane (a : BitVec 8) : Bool := decide (a.toNat = 1 ∨ a.toNat = 2)

/-- A chroma index of the DC transforms, 0 or 1 (R432, R434). -/
def chromaIndex (a : BitVec 8) : Bool := decide (a.toNat ≤ 1)

/-- A partition width in blocks, 1, 2 or 4 (R266). -/
def partWidth (a : BitVec 8) : Bool := decide (a.toNat = 1 ∨ a.toNat = 2 ∨ a.toNat = 4)

/-- The operands of `MC_PART` (R408): a luma block and a size 4, 8 or 16 by 4, 8 or 16 that lies inside the
macroblock. -/
def partition (n w h : BitVec 8) : Bool :=
  decide (n.toNat ≤ 15 ∧ w.toNat ∈ [4, 8, 16] ∧ h.toNat ∈ [4, 8, 16]
    ∧ 4 * (n.toNat % 2 + 2 * (n.toNat / 4 % 2)) + w.toNat ≤ 16
    ∧ 4 * (n.toNat / 2 % 2 + 2 * (n.toNat / 8 % 2)) + h.toNat ≤ 16)

/-- A value of a motion compensation register (R371), as far as it does not depend on the picture size. -/
def mcValue (reg : BitVec 8) (v : Word) : Bool :=
  match reg.toNat with
  | 0 => decide (v.toNat < 2 ^ 16)
  | 1 => decide (v.toNat < 2 ^ 16)
  | 2 => true
  | 3 => true
  | 4 => decide (v.toNat ∈ [2, 4, 8, 16])
  | 5 => decide (v.toNat ∈ [2, 4, 8, 16])
  | 6 => decide (v.toNat ≤ 1)
  | 7 => decide (v.toNat ≤ 31)
  | 8 => decide (v.toNat ≤ 1)
  | 9 => decide (v.toNat ≤ 7)
  | 10 => decide (v.toNat ≤ 7)
  | 11 => decide (v.toNat ≤ 1)
  | _ => false

/-- The kind and block of `INTRA_PRED` (R440). -/
def intraBlock (kind b : BitVec 8) : Bool :=
  match kind.toNat with
  | 0 => decide (b.toNat ≤ 15)
  | 1 => decide (b.toNat ∈ [0, 4, 8, 12])
  | 2 => decide (b.toNat = 0)
  | 3 => decide (b.toNat = 16 ∨ b.toNat = 20)
  | _ => false

/-- The fields of the qmul selector `d` of `DECODE_RESIDUAL` (R103). -/
structure Qmul where
  valid : Bool
  is8 : Bool
  dest8 : Bool
  m : Nat
  scanOffset : Nat
  qp : Nat
  deriving DecidableEq, Repr

/-- Reading the selector (R103). -/
def qmul (d : Word) : Qmul :=
  ⟨d.getLsbD 31, d.getLsbD 30, d.getLsbD 29, (d.extractLsb' 24 3).toNat, (d.extractLsb' 16 6).toNat,
    (d.extractLsb' 0 7).toNat⟩

/-- The bits of the selector that R103 does not name are 0. DEDUCED, log 14. -/
def qmulNamed (d : Word) : Bool :=
  decide (d.extractLsb' 27 2 = 0 ∧ d.extractLsb' 22 2 = 0 ∧ d.extractLsb' 7 9 = 0)

/-- The table of R200: which `max_coeff` and `dest8` go with a block. -/
def residualShape (blk maxCoeff : Nat) (dest8 : Bool) : Bool :=
  if blk ≤ 15 then (if dest8 then decide (maxCoeff = 16) else decide (maxCoeff = 15 ∨ maxCoeff = 16))
  else if dest8 then false
  else if blk ≤ 23 then decide (maxCoeff = 15 ∨ maxCoeff = 16)
  else if blk = 24 then decide (maxCoeff = 16)
  else if blk ≤ 26 then decide (maxCoeff = 4 ∨ maxCoeff = 8)
  else false

/-- The operands of `DECODE_RESIDUAL` (R103, R200), less the check of `qp` against `MAX_QP`, which needs the state. -/
def residual (blk scan maxCoeff : BitVec 8) (d : Word) : Bool :=
  let q := qmul d
  residualShape blk.toNat maxCoeff.toNat q.dest8 && decide (scan.toNat ≤ 7) && qmulNamed d
    && decide (q.scanOffset ≤ 48 ∧ q.scanOffset + maxCoeff.toNat ≤ 64) && decide (q.m ≤ 5)
    && (q.valid || (!q.is8 && decide (q.m = 0 ∧ q.qp = 0)))

end Sys2Proof.Legal
end

