-- ==== Sys2Proof/Machine/VlcTables.lean ====
section
/-! DEFINITION. The VLC table set (31_vlc_tables.md R140 to R151), each table an array of (symbol, codeword length,
codeword bits) as R140 describes it. The numeral of a codeword is its bit string. -/

namespace Sys2Proof.Vlc

/-- One codeword (R140): the symbol it spells, its length, and its bits as a number, first bit highest. -/
structure Code where
  sym : Nat
  len : Nat
  bits : Nat
  deriving DecidableEq, Repr

/-- The symbol of a coefficient-token table (R140): `4*total_coeff + trailing_ones`. -/
def tokenSym (t n : Nat) : Nat := 4 * n + t

/-- A row of coefficient-token codewords for one `total_coeff`, from `trailing_ones` `t` on. -/
def tokenRow (n : Nat) : Nat → List (Nat × Nat) → List Code
  | _, [] => []
  | t, (l, b) :: rest => ⟨tokenSym t n, l, b⟩ :: tokenRow n (t + 1) rest

/-- The codewords of a table whose symbols are `s`, `s + 1`, and so on. -/
def codesFrom : Nat → List (Nat × Nat) → List Code
  | _, [] => []
  | s, (l, b) :: rest => ⟨s, l, b⟩ :: codesFrom (s + 1) rest

/-- `COEFF_TOKEN[0]` (31_vlc_tables.md R141). -/
def coeffToken0 : List Code :=
  tokenRow 0 0 [(1, 0b1)] ++
  tokenRow 1 0 [(6, 0b000101), (2, 0b01)] ++
  tokenRow 2 0 [(8, 0b00000111), (6, 0b000100), (3, 0b001)] ++
  tokenRow 3 0 [(9, 0b000000111), (8, 0b00000110), (7, 0b0000101), (5, 0b00011)] ++
  tokenRow 4 0 [(10, 0b0000000111), (9, 0b000000110), (8, 0b00000101), (6, 0b000011)] ++
  tokenRow 5 0 [(11, 0b00000000111), (10, 0b0000000110), (9, 0b000000101), (7, 0b0000100)] ++
  tokenRow 6 0 [(13, 0b0000000001111), (11, 0b00000000110), (10, 0b0000000101), (8, 0b00000100)] ++
  tokenRow 7 0 [(13, 0b0000000001011), (13, 0b0000000001110), (11, 0b00000000101), (9, 0b000000100)] ++
  tokenRow 8 0 [(13, 0b0000000001000), (13, 0b0000000001010), (13, 0b0000000001101), (10, 0b0000000100)] ++
  tokenRow 9 0 [(14, 0b00000000001111), (14, 0b00000000001110), (13, 0b0000000001001), (11, 0b00000000100)] ++
  tokenRow 10 0 [(14, 0b00000000001011), (14, 0b00000000001010), (14, 0b00000000001101), (13, 0b0000000001100)] ++
  tokenRow 11 0 [(15, 0b000000000001111), (15, 0b000000000001110), (14, 0b00000000001001), (14, 0b00000000001100)] ++
  tokenRow 12 0 [(15, 0b000000000001011), (15, 0b000000000001010), (15, 0b000000000001101), (14, 0b00000000001000)] ++
  tokenRow 13 0 [(16, 0b0000000000001111), (15, 0b000000000000001), (15, 0b000000000001001), (15, 0b000000000001100)] ++
  tokenRow 14 0 [(16, 0b0000000000001011), (16, 0b0000000000001110), (16, 0b0000000000001101), (15, 0b000000000001000)] ++
  tokenRow 15 0 [(16, 0b0000000000000111), (16, 0b0000000000001010), (16, 0b0000000000001001), (16, 0b0000000000001100)] ++
  tokenRow 16 0 [(16, 0b0000000000000100), (16, 0b0000000000000110), (16, 0b0000000000000101), (16, 0b0000000000001000)]

/-- `COEFF_TOKEN[1]` (31_vlc_tables.md R142). -/
def coeffToken1 : List Code :=
  tokenRow 0 0 [(2, 0b11)] ++
  tokenRow 1 0 [(6, 0b001011), (2, 0b10)] ++
  tokenRow 2 0 [(6, 0b000111), (5, 0b00111), (3, 0b011)] ++
  tokenRow 3 0 [(7, 0b0000111), (6, 0b001010), (6, 0b001001), (4, 0b0101)] ++
  tokenRow 4 0 [(8, 0b00000111), (6, 0b000110), (6, 0b000101), (4, 0b0100)] ++
  tokenRow 5 0 [(8, 0b00000100), (7, 0b0000110), (7, 0b0000101), (5, 0b00110)] ++
  tokenRow 6 0 [(9, 0b000000111), (8, 0b00000110), (8, 0b00000101), (6, 0b001000)] ++
  tokenRow 7 0 [(11, 0b00000001111), (9, 0b000000110), (9, 0b000000101), (6, 0b000100)] ++
  tokenRow 8 0 [(11, 0b00000001011), (11, 0b00000001110), (11, 0b00000001101), (7, 0b0000100)] ++
  tokenRow 9 0 [(12, 0b000000001111), (11, 0b00000001010), (11, 0b00000001001), (9, 0b000000100)] ++
  tokenRow 10 0 [(12, 0b000000001011), (12, 0b000000001110), (12, 0b000000001101), (11, 0b00000001100)] ++
  tokenRow 11 0 [(12, 0b000000001000), (12, 0b000000001010), (12, 0b000000001001), (11, 0b00000001000)] ++
  tokenRow 12 0 [(13, 0b0000000001111), (13, 0b0000000001110), (13, 0b0000000001101), (12, 0b000000001100)] ++
  tokenRow 13 0 [(13, 0b0000000001011), (13, 0b0000000001010), (13, 0b0000000001001), (13, 0b0000000001100)] ++
  tokenRow 14 0 [(13, 0b0000000000111), (14, 0b00000000001011), (13, 0b0000000000110), (13, 0b0000000001000)] ++
  tokenRow 15 0 [(14, 0b00000000001001), (14, 0b00000000001000), (14, 0b00000000001010), (13, 0b0000000000001)] ++
  tokenRow 16 0 [(14, 0b00000000000111), (14, 0b00000000000110), (14, 0b00000000000101), (14, 0b00000000000100)]

/-- `COEFF_TOKEN[2]` (31_vlc_tables.md R143). -/
def coeffToken2 : List Code :=
  tokenRow 0 0 [(4, 0b1111)] ++
  tokenRow 1 0 [(6, 0b001111), (4, 0b1110)] ++
  tokenRow 2 0 [(6, 0b001011), (5, 0b01111), (4, 0b1101)] ++
  tokenRow 3 0 [(6, 0b001000), (5, 0b01100), (5, 0b01110), (4, 0b1100)] ++
  tokenRow 4 0 [(7, 0b0001111), (5, 0b01010), (5, 0b01011), (4, 0b1011)] ++
  tokenRow 5 0 [(7, 0b0001011), (5, 0b01000), (5, 0b01001), (4, 0b1010)] ++
  tokenRow 6 0 [(7, 0b0001001), (6, 0b001110), (6, 0b001101), (4, 0b1001)] ++
  tokenRow 7 0 [(7, 0b0001000), (6, 0b001010), (6, 0b001001), (4, 0b1000)] ++
  tokenRow 8 0 [(8, 0b00001111), (7, 0b0001110), (7, 0b0001101), (5, 0b01101)] ++
  tokenRow 9 0 [(8, 0b00001011), (8, 0b00001110), (7, 0b0001010), (6, 0b001100)] ++
  tokenRow 10 0 [(9, 0b000001111), (8, 0b00001010), (8, 0b00001101), (7, 0b0001100)] ++
  tokenRow 11 0 [(9, 0b000001011), (9, 0b000001110), (8, 0b00001001), (8, 0b00001100)] ++
  tokenRow 12 0 [(9, 0b000001000), (9, 0b000001010), (9, 0b000001101), (8, 0b00001000)] ++
  tokenRow 13 0 [(10, 0b0000001101), (9, 0b000000111), (9, 0b000001001), (9, 0b000001100)] ++
  tokenRow 14 0 [(10, 0b0000001001), (10, 0b0000001100), (10, 0b0000001011), (10, 0b0000001010)] ++
  tokenRow 15 0 [(10, 0b0000000101), (10, 0b0000001000), (10, 0b0000000111), (10, 0b0000000110)] ++
  tokenRow 16 0 [(10, 0b0000000001), (10, 0b0000000100), (10, 0b0000000011), (10, 0b0000000010)]

/-- `COEFF_TOKEN[3]` (31_vlc_tables.md R144). -/
def coeffToken3 : List Code :=
  tokenRow 0 0 [(6, 0b000011)] ++
  tokenRow 1 0 [(6, 0b000000), (6, 0b000001)] ++
  tokenRow 2 0 [(6, 0b000100), (6, 0b000101), (6, 0b000110)] ++
  tokenRow 3 0 [(6, 0b001000), (6, 0b001001), (6, 0b001010), (6, 0b001011)] ++
  tokenRow 4 0 [(6, 0b001100), (6, 0b001101), (6, 0b001110), (6, 0b001111)] ++
  tokenRow 5 0 [(6, 0b010000), (6, 0b010001), (6, 0b010010), (6, 0b010011)] ++
  tokenRow 6 0 [(6, 0b010100), (6, 0b010101), (6, 0b010110), (6, 0b010111)] ++
  tokenRow 7 0 [(6, 0b011000), (6, 0b011001), (6, 0b011010), (6, 0b011011)] ++
  tokenRow 8 0 [(6, 0b011100), (6, 0b011101), (6, 0b011110), (6, 0b011111)] ++
  tokenRow 9 0 [(6, 0b100000), (6, 0b100001), (6, 0b100010), (6, 0b100011)] ++
  tokenRow 10 0 [(6, 0b100100), (6, 0b100101), (6, 0b100110), (6, 0b100111)] ++
  tokenRow 11 0 [(6, 0b101000), (6, 0b101001), (6, 0b101010), (6, 0b101011)] ++
  tokenRow 12 0 [(6, 0b101100), (6, 0b101101), (6, 0b101110), (6, 0b101111)] ++
  tokenRow 13 0 [(6, 0b110000), (6, 0b110001), (6, 0b110010), (6, 0b110011)] ++
  tokenRow 14 0 [(6, 0b110100), (6, 0b110101), (6, 0b110110), (6, 0b110111)] ++
  tokenRow 15 0 [(6, 0b111000), (6, 0b111001), (6, 0b111010), (6, 0b111011)] ++
  tokenRow 16 0 [(6, 0b111100), (6, 0b111101), (6, 0b111110), (6, 0b111111)]

/-- `CHROMA_DC_COEFF_TOKEN` (31_vlc_tables.md R145). -/
def chromaDcCoeffToken : List Code :=
  tokenRow 0 0 [(2, 0b01)] ++
  tokenRow 1 0 [(6, 0b000111), (1, 0b1)] ++
  tokenRow 2 0 [(6, 0b000100), (6, 0b000110), (3, 0b001)] ++
  tokenRow 3 0 [(6, 0b000011), (7, 0b0000011), (7, 0b0000010), (6, 0b000101)] ++
  tokenRow 4 0 [(6, 0b000010), (8, 0b00000011), (8, 0b00000010), (7, 0b0000000)]

/-- `CHROMA422_DC_COEFF_TOKEN` (31_vlc_tables.md R146). -/
def chroma422DcCoeffToken : List Code :=
  tokenRow 0 0 [(1, 0b1)] ++
  tokenRow 1 0 [(7, 0b0001111), (2, 0b01)] ++
  tokenRow 2 0 [(7, 0b0001110), (7, 0b0001101), (3, 0b001)] ++
  tokenRow 3 0 [(9, 0b000000111), (7, 0b0001100), (7, 0b0001011), (5, 0b00001)] ++
  tokenRow 4 0 [(9, 0b000000110), (9, 0b000000101), (7, 0b0001010), (6, 0b000001)] ++
  tokenRow 5 0 [(10, 0b0000000111), (10, 0b0000000110), (9, 0b000000100), (7, 0b0001001)] ++
  tokenRow 6 0 [(11, 0b00000000111), (11, 0b00000000110), (10, 0b0000000101), (7, 0b0001000)] ++
  tokenRow 7 0 [(12, 0b000000000111), (12, 0b000000000110), (11, 0b00000000101), (10, 0b0000000100)] ++
  tokenRow 8 0 [(13, 0b0000000000111), (12, 0b000000000101), (12, 0b000000000100), (11, 0b00000000100)]

/-- `TOTAL_ZEROS[1]` (31_vlc_tables.md R147). -/
def totalZeros1 : List Code := codesFrom 0
  [(1, 0b1), (3, 0b011), (3, 0b010), (4, 0b0011), (4, 0b0010), (5, 0b00011), (5, 0b00010), (6, 0b000011),
   (6, 0b000010), (7, 0b0000011), (7, 0b0000010), (8, 0b00000011), (8, 0b00000010), (9, 0b000000011), (9, 0b000000010), (9, 0b000000001)]

/-- `TOTAL_ZEROS[2]` (31_vlc_tables.md R147). -/
def totalZeros2 : List Code := codesFrom 0
  [(3, 0b111), (3, 0b110), (3, 0b101), (3, 0b100), (3, 0b011), (4, 0b0101), (4, 0b0100),
   (4, 0b0011), (4, 0b0010), (5, 0b00011), (5, 0b00010), (6, 0b000011), (6, 0b000010), (6, 0b000001), (6, 0b000000)]

/-- `TOTAL_ZEROS[3]` (31_vlc_tables.md R147). -/
def totalZeros3 : List Code := codesFrom 0
  [(4, 0b0101), (3, 0b111), (3, 0b110), (3, 0b101), (4, 0b0100), (4, 0b0011), (3, 0b100),
   (3, 0b011), (4, 0b0010), (5, 0b00011), (5, 0b00010), (6, 0b000001), (5, 0b00001), (6, 0b000000)]

/-- `TOTAL_ZEROS[4]` (31_vlc_tables.md R147). -/
def totalZeros4 : List Code := codesFrom 0
  [(5, 0b00011), (3, 0b111), (4, 0b0101), (4, 0b0100), (3, 0b110), (3, 0b101),
   (3, 0b100), (4, 0b0011), (3, 0b011), (4, 0b0010), (5, 0b00010), (5, 0b00001), (5, 0b00000)]

/-- `TOTAL_ZEROS[5]` (31_vlc_tables.md R147). -/
def totalZeros5 : List Code := codesFrom 0
  [(4, 0b0101), (4, 0b0100), (4, 0b0011), (3, 0b111), (3, 0b110), (3, 0b101),
   (3, 0b100), (3, 0b011), (4, 0b0010), (5, 0b00001), (4, 0b0001), (5, 0b00000)]

/-- `TOTAL_ZEROS[6]` (31_vlc_tables.md R147). -/
def totalZeros6 : List Code := codesFrom 0
  [(6, 0b000001), (5, 0b00001), (3, 0b111), (3, 0b110), (3, 0b101),
   (3, 0b100), (3, 0b011), (3, 0b010), (4, 0b0001), (3, 0b001), (6, 0b000000)]

/-- `TOTAL_ZEROS[7]` (31_vlc_tables.md R147). -/
def totalZeros7 : List Code := codesFrom 0
  [(6, 0b000001), (5, 0b00001), (3, 0b101), (3, 0b100), (3, 0b011),
   (2, 0b11), (3, 0b010), (4, 0b0001), (3, 0b001), (6, 0b000000)]

/-- `TOTAL_ZEROS[8]` (31_vlc_tables.md R147). -/
def totalZeros8 : List Code := codesFrom 0
  [(6, 0b000001), (4, 0b0001), (5, 0b00001), (3, 0b011),
   (2, 0b11), (2, 0b10), (3, 0b010), (3, 0b001), (6, 0b000000)]

/-- `TOTAL_ZEROS[9]` (31_vlc_tables.md R147). -/
def totalZeros9 : List Code := codesFrom 0
  [(6, 0b000001), (6, 0b000000), (4, 0b0001), (2, 0b11),
   (2, 0b10), (3, 0b001), (2, 0b01), (5, 0b00001)]

/-- `TOTAL_ZEROS[10]` (31_vlc_tables.md R147). -/
def totalZeros10 : List Code := codesFrom 0
  [(5, 0b00001), (5, 0b00000), (3, 0b001), (2, 0b11), (2, 0b10), (2, 0b01), (4, 0b0001)]

/-- `TOTAL_ZEROS[11]` (31_vlc_tables.md R147). -/
def totalZeros11 : List Code := codesFrom 0
  [(4, 0b0000), (4, 0b0001), (3, 0b001), (3, 0b010), (1, 0b1), (3, 0b011)]

/-- `TOTAL_ZEROS[12]` (31_vlc_tables.md R147). -/
def totalZeros12 : List Code := codesFrom 0
  [(4, 0b0000), (4, 0b0001), (2, 0b01), (1, 0b1), (3, 0b001)]

/-- `TOTAL_ZEROS[13]` (31_vlc_tables.md R147). -/
def totalZeros13 : List Code := codesFrom 0
  [(3, 0b000), (3, 0b001), (1, 0b1), (2, 0b01)]

/-- `TOTAL_ZEROS[14]` (31_vlc_tables.md R147). -/
def totalZeros14 : List Code := codesFrom 0
  [(2, 0b00), (2, 0b01), (1, 0b1)]

/-- `TOTAL_ZEROS[15]` (31_vlc_tables.md R147). -/
def totalZeros15 : List Code := codesFrom 0
  [(1, 0b0), (1, 0b1)]

/-- `CHROMA_DC_TOTAL_ZEROS[1]` (31_vlc_tables.md R148). -/
def chromaDcTotalZeros1 : List Code := codesFrom 0
  [(1, 0b1), (2, 0b01), (3, 0b001), (3, 0b000)]

/-- `CHROMA_DC_TOTAL_ZEROS[2]` (31_vlc_tables.md R148). -/
def chromaDcTotalZeros2 : List Code := codesFrom 0
  [(1, 0b1), (2, 0b01), (2, 0b00)]

/-- `CHROMA_DC_TOTAL_ZEROS[3]` (31_vlc_tables.md R148). -/
def chromaDcTotalZeros3 : List Code := codesFrom 0
  [(1, 0b1), (1, 0b0)]

/-- `CHROMA422_DC_TOTAL_ZEROS[1]` (31_vlc_tables.md R149). -/
def chroma422DcTotalZeros1 : List Code := codesFrom 0
  [(1, 0b1), (3, 0b010), (3, 0b011), (4, 0b0010),
   (4, 0b0011), (4, 0b0001), (5, 0b00001), (5, 0b00000)]

/-- `CHROMA422_DC_TOTAL_ZEROS[2]` (31_vlc_tables.md R149). -/
def chroma422DcTotalZeros2 : List Code := codesFrom 0
  [(3, 0b000), (2, 0b01), (3, 0b001), (3, 0b100), (3, 0b101), (3, 0b110), (3, 0b111)]

/-- `CHROMA422_DC_TOTAL_ZEROS[3]` (31_vlc_tables.md R149). -/
def chroma422DcTotalZeros3 : List Code := codesFrom 0
  [(3, 0b000), (3, 0b001), (2, 0b01), (2, 0b10), (3, 0b110), (3, 0b111)]

/-- `CHROMA422_DC_TOTAL_ZEROS[4]` (31_vlc_tables.md R149). -/
def chroma422DcTotalZeros4 : List Code := codesFrom 0
  [(3, 0b110), (2, 0b00), (2, 0b01), (2, 0b10), (3, 0b111)]

/-- `CHROMA422_DC_TOTAL_ZEROS[5]` (31_vlc_tables.md R149). -/
def chroma422DcTotalZeros5 : List Code := codesFrom 0
  [(2, 0b00), (2, 0b01), (2, 0b10), (2, 0b11)]

/-- `CHROMA422_DC_TOTAL_ZEROS[6]` (31_vlc_tables.md R149). -/
def chroma422DcTotalZeros6 : List Code := codesFrom 0
  [(2, 0b00), (2, 0b01), (1, 0b1)]

/-- `CHROMA422_DC_TOTAL_ZEROS[7]` (31_vlc_tables.md R149). -/
def chroma422DcTotalZeros7 : List Code := codesFrom 0
  [(1, 0b0), (1, 0b1)]

/-- `RUN_BEFORE[1]` (31_vlc_tables.md R150). -/
def runBefore1 : List Code := codesFrom 0
  [(1, 0b1), (1, 0b0)]

/-- `RUN_BEFORE[2]` (31_vlc_tables.md R150). -/
def runBefore2 : List Code := codesFrom 0
  [(1, 0b1), (2, 0b01), (2, 0b00)]

/-- `RUN_BEFORE[3]` (31_vlc_tables.md R150). -/
def runBefore3 : List Code := codesFrom 0
  [(2, 0b11), (2, 0b10), (2, 0b01), (2, 0b00)]

/-- `RUN_BEFORE[4]` (31_vlc_tables.md R150). -/
def runBefore4 : List Code := codesFrom 0
  [(2, 0b11), (2, 0b10), (2, 0b01), (3, 0b001), (3, 0b000)]

/-- `RUN_BEFORE[5]` (31_vlc_tables.md R150). -/
def runBefore5 : List Code := codesFrom 0
  [(2, 0b11), (2, 0b10), (3, 0b011), (3, 0b010), (3, 0b001), (3, 0b000)]

/-- `RUN_BEFORE[6]` (31_vlc_tables.md R150). -/
def runBefore6 : List Code := codesFrom 0
  [(2, 0b11), (3, 0b000), (3, 0b001), (3, 0b011), (3, 0b010), (3, 0b101), (3, 0b100)]

/-- `RUN7` (31_vlc_tables.md R151). -/
def run7 : List Code := codesFrom 0
  [(3, 0b111), (3, 0b110), (3, 0b101), (3, 0b100), (3, 0b011), (3, 0b010), (3, 0b001),
   (4, 0b0001), (5, 0b00001), (6, 0b000001), (7, 0b0000001), (8, 0b00000001), (9, 0b000000001), (10, 0b0000000001), (11, 0b00000000001)]

/-- `COEFF_TOKEN`, `CHROMA_DC_COEFF_TOKEN`, `CHROMA422_DC_COEFF_TOKEN` by the selector of `READ_COEFF_TOKEN` (R206). -/
def token : Nat → List Code
  | 0 => coeffToken0
  | 1 => coeffToken1
  | 2 => coeffToken2
  | 3 => coeffToken3
  | 4 => chromaDcCoeffToken
  | 5 => chroma422DcCoeffToken
  | _ => []

/-- `TOTAL_ZEROS[tc]` (R147). -/
def zeros : Nat → List Code
  | 1 => totalZeros1
  | 2 => totalZeros2
  | 3 => totalZeros3
  | 4 => totalZeros4
  | 5 => totalZeros5
  | 6 => totalZeros6
  | 7 => totalZeros7
  | 8 => totalZeros8
  | 9 => totalZeros9
  | 10 => totalZeros10
  | 11 => totalZeros11
  | 12 => totalZeros12
  | 13 => totalZeros13
  | 14 => totalZeros14
  | 15 => totalZeros15
  | _ => []

/-- `CHROMA_DC_TOTAL_ZEROS[tc]` (R148). -/
def chromaDcZeros : Nat → List Code
  | 1 => chromaDcTotalZeros1
  | 2 => chromaDcTotalZeros2
  | 3 => chromaDcTotalZeros3
  | _ => []

/-- `CHROMA422_DC_TOTAL_ZEROS[tc]` (R149). -/
def chroma422DcZeros : Nat → List Code
  | 1 => chroma422DcTotalZeros1
  | 2 => chroma422DcTotalZeros2
  | 3 => chroma422DcTotalZeros3
  | 4 => chroma422DcTotalZeros4
  | 5 => chroma422DcTotalZeros5
  | 6 => chroma422DcTotalZeros6
  | 7 => chroma422DcTotalZeros7
  | _ => []

/-- The run-before table for `zeros_left` (R150, R151; 41_cavlc_residual.md R220): `RUN7` from 7 on. -/
def run (zerosLeft : Nat) : List Code :=
  match zerosLeft with
  | 0 => []
  | 1 => runBefore1
  | 2 => runBefore2
  | 3 => runBefore3
  | 4 => runBefore4
  | 5 => runBefore5
  | 6 => runBefore6
  | _ => run7

/-- The codeword of a symbol. -/
def codeOf (table : List Code) (sym : Nat) : Option Code := table.find? fun c => c.sym = sym

end Sys2Proof.Vlc
end

