-- ==== Sys2Proof/WellFormed.lean ====
section
/-! DEFINITION. When an instruction is well formed: every operand of a command is in its legal set as far as no state is
needed for it (30_encoding.md R101, R102), and an element's value is one its code can spell (R110 to R116). -/

namespace Sys2Proof

/-- The value of an element is one its code can spell. -/
def Element.wellFormed : Element → Bool
  | .u n x => decide (n ≤ 32 ∧ x < 2 ^ n)
  | .ue v => decide (v ≤ 2 ^ 32 - 2)
  | .se v => decide (-(2 ^ 31 - 1) ≤ v ∧ v ≤ 2 ^ 31 - 1)
  | .te1 => true
  | .te2 v => decide (v ≤ 1)
  | .teN range v => decide (3 ≤ range ∧ range ≤ 32 ∧ v ≤ 2 ^ 32 - 2)
  | .levelPrefix p => decide (p ≤ 31)
  | .levelSuffix n x => decide (n ≤ 25 ∧ x < 2 ^ n)
  | .sign _ => true
  | .iMb k _ => decide (k ≤ 25)
  | .pMb k => decide (k ≤ 4)
  | .bMb k => decide (k ≤ 22)
  | .pSub k _ => decide (k ≤ 3)
  | .bSub k _ => decide (k ≤ 12)
  | .token sel t n => decide (t ≤ 3) && (Vlc.codeOf (Vlc.token sel) (Vlc.tokenSym t n)).isSome
  | .zeros tc z => (Vlc.codeOf (Vlc.zeros tc) z).isSome
  | .chromaDcZeros tc z => (Vlc.codeOf (Vlc.chromaDcZeros tc) z).isSome
  | .chroma422DcZeros tc z => (Vlc.codeOf (Vlc.chroma422DcZeros tc) z).isSome
  | .run zl r => decide (zl ≤ 7) && (Vlc.codeOf (Vlc.run zl) r).isSome

/-- Every operand is in its legal set (R101, R102). -/
def Instr.wellFormed : Instr → Bool
  | .vlcInit => true
  | .reset => true
  | .crWrite reg _ => Legal.writableReg reg
  | .crRead reg => Legal.controlReg reg
  | .tabWrite ram _ _ _ => Legal.ram ram
  | .bsLoad len => Legal.streamLen len
  | .bsSeek _ => true
  | .peek n => Legal.bits n
  | .skip n => Legal.bits n
  | .read n => Legal.bits n
  | .readUe => true
  | .readSe => true
  | .readTe range => Legal.range range
  | .align => true
  | .bitsLeft => true
  | .readCoeffToken sel => Legal.tokenSel sel
  | .readTrailingSigns => true
  | .readLevel => true
  | .readTotalZeros => true
  | .readRunBefore => true
  | .decodeResidual blk scan maxCoeff qmul => Legal.residual blk scan maxCoeff qmul
  | .cacheFill => true
  | .predNnz n => Legal.block n
  | .predMv n width list ref => Legal.lumaBlock n && Legal.partWidth width && Legal.list list && Legal.refWord ref
  | .predMv16x8 n list ref => decide (n.toNat = 0 ∨ n.toNat = 8) && Legal.list list && Legal.refWord ref
  | .predMv8x16 n list ref => decide (n.toNat = 0 ∨ n.toNat = 4) && Legal.list list && Legal.refWord ref
  | .predMvPskip => true
  | .predI4Mode n => Legal.lumaBlock n
  | .cacheWriteback => true
  | .sliceStart _ => true
  | .mbDecode => true
  | .mbRecon => true
  | .sliceEnd => true
  | .mcSet reg value => Legal.mcValue reg value
  | .qpelMc00 => true
  | .qpelMc10 => true
  | .qpelMc20 => true
  | .qpelMc30 => true
  | .qpelMc01 => true
  | .qpelMc11 => true
  | .qpelMc21 => true
  | .qpelMc31 => true
  | .qpelMc02 => true
  | .qpelMc12 => true
  | .qpelMc22 => true
  | .qpelMc32 => true
  | .qpelMc03 => true
  | .qpelMc13 => true
  | .qpelMc23 => true
  | .qpelMc33 => true
  | .mcChroma plane => Legal.chromaPlane plane
  | .weightUni plane list ref => Legal.plane plane && Legal.list list && Legal.ref ref
  | .weightBi plane ref0 ref1 => Legal.plane plane && Legal.ref ref0 && Legal.ref ref1
  | .mcPart n width height => Legal.partition n width height
  | .implicitWeight => true
  | .waitRow list ref _ => Legal.list list && Legal.ref ref
  | .idct4Add b => Legal.block b
  | .idct4DcAdd b => Legal.block b
  | .idct8Add q => Legal.quadrant q
  | .idct8DcAdd q => Legal.quadrant q
  | .lumaDcDequantIdct _ => true
  | .chromaDcDequantIdct plane _ => Legal.chromaIndex plane
  | .chroma422DcDequantIdct plane _ => Legal.chromaIndex plane
  | .intraPred kind b => Legal.intraBlock kind b
  | .elemU n x => Element.wellFormed (.u n x)
  | .elemUe v => Element.wellFormed (.ue v)
  | .elemSe v => Element.wellFormed (.se v)
  | .elemTe1 => Element.wellFormed (.te1)
  | .elemTe2 v => Element.wellFormed (.te2 v)
  | .elemTeN range v => Element.wellFormed (.teN range v)
  | .levelPrefix p => Element.wellFormed (.levelPrefix p)
  | .levelSuffix n x => Element.wellFormed (.levelSuffix n x)
  | .trailingOnesSign neg => Element.wellFormed (.sign neg)
  | .iMbType0 sl => Element.wellFormed (.iMb 0 sl)
  | .iMbType1 sl => Element.wellFormed (.iMb 1 sl)
  | .iMbType2 sl => Element.wellFormed (.iMb 2 sl)
  | .iMbType3 sl => Element.wellFormed (.iMb 3 sl)
  | .iMbType4 sl => Element.wellFormed (.iMb 4 sl)
  | .iMbType5 sl => Element.wellFormed (.iMb 5 sl)
  | .iMbType6 sl => Element.wellFormed (.iMb 6 sl)
  | .iMbType7 sl => Element.wellFormed (.iMb 7 sl)
  | .iMbType8 sl => Element.wellFormed (.iMb 8 sl)
  | .iMbType9 sl => Element.wellFormed (.iMb 9 sl)
  | .iMbType10 sl => Element.wellFormed (.iMb 10 sl)
  | .iMbType11 sl => Element.wellFormed (.iMb 11 sl)
  | .iMbType12 sl => Element.wellFormed (.iMb 12 sl)
  | .iMbType13 sl => Element.wellFormed (.iMb 13 sl)
  | .iMbType14 sl => Element.wellFormed (.iMb 14 sl)
  | .iMbType15 sl => Element.wellFormed (.iMb 15 sl)
  | .iMbType16 sl => Element.wellFormed (.iMb 16 sl)
  | .iMbType17 sl => Element.wellFormed (.iMb 17 sl)
  | .iMbType18 sl => Element.wellFormed (.iMb 18 sl)
  | .iMbType19 sl => Element.wellFormed (.iMb 19 sl)
  | .iMbType20 sl => Element.wellFormed (.iMb 20 sl)
  | .iMbType21 sl => Element.wellFormed (.iMb 21 sl)
  | .iMbType22 sl => Element.wellFormed (.iMb 22 sl)
  | .iMbType23 sl => Element.wellFormed (.iMb 23 sl)
  | .iMbType24 sl => Element.wellFormed (.iMb 24 sl)
  | .iMbType25 sl => Element.wellFormed (.iMb 25 sl)
  | .pMbType0 => Element.wellFormed (.pMb 0)
  | .pMbType1 => Element.wellFormed (.pMb 1)
  | .pMbType2 => Element.wellFormed (.pMb 2)
  | .pMbType3 => Element.wellFormed (.pMb 3)
  | .pMbType4 => Element.wellFormed (.pMb 4)
  | .bMbType0 => Element.wellFormed (.bMb 0)
  | .bMbType1 => Element.wellFormed (.bMb 1)
  | .bMbType2 => Element.wellFormed (.bMb 2)
  | .bMbType3 => Element.wellFormed (.bMb 3)
  | .bMbType4 => Element.wellFormed (.bMb 4)
  | .bMbType5 => Element.wellFormed (.bMb 5)
  | .bMbType6 => Element.wellFormed (.bMb 6)
  | .bMbType7 => Element.wellFormed (.bMb 7)
  | .bMbType8 => Element.wellFormed (.bMb 8)
  | .bMbType9 => Element.wellFormed (.bMb 9)
  | .bMbType10 => Element.wellFormed (.bMb 10)
  | .bMbType11 => Element.wellFormed (.bMb 11)
  | .bMbType12 => Element.wellFormed (.bMb 12)
  | .bMbType13 => Element.wellFormed (.bMb 13)
  | .bMbType14 => Element.wellFormed (.bMb 14)
  | .bMbType15 => Element.wellFormed (.bMb 15)
  | .bMbType16 => Element.wellFormed (.bMb 16)
  | .bMbType17 => Element.wellFormed (.bMb 17)
  | .bMbType18 => Element.wellFormed (.bMb 18)
  | .bMbType19 => Element.wellFormed (.bMb 19)
  | .bMbType20 => Element.wellFormed (.bMb 20)
  | .bMbType21 => Element.wellFormed (.bMb 21)
  | .bMbType22 => Element.wellFormed (.bMb 22)
  | .pSubMbType0 i => Element.wellFormed (.pSub 0 i)
  | .pSubMbType1 i => Element.wellFormed (.pSub 1 i)
  | .pSubMbType2 i => Element.wellFormed (.pSub 2 i)
  | .pSubMbType3 i => Element.wellFormed (.pSub 3 i)
  | .bSubMbType0 i => Element.wellFormed (.bSub 0 i)
  | .bSubMbType1 i => Element.wellFormed (.bSub 1 i)
  | .bSubMbType2 i => Element.wellFormed (.bSub 2 i)
  | .bSubMbType3 i => Element.wellFormed (.bSub 3 i)
  | .bSubMbType4 i => Element.wellFormed (.bSub 4 i)
  | .bSubMbType5 i => Element.wellFormed (.bSub 5 i)
  | .bSubMbType6 i => Element.wellFormed (.bSub 6 i)
  | .bSubMbType7 i => Element.wellFormed (.bSub 7 i)
  | .bSubMbType8 i => Element.wellFormed (.bSub 8 i)
  | .bSubMbType9 i => Element.wellFormed (.bSub 9 i)
  | .bSubMbType10 i => Element.wellFormed (.bSub 10 i)
  | .bSubMbType11 i => Element.wellFormed (.bSub 11 i)
  | .bSubMbType12 i => Element.wellFormed (.bSub 12 i)
  | .coeffToken0 t n => Element.wellFormed (.token 0 t n)
  | .coeffToken1 t n => Element.wellFormed (.token 1 t n)
  | .coeffToken2 t n => Element.wellFormed (.token 2 t n)
  | .coeffToken3 t n => Element.wellFormed (.token 3 t n)
  | .chromaDcCoeffToken t n => Element.wellFormed (.token 4 t n)
  | .chroma422DcCoeffToken t n => Element.wellFormed (.token 5 t n)
  | .totalZeros1 z => Element.wellFormed (.zeros 1 z)
  | .totalZeros2 z => Element.wellFormed (.zeros 2 z)
  | .totalZeros3 z => Element.wellFormed (.zeros 3 z)
  | .totalZeros4 z => Element.wellFormed (.zeros 4 z)
  | .totalZeros5 z => Element.wellFormed (.zeros 5 z)
  | .totalZeros6 z => Element.wellFormed (.zeros 6 z)
  | .totalZeros7 z => Element.wellFormed (.zeros 7 z)
  | .totalZeros8 z => Element.wellFormed (.zeros 8 z)
  | .totalZeros9 z => Element.wellFormed (.zeros 9 z)
  | .totalZeros10 z => Element.wellFormed (.zeros 10 z)
  | .totalZeros11 z => Element.wellFormed (.zeros 11 z)
  | .totalZeros12 z => Element.wellFormed (.zeros 12 z)
  | .totalZeros13 z => Element.wellFormed (.zeros 13 z)
  | .totalZeros14 z => Element.wellFormed (.zeros 14 z)
  | .totalZeros15 z => Element.wellFormed (.zeros 15 z)
  | .chromaDcTotalZeros1 z => Element.wellFormed (.chromaDcZeros 1 z)
  | .chromaDcTotalZeros2 z => Element.wellFormed (.chromaDcZeros 2 z)
  | .chromaDcTotalZeros3 z => Element.wellFormed (.chromaDcZeros 3 z)
  | .chroma422DcTotalZeros1 z => Element.wellFormed (.chroma422DcZeros 1 z)
  | .chroma422DcTotalZeros2 z => Element.wellFormed (.chroma422DcZeros 2 z)
  | .chroma422DcTotalZeros3 z => Element.wellFormed (.chroma422DcZeros 3 z)
  | .chroma422DcTotalZeros4 z => Element.wellFormed (.chroma422DcZeros 4 z)
  | .chroma422DcTotalZeros5 z => Element.wellFormed (.chroma422DcZeros 5 z)
  | .chroma422DcTotalZeros6 z => Element.wellFormed (.chroma422DcZeros 6 z)
  | .chroma422DcTotalZeros7 z => Element.wellFormed (.chroma422DcZeros 7 z)
  | .runBefore1 r => Element.wellFormed (.run 1 r)
  | .runBefore2 r => Element.wellFormed (.run 2 r)
  | .runBefore3 r => Element.wellFormed (.run 3 r)
  | .runBefore4 r => Element.wellFormed (.run 4 r)
  | .runBefore5 r => Element.wellFormed (.run 5 r)
  | .runBefore6 r => Element.wellFormed (.run 6 r)
  | .run7 r => Element.wellFormed (.run 7 r)

end Sys2Proof
end

