-- ==== Sys2Proof/Decode.lean ====
section
/-! DEFINITION. Decoding and encoding. A command word is taken apart into `op, a, b, c, d` and looked up in R102
(30_encoding.md R100 to R104); a bitstream element is read from the bits at the cursor with the table the grammar
selects (R110 to R117, R125; 40_bitreader_vlc.md R175 to R181). Then the encoder, from the same tables. -/

namespace Sys2Proof

/-- Why a decoder refuses. -/
inductive DecodeError where
  /-- `op` is not in the command table (R104). -/
  | unknownOpcode
  /-- A field the command does not use is not 0 (R100, R101). -/
  | unusedField
  /-- An operand is outside its legal set (R101). -/
  | operand
  /-- The bits end inside the element (InsufficientBits of R173 to R180). -/
  | truncated
  /-- The bits begin no codeword of the table (R125). -/
  | noCodeword
  /-- More than 31 leading zeros (R175, R181). -/
  | longRun
  /-- The value selects no entry of its type table (R305, R322). -/
  | noEntry
  deriving DecidableEq, Repr

/-! ### Command words -/

/-- Bits 31:24 of word 0 (R100). -/
def opOf (w : Command) : BitVec 8 := w.extractLsb' 56 8

/-- Bits 23:16 of word 0. -/
def aOf (w : Command) : BitVec 8 := w.extractLsb' 48 8

/-- Bits 15:8 of word 0. -/
def bOf (w : Command) : BitVec 8 := w.extractLsb' 40 8

/-- Bits 7:0 of word 0. -/
def cOf (w : Command) : BitVec 8 := w.extractLsb' 32 8

/-- Word 1. -/
def dOf (w : Command) : Word := w.extractLsb' 0 32

/-- The command word of five fields (R100). -/
def mkWord (op a b c : BitVec 8) (d : Word) : Command := op ++ a ++ b ++ c ++ d

/-- Accept an instruction whose unused fields are 0 and whose operands are legal (R101). -/
def accept (unusedZero : Bool) (i : Instr) : Except DecodeError Instr :=
  if unusedZero then (if i.wellFormed then .ok i else .error .operand) else .error .unusedField

/-- The command of the five fields (R101, R102). -/
def decodeFields (op a b c : BitVec 8) (d : Word) : Except DecodeError Instr :=
  match op.toNat with
  | 0x01 => accept (decide (a = 0 ∧ b = 0 ∧ c = 0 ∧ d = 0)) (.vlcInit)
  | 0x02 => accept (decide (a = 0 ∧ b = 0 ∧ c = 0 ∧ d = 0)) (.reset)
  | 0x03 => accept (decide (b = 0 ∧ c = 0)) (.crWrite a d)
  | 0x04 => accept (decide (b = 0 ∧ c = 0 ∧ d = 0)) (.crRead a)
  | 0x05 => accept (true) (.tabWrite a b c d)
  | 0x06 => accept (decide (a = 0 ∧ b = 0 ∧ c = 0)) (.bsLoad d)
  | 0x07 => accept (decide (a = 0 ∧ b = 0 ∧ c = 0)) (.bsSeek d)
  | 0x08 => accept (decide (b = 0 ∧ c = 0 ∧ d = 0)) (.peek a)
  | 0x09 => accept (decide (b = 0 ∧ c = 0 ∧ d = 0)) (.skip a)
  | 0x0A => accept (decide (b = 0 ∧ c = 0 ∧ d = 0)) (.read a)
  | 0x0B => accept (decide (a = 0 ∧ b = 0 ∧ c = 0 ∧ d = 0)) (.readUe)
  | 0x0C => accept (decide (a = 0 ∧ b = 0 ∧ c = 0 ∧ d = 0)) (.readSe)
  | 0x0D => accept (decide (b = 0 ∧ c = 0 ∧ d = 0)) (.readTe a)
  | 0x0E => accept (decide (a = 0 ∧ b = 0 ∧ c = 0 ∧ d = 0)) (.align)
  | 0x0F => accept (decide (a = 0 ∧ b = 0 ∧ c = 0 ∧ d = 0)) (.bitsLeft)
  | 0x10 => accept (decide (b = 0 ∧ c = 0 ∧ d = 0)) (.readCoeffToken a)
  | 0x11 => accept (decide (a = 0 ∧ b = 0 ∧ c = 0 ∧ d = 0)) (.readTrailingSigns)
  | 0x12 => accept (decide (a = 0 ∧ b = 0 ∧ c = 0 ∧ d = 0)) (.readLevel)
  | 0x13 => accept (decide (a = 0 ∧ b = 0 ∧ c = 0 ∧ d = 0)) (.readTotalZeros)
  | 0x14 => accept (decide (a = 0 ∧ b = 0 ∧ c = 0 ∧ d = 0)) (.readRunBefore)
  | 0x18 => accept (true) (.decodeResidual a b c d)
  | 0x20 => accept (decide (a = 0 ∧ b = 0 ∧ c = 0 ∧ d = 0)) (.cacheFill)
  | 0x21 => accept (decide (b = 0 ∧ c = 0 ∧ d = 0)) (.predNnz a)
  | 0x22 => accept (true) (.predMv a b c d)
  | 0x23 => accept (decide (b = 0)) (.predMv16x8 a c d)
  | 0x24 => accept (decide (b = 0)) (.predMv8x16 a c d)
  | 0x25 => accept (decide (a = 0 ∧ b = 0 ∧ c = 0 ∧ d = 0)) (.predMvPskip)
  | 0x26 => accept (decide (b = 0 ∧ c = 0 ∧ d = 0)) (.predI4Mode a)
  | 0x27 => accept (decide (a = 0 ∧ b = 0 ∧ c = 0 ∧ d = 0)) (.cacheWriteback)
  | 0x30 => accept (decide (a = 0 ∧ b = 0 ∧ c = 0)) (.sliceStart d)
  | 0x31 => accept (decide (a = 0 ∧ b = 0 ∧ c = 0 ∧ d = 0)) (.mbDecode)
  | 0x32 => accept (decide (a = 0 ∧ b = 0 ∧ c = 0 ∧ d = 0)) (.mbRecon)
  | 0x33 => accept (decide (a = 0 ∧ b = 0 ∧ c = 0 ∧ d = 0)) (.sliceEnd)
  | 0x38 => accept (decide (b = 0 ∧ c = 0)) (.mcSet a d)
  | 0x40 => accept (decide (a = 0 ∧ b = 0 ∧ c = 0 ∧ d = 0)) (.qpelMc00)
  | 0x41 => accept (decide (a = 0 ∧ b = 0 ∧ c = 0 ∧ d = 0)) (.qpelMc10)
  | 0x42 => accept (decide (a = 0 ∧ b = 0 ∧ c = 0 ∧ d = 0)) (.qpelMc20)
  | 0x43 => accept (decide (a = 0 ∧ b = 0 ∧ c = 0 ∧ d = 0)) (.qpelMc30)
  | 0x44 => accept (decide (a = 0 ∧ b = 0 ∧ c = 0 ∧ d = 0)) (.qpelMc01)
  | 0x45 => accept (decide (a = 0 ∧ b = 0 ∧ c = 0 ∧ d = 0)) (.qpelMc11)
  | 0x46 => accept (decide (a = 0 ∧ b = 0 ∧ c = 0 ∧ d = 0)) (.qpelMc21)
  | 0x47 => accept (decide (a = 0 ∧ b = 0 ∧ c = 0 ∧ d = 0)) (.qpelMc31)
  | 0x48 => accept (decide (a = 0 ∧ b = 0 ∧ c = 0 ∧ d = 0)) (.qpelMc02)
  | 0x49 => accept (decide (a = 0 ∧ b = 0 ∧ c = 0 ∧ d = 0)) (.qpelMc12)
  | 0x4A => accept (decide (a = 0 ∧ b = 0 ∧ c = 0 ∧ d = 0)) (.qpelMc22)
  | 0x4B => accept (decide (a = 0 ∧ b = 0 ∧ c = 0 ∧ d = 0)) (.qpelMc32)
  | 0x4C => accept (decide (a = 0 ∧ b = 0 ∧ c = 0 ∧ d = 0)) (.qpelMc03)
  | 0x4D => accept (decide (a = 0 ∧ b = 0 ∧ c = 0 ∧ d = 0)) (.qpelMc13)
  | 0x4E => accept (decide (a = 0 ∧ b = 0 ∧ c = 0 ∧ d = 0)) (.qpelMc23)
  | 0x4F => accept (decide (a = 0 ∧ b = 0 ∧ c = 0 ∧ d = 0)) (.qpelMc33)
  | 0x50 => accept (decide (b = 0 ∧ c = 0 ∧ d = 0)) (.mcChroma a)
  | 0x51 => accept (decide (d = 0)) (.weightUni a b c)
  | 0x52 => accept (decide (d = 0)) (.weightBi a b c)
  | 0x54 => accept (decide (d = 0)) (.mcPart a b c)
  | 0x55 => accept (decide (a = 0 ∧ b = 0 ∧ c = 0 ∧ d = 0)) (.implicitWeight)
  | 0x56 => accept (decide (c = 0)) (.waitRow a b d)
  | 0x60 => accept (decide (b = 0 ∧ c = 0 ∧ d = 0)) (.idct4Add a)
  | 0x61 => accept (decide (b = 0 ∧ c = 0 ∧ d = 0)) (.idct4DcAdd a)
  | 0x62 => accept (decide (b = 0 ∧ c = 0 ∧ d = 0)) (.idct8Add a)
  | 0x63 => accept (decide (b = 0 ∧ c = 0 ∧ d = 0)) (.idct8DcAdd a)
  | 0x64 => accept (decide (a = 0 ∧ b = 0 ∧ c = 0)) (.lumaDcDequantIdct d)
  | 0x65 => accept (decide (b = 0 ∧ c = 0)) (.chromaDcDequantIdct a d)
  | 0x66 => accept (decide (b = 0 ∧ c = 0)) (.chroma422DcDequantIdct a d)
  | 0x67 => accept (decide (c = 0 ∧ d = 0)) (.intraPred a b)
  | _ => .error .unknownOpcode

/-- Decoding a command word. -/
def decodeWord (w : Command) : Except DecodeError Instr := decodeFields (opOf w) (aOf w) (bOf w) (cOf w) (dOf w)

/-- The word of a command; an element has none. -/
def encodeWord : Instr → Option Command
  | .vlcInit => some (mkWord 0x01 0 0 0 0)
  | .reset => some (mkWord 0x02 0 0 0 0)
  | .crWrite reg value => some (mkWord 0x03 reg 0 0 value)
  | .crRead reg => some (mkWord 0x04 reg 0 0 0)
  | .tabWrite ram hi lo value => some (mkWord 0x05 ram hi lo value)
  | .bsLoad len => some (mkWord 0x06 0 0 0 len)
  | .bsSeek pos => some (mkWord 0x07 0 0 0 pos)
  | .peek n => some (mkWord 0x08 n 0 0 0)
  | .skip n => some (mkWord 0x09 n 0 0 0)
  | .read n => some (mkWord 0x0A n 0 0 0)
  | .readUe => some (mkWord 0x0B 0 0 0 0)
  | .readSe => some (mkWord 0x0C 0 0 0 0)
  | .readTe range => some (mkWord 0x0D range 0 0 0)
  | .align => some (mkWord 0x0E 0 0 0 0)
  | .bitsLeft => some (mkWord 0x0F 0 0 0 0)
  | .readCoeffToken sel => some (mkWord 0x10 sel 0 0 0)
  | .readTrailingSigns => some (mkWord 0x11 0 0 0 0)
  | .readLevel => some (mkWord 0x12 0 0 0 0)
  | .readTotalZeros => some (mkWord 0x13 0 0 0 0)
  | .readRunBefore => some (mkWord 0x14 0 0 0 0)
  | .decodeResidual blk scan maxCoeff qmul => some (mkWord 0x18 blk scan maxCoeff qmul)
  | .cacheFill => some (mkWord 0x20 0 0 0 0)
  | .predNnz n => some (mkWord 0x21 n 0 0 0)
  | .predMv n width list ref => some (mkWord 0x22 n width list ref)
  | .predMv16x8 n list ref => some (mkWord 0x23 n 0 list ref)
  | .predMv8x16 n list ref => some (mkWord 0x24 n 0 list ref)
  | .predMvPskip => some (mkWord 0x25 0 0 0 0)
  | .predI4Mode n => some (mkWord 0x26 n 0 0 0)
  | .cacheWriteback => some (mkWord 0x27 0 0 0 0)
  | .sliceStart pos => some (mkWord 0x30 0 0 0 pos)
  | .mbDecode => some (mkWord 0x31 0 0 0 0)
  | .mbRecon => some (mkWord 0x32 0 0 0 0)
  | .sliceEnd => some (mkWord 0x33 0 0 0 0)
  | .mcSet reg value => some (mkWord 0x38 reg 0 0 value)
  | .qpelMc00 => some (mkWord 0x40 0 0 0 0)
  | .qpelMc10 => some (mkWord 0x41 0 0 0 0)
  | .qpelMc20 => some (mkWord 0x42 0 0 0 0)
  | .qpelMc30 => some (mkWord 0x43 0 0 0 0)
  | .qpelMc01 => some (mkWord 0x44 0 0 0 0)
  | .qpelMc11 => some (mkWord 0x45 0 0 0 0)
  | .qpelMc21 => some (mkWord 0x46 0 0 0 0)
  | .qpelMc31 => some (mkWord 0x47 0 0 0 0)
  | .qpelMc02 => some (mkWord 0x48 0 0 0 0)
  | .qpelMc12 => some (mkWord 0x49 0 0 0 0)
  | .qpelMc22 => some (mkWord 0x4A 0 0 0 0)
  | .qpelMc32 => some (mkWord 0x4B 0 0 0 0)
  | .qpelMc03 => some (mkWord 0x4C 0 0 0 0)
  | .qpelMc13 => some (mkWord 0x4D 0 0 0 0)
  | .qpelMc23 => some (mkWord 0x4E 0 0 0 0)
  | .qpelMc33 => some (mkWord 0x4F 0 0 0 0)
  | .mcChroma plane => some (mkWord 0x50 plane 0 0 0)
  | .weightUni plane list ref => some (mkWord 0x51 plane list ref 0)
  | .weightBi plane ref0 ref1 => some (mkWord 0x52 plane ref0 ref1 0)
  | .mcPart n width height => some (mkWord 0x54 n width height 0)
  | .implicitWeight => some (mkWord 0x55 0 0 0 0)
  | .waitRow list ref row => some (mkWord 0x56 list ref 0 row)
  | .idct4Add b => some (mkWord 0x60 b 0 0 0)
  | .idct4DcAdd b => some (mkWord 0x61 b 0 0 0)
  | .idct8Add q => some (mkWord 0x62 q 0 0 0)
  | .idct8DcAdd q => some (mkWord 0x63 q 0 0 0)
  | .lumaDcDequantIdct qmul => some (mkWord 0x64 0 0 0 qmul)
  | .chromaDcDequantIdct plane qmul => some (mkWord 0x65 plane 0 0 qmul)
  | .chroma422DcDequantIdct plane qmul => some (mkWord 0x66 plane 0 0 qmul)
  | .intraPred kind b => some (mkWord 0x67 kind b 0 0)
  | _ => none

/-! ### Bitstream elements -/

/-- The `n` low bits of `v`, first bit highest (R110). -/
def bitsOf : Nat → Nat → List Bool
  | 0, _ => []
  | n + 1, v => v.testBit n :: bitsOf n v

/-- The number a bit string spells, first bit highest (R6). -/
def numberOf (bits : List Bool) : Nat := bits.foldl (fun v b => 2 * v + b.toNat) 0

/-- Take `n` bits as a number. -/
def takeNumber (n : Nat) (bits : List Bool) : Except DecodeError (Nat × List Bool) :=
  if n ≤ bits.length then .ok (numberOf (bits.take n), bits.drop n) else .error .truncated

/-- Count the zeros before the first one, at most 31, and take them and the one (R175, R181). -/
def takeZeros : Nat → List Bool → Except DecodeError (Nat × List Bool)
  | _, [] => .error .truncated
  | k, true :: rest => .ok (k, rest)
  | k, false :: rest => if 31 < k + 1 then .error .longRun else takeZeros (k + 1) rest

/-- An unsigned Exp-Golomb value (R111). -/
def takeUe (bits : List Bool) : Except DecodeError (Nat × List Bool) :=
  match takeZeros 0 bits with
  | .error e => .error e
  | .ok (k, rest) =>
    match takeNumber k rest with
    | .error e => .error e
    | .ok (x, rest') => .ok (2 ^ k - 1 + x, rest')

/-- The signed value of an Exp-Golomb code number (R112). -/
def seOfUe (u : Nat) : Int := if u % 2 = 1 then ((u + 1) / 2 : Nat) else -((u / 2 : Nat) : Int)

/-- The code number of a signed value (R112). -/
def ueOfSe (v : Int) : Nat := if 0 < v then 2 * v.toNat - 1 else 2 * (-v).toNat

/-- The codeword of an unsigned Exp-Golomb value (R111). -/
def ueBits (v : Nat) : List Bool := List.replicate (v + 1).log2 false ++ bitsOf ((v + 1).log2 + 1) (v + 1)

/-- A codeword as a bit string. -/
def Vlc.Code.string (c : Vlc.Code) : List Bool := bitsOf c.len c.bits

/-- The one codeword the bits, padded with zeros, begin with (R117, R180): its symbol and the bits after it. -/
def takeCode (table : List Vlc.Code) (bits : List Bool) : Except DecodeError (Nat × List Bool) :=
  match table.find? fun c => c.string.isPrefixOf (bits ++ List.replicate 16 false) with
  | none => .error .noCodeword
  | some c => if c.len ≤ bits.length then .ok (c.sym, bits.drop c.len) else .error .truncated

/-- The element of an `mb_type` value (R305). -/
def mbTypeElement (sl : SliceType) (v : Nat) : Except DecodeError Element :=
  match sl with
  | .b => if v < 23 then .ok (.bMb v) else if v - 23 ≤ 25 then .ok (.iMb (v - 23) .b) else .error .noEntry
  | .p => if v < 5 then .ok (.pMb v) else if v - 5 ≤ 25 then .ok (.iMb (v - 5) .p) else .error .noEntry
  | .i => if v ≤ 25 then .ok (.iMb v .i) else .error .noEntry

/-- The element of a `sub_mb_type` value (R309, R322). -/
def subMbTypeElement (sl : SliceType) (i : BitVec 2) (v : Nat) : Except DecodeError Element :=
  match sl with
  | .b => if v ≤ 12 then .ok (.bSub v i) else .error .noEntry
  | .p => if v ≤ 3 then .ok (.pSub v i) else .error .noEntry
  | .i => .error .noEntry

/-- Turn the value of an element into the element. -/
def valueThen (r : Except DecodeError (Nat × List Bool)) (f : Nat → Except DecodeError Element) :
    Except DecodeError (Element × List Bool) :=
  match r with
  | .error e => .error e
  | .ok (v, rest) =>
    match f v with
    | .error e => .error e
    | .ok el => .ok (el, rest)

/-- The element at the head of the bits, read as the grammar expects it, and the bits after it. -/
def decodeElement (ctx : ElemCtx) (bits : List Bool) : Except DecodeError (Element × List Bool) :=
  match ctx with
  | .u n => if n ≤ 32 then valueThen (takeNumber n bits) fun x => .ok (.u n x) else .error .operand
  | .ue => valueThen (takeUe bits) fun v => .ok (.ue v)
  | .se => valueThen (takeUe bits) fun v => .ok (.se (seOfUe v))
  | .te range =>
    if range = 1 then .ok (.te1, bits)
    else if range = 2 then valueThen (takeNumber 1 bits) fun b => .ok (.te2 (1 - b))
    else if 3 ≤ range ∧ range ≤ 32 then valueThen (takeUe bits) fun v => .ok (.teN range v)
    else .error .operand
  | .levelPrefix => valueThen (takeZeros 0 bits) fun p => .ok (.levelPrefix p)
  | .levelSuffix n => if n ≤ 25 then valueThen (takeNumber n bits) fun x => .ok (.levelSuffix n x) else .error .operand
  | .sign => valueThen (takeNumber 1 bits) fun b => .ok (.sign (b = 1))
  | .mbType sl => valueThen (takeUe bits) (mbTypeElement sl)
  | .subMbType sl i => valueThen (takeUe bits) (subMbTypeElement sl i)
  | .token sel => valueThen (takeCode (Vlc.token sel) bits) fun s => .ok (.token sel (s % 4) (s / 4))
  | .zeros tc => valueThen (takeCode (Vlc.zeros tc) bits) fun z => .ok (.zeros tc z)
  | .chromaDcZeros tc => valueThen (takeCode (Vlc.chromaDcZeros tc) bits) fun z => .ok (.chromaDcZeros tc z)
  | .chroma422DcZeros tc => valueThen (takeCode (Vlc.chroma422DcZeros tc) bits) fun z => .ok (.chroma422DcZeros tc z)
  | .run zl =>
    if zl ≤ 7 then valueThen (takeCode (Vlc.run zl) bits) fun r => .ok (.run zl r) else .error .operand

/-- The element at the head of the bits, as an instruction. -/
def decodeBits (ctx : ElemCtx) (bits : List Bool) : Except DecodeError (Instr × List Bool) :=
  match decodeElement ctx bits with
  | .error e => .error e
  | .ok (el, rest) =>
    match el.toInstr with
    | none => .error .noEntry
    | some i => .ok (i, rest)

/-- How far an intra entry of the `mb_type` table is moved up in a slice (R305). -/
def intraOffset : SliceType → Nat
  | .p => 5
  | .b => 23
  | .i => 0

/-- The bit string of a codeword of a table; the empty string if the table has no such symbol. -/
def codeBits (table : List Vlc.Code) (sym : Nat) : List Bool :=
  match Vlc.codeOf table sym with
  | some c => c.string
  | none => []

/-- The bit string of an element (R110 to R116, R305 to R309, R140 to R151). -/
def Element.bits : Element → List Bool
  | .u n x => bitsOf n x
  | .ue v => ueBits v
  | .se v => ueBits (ueOfSe v)
  | .te1 => []
  | .te2 v => bitsOf 1 (1 - v)
  | .teN _ v => ueBits v
  | .levelPrefix p => List.replicate p false ++ [true]
  | .levelSuffix n x => bitsOf n x
  | .sign neg => [neg]
  | .iMb k sl => ueBits (k + intraOffset sl)
  | .pMb k => ueBits k
  | .bMb k => ueBits k
  | .pSub k _ => ueBits k
  | .bSub k _ => ueBits k
  | .token sel t n => codeBits (Vlc.token sel) (Vlc.tokenSym t n)
  | .zeros tc z => codeBits (Vlc.zeros tc) z
  | .chromaDcZeros tc z => codeBits (Vlc.chromaDcZeros tc) z
  | .chroma422DcZeros tc z => codeBits (Vlc.chroma422DcZeros tc) z
  | .run zl r => codeBits (Vlc.run zl) r

/-- What the grammar expects where an element stands. -/
def Element.ctx : Element → ElemCtx
  | .u n _ => .u n
  | .ue _ => .ue
  | .se _ => .se
  | .te1 => .te 1
  | .te2 _ => .te 2
  | .teN range _ => .te range
  | .levelPrefix _ => .levelPrefix
  | .levelSuffix n _ => .levelSuffix n
  | .sign _ => .sign
  | .iMb _ sl => .mbType sl
  | .pMb _ => .mbType .p
  | .bMb _ => .mbType .b
  | .pSub _ i => .subMbType .p i
  | .bSub _ i => .subMbType .b i
  | .token sel _ _ => .token sel
  | .zeros tc _ => .zeros tc
  | .chromaDcZeros tc _ => .chromaDcZeros tc
  | .chroma422DcZeros tc _ => .chroma422DcZeros tc
  | .run zl _ => .run zl

/-- The bits of an instruction in the order they are sent: a command's 64 bits, an element's codeword. -/
def encode (i : Instr) : List Bool :=
  match i.element with
  | some el => el.bits
  | none =>
    match encodeWord i with
    | some w => bitsOf 64 w.toNat
    | none => []

/-! ### The table's own numbering -/

/-- The codeword that a row of spec/opcode_table.json numbers `w`, its first (leftmost) bit highest, read as an
`mb_type` of an I slice, which is what the grammar expects in a slice of the type `CR2` holds at reset
(10_state.md R32). -/
def tableElementBits (w : Nat) : List Bool := ueBits (w - 1)

/-- The instruction the decoder reads from a row's bits: a command where the row has 64 bits, whose `match` and
`mask` number word 0 in bits 63:32 (30_encoding.md, head); else an element. DESIGN CHOICE, log 1. -/
def decodeTableWord (nbits w : Nat) : Option Instr :=
  if nbits = 64 then
    match decodeWord (BitVec.ofNat 64 w) with
    | .ok i => some i
    | .error _ => none
  else if w = 0 then none
  else
    match decodeBits (.mbType .i) (tableElementBits w) with
    | .ok (i, _) => some i
    | .error _ => none

end Sys2Proof
end

