-- ==== Sys2Proof/Machine/Cells.lean ====
section
/-! DEFINITION. Reading and writing an index space (20_memory.md R70, R71). Every memory, cache and table of
the machine is read and written through these. -/

namespace Sys2Proof.Cells

/-- The element listed at index `a`. -/
def look {α : Type} : Cells α → Nat → Option α
  | [], _ => none
  | (k, v) :: rest, a => if k = a then some v else look rest a

/-- Write `v` at index `a`, keeping the indexes rising. -/
def put {α : Type} : Cells α → Nat → α → Cells α
  | [], a, v => [(a, v)]
  | (k, w) :: rest, a, v =>
    if a < k then (a, v) :: (k, w) :: rest
    else if a = k then (a, v) :: rest
    else (k, w) :: put rest a v

/-- Take the element at index `a` away. -/
def drop {α : Type} : Cells α → Nat → Cells α
  | [], _ => []
  | (k, v) :: rest, a => if k = a then drop rest a else (k, v) :: drop rest a

/-- The element at `a` of a space whose unlisted elements are 0. -/
def lookZero {w : Nat} (c : Cells (BitVec w)) (a : Nat) : BitVec w := (look c a).getD 0

/-- Write in a space whose unlisted elements are 0: a written 0 is not listed. -/
def putZero {w : Nat} (c : Cells (BitVec w)) (a : Nat) (v : BitVec w) : Cells (BitVec w) :=
  if v = 0 then drop c a else put c a v

/-- Write the same value at every index of a list. -/
def putAll {α : Type} (c : Cells α) (v : α) : List Nat → Cells α
  | [] => c
  | a :: rest => putAll (put c a v) v rest

/-- Write a list of (index, value) pairs, first first. -/
def putList {α : Type} (c : Cells α) : List (Nat × α) → Cells α
  | [] => c
  | (a, v) :: rest => putList (put c a v) rest

/-- Write 0 at every index of a list, in a space whose unlisted elements are 0. -/
def dropAll {α : Type} (c : Cells α) : List Nat → Cells α
  | [] => c
  | a :: rest => dropAll (drop c a) rest

/-- Every index of the list is above `a`. -/
def above {α : Type} (a : Nat) : Cells α → Bool
  | [] => true
  | (k, _) :: _ => decide (a < k)

/-- The canonical form: indexes strictly rising. -/
def wf {α : Type} : Cells α → Bool
  | [] => true
  | (k, _) :: rest => above k rest && wf rest

/-- The canonical form of a space whose unlisted elements are 0: rising, and no 0 listed. -/
def wfZero {w : Nat} (c : Cells (BitVec w)) : Bool := wf c && c.all fun e => e.2 != 0

end Sys2Proof.Cells
end

