-- ==== Sys2Proof/Machine/Parts.lean ====
section
/-! DEFINITION. The parts State is made of, as plain data (10_state.md, 20_memory.md). An absent element of a
`Cells` and a `none` are the spec's own `undef` where the rule of the field resets it to `undef`. -/

namespace Sys2Proof.Machine

/-- `STATE` (10_state.md R27). -/
inductive EngState where
  | idle
  | run
  | error
  | done
  deriving DecidableEq, Repr

/-- The error kinds and `OK` (60_exceptions.md R471). -/
inductive ErrKind where
  | ok
  | corruptedSyntax
  | invalidLevelPrefix
  | negativeZerosLeft
  | insufficientBits
  | quantizerOutOfRange
  | illegalCommand
  | unsupported
  deriving DecidableEq, Repr

/-- What the host reads of the last command (R470): nothing yet, that it waits, or the status it ended with. -/
inductive Status where
  | none
  | waiting
  | ended (k : ErrKind)
  deriving DecidableEq, Repr

/-- `MB.kind` (R22). -/
inductive MbKind where
  | intra4x4
  | intra16x16
  | intraPcm
  | inter16x16
  | inter16x8
  | inter8x16
  | inter8x8
  | direct
  deriving DecidableEq, Repr

/-- The shape of a quadrant's pieces (R22). -/
inductive SubShape where
  | s8x8
  | s8x4
  | s4x8
  | s4x4
  deriving DecidableEq, Repr

/-- `MB.sub[i]` (R22, R309). A direct quadrant has no shape of its own: `shape = none`. -/
structure SubMb where
  shape : Option SubShape
  dir0 : Bool
  dir1 : Bool
  deriving DecidableEq, Repr

/-- A motion vector in quarter-sample units (R40). -/
structure Mv where
  x : BitVec 16
  y : BitVec 16
  deriving DecidableEq, Repr, Inhabited

/-- The macroblock registers (R22). `dir` is indexed `2*p + l`. -/
structure Mb where
  kind : Option MbKind
  skip : Option Bool
  dct8x8 : Option Bool
  ref0 : Option Bool
  partCount : Option (BitVec 3)
  dir : Cells Bool
  sub : Cells SubMb
  i16Mode : Option (BitVec 2)
  cbp : Option (BitVec 6)
  chromaMode : Option (BitVec 2)
  i4Mode : Cells (BitVec 4)
  nnzSum : Cells (BitVec 7)
  deriving DecidableEq, Repr

/-- Every macroblock register `undef`. -/
def Mb.undef : Mb := ⟨none, none, none, none, none, [], [], none, none, none, [], []⟩

/-- The four neighbor caches (R40). `mv` and `ref` are indexed `75*l + slot`. -/
structure Caches where
  nnz : Cells (BitVec 8)
  mv : Cells Mv
  ref : Cells (BitVec 8)
  i4 : Cells (BitVec 8)
  deriving DecidableEq, Repr

/-- Every cache slot `undef` (R45). -/
def Caches.undef : Caches := ⟨[], [], [], []⟩

/-- The table RAMs (R50), each indexed as `TAB_WRITE` indexes it (70_reset_and_hazards.md R514). -/
structure Tables where
  scan : Cells (BitVec 6)
  dequant4 : Cells Word
  dequant8 : Cells Word
  chromaQp : Cells (BitVec 7)
  lumaWeight : Cells (BitVec 16)
  chromaWeight : Cells (BitVec 16)
  refPoc : Cells Word
  refLong : Cells Bool
  implicitWeight : Cells (BitVec 8)
  deriving DecidableEq, Repr

/-- Every table element `undef`. -/
def Tables.undef : Tables := ⟨[], [], [], [], [], [], [], [], []⟩

/-- The coefficient buffers (R51), every unlisted coefficient 0. `coef` is indexed `16*b + i`, so that
`COEF8[q][i]` is index `64*q + i`; `chromaDc` is indexed `8*c + i`. -/
structure Coefs where
  coef : Cells Word
  lumaDc : Cells Word
  chromaDc : Cells Word
  deriving DecidableEq, Repr

/-- All coefficients zero. -/
def Coefs.zero : Coefs := ⟨[], [], []⟩

/-- The motion compensation operand registers (R54). -/
structure McRegs where
  dstX : Option (BitVec 16)
  dstY : Option (BitVec 16)
  srcX : Option Word
  srcY : Option Word
  w : Option (BitVec 5)
  h : Option (BitVec 5)
  list : Option (BitVec 1)
  ref : Option (BitVec 5)
  avg : Option (BitVec 1)
  fx : Option (BitVec 3)
  fy : Option (BitVec 3)
  buf : Option (BitVec 1)
  deriving DecidableEq, Repr

/-- Every motion compensation register `undef`. -/
def McRegs.undef : McRegs := ⟨none, none, none, none, none, none, none, none, none, none, none, none⟩

/-- Three sample planes (20_memory.md R73); sample `[y][x]` is at index `2^20*y + x`. `gen` names the allocation,
so that what the platform left in a plane is not the same for two pictures. -/
structure Planes where
  y : Cells Sample
  cb : Cells Sample
  cr : Cells Sample
  gen : Nat
  deriving DecidableEq, Repr

/-- The per-macroblock picture arrays (R74): `nnz` indexed `24*mb + n`, `mv` `16*(2*mb + l) + n`, `ref`
`4*(2*mb + l) + q`, `i4` `16*mb + n`, the others `mb`. -/
structure PicArrays where
  slice : Cells (BitVec 16)
  mbType : Cells Mb
  qscale : Cells (BitVec 7)
  cbp : Cells (BitVec 16)
  nnz : Cells (BitVec 8)
  mv : Cells Mv
  ref : Cells (BitVec 8)
  i4 : Cells (BitVec 8)
  deriving DecidableEq, Repr

/-- No array element written. -/
def PicArrays.undef : PicArrays := ⟨[], [], [], [], [], [], [], []⟩

/-- The current picture (20_memory.md section 1, 10_state.md R28). `prepared`: the platform has set `PIC_SLICE`
to 0xFFFF everywhere (70_reset_and_hazards.md R515 step 5). -/
structure Picture where
  planes : Planes
  arrays : PicArrays
  prepared : Bool
  corrupt : Bool
  deriving DecidableEq, Repr

/-- A reference picture in the reference store: its planes, its row progress counter (R70, R83), and its
per-macroblock arrays, which `DirectPredict` reads (10_state.md R52). -/
structure RefPic where
  planes : Planes
  progress : Word
  arrays : PicArrays
  deriving DecidableEq, Repr

/-- What is given to `DirectPredict` (R52): the slice configuration (which registers: log 7), the macroblock address, the caches, the
per-macroblock arrays of the current picture and of the list-1 reference 0, `REF_POC`, and which part of the
macroblock is asked for (`none`: all of it). -/
structure DirectArgs where
  picCfg : Word
  picSize : Word
  sliceCfg : Word
  weightDenom : Word
  curPoc : Word
  deblockMode : Word
  mbX : BitVec 16
  mbY : BitVec 16
  cache : Caches
  arrays : PicArrays
  colocated : Option PicArrays
  refPoc : Cells Word
  quadrant : Option Nat
  deriving DecidableEq, Repr

/-- The motion `DirectPredict` gives one 4x4 block: a reference and a vector in one list or in both; it never
leaves a block without a reference (43_mb_type_motion.md R303, 45_reconstruction.md R452). -/
inductive DirectBlock where
  | list0 (ref : BitVec 5) (mv : Mv)
  | list1 (ref : BitVec 5) (mv : Mv)
  | both (ref0 : BitVec 5) (mv0 : Mv) (ref1 : BitVec 5) (mv1 : Mv)
  deriving DecidableEq, Repr, Inhabited

/-- What is given to `IntraPredict` (R52, 45_reconstruction.md R440). -/
structure IntraArgs where
  kind : Nat
  mode : Nat
  plane : Nat
  x0 : Nat
  y0 : Nat
  block : Nat
  avail : List Bool
  bitDepth : Nat
  samples : Cells Sample
  gen : Nat
  deriving DecidableEq, Repr

end Sys2Proof.Machine
end

