-- ==== Sys2Proof/Config.lean ====
section
/-! DEFINITION. The constants of the engine (00_scope.md R5), and the values the spec leaves open. A free value is a
constant without a body: no proof can see what it is, so a claim about it holds whatever it is. -/

namespace Sys2Proof.Config

/-- `NNZ_SLOTS` (R5). -/
def nnzSlots : Nat := 75

/-- The least and greatest `BIT_DEPTH` (R5). -/
def minBitDepth : Nat := 8

/-- The greatest `BIT_DEPTH` (R5). -/
def maxBitDepth : Nat := 14

/-- FREE VALUE (DESIGN CHOICE, log 4, U4): a reference sample read before its row is published. The arguments are the counter of
the sample operation, the destination sample and the tap. -/
opaque raceSample : Nat → Nat → Nat → Nat

/-- FREE VALUE (DESIGN CHOICE, log 5, U18): what the platform left in a sample of a plane nothing has written. The arguments are the
allocation, the plane and the sample's index. -/
opaque platformSample : Nat → Nat → Nat → Nat

/-- FREE VALUE (DESIGN CHOICE, log 5, U18): a byte of the bitstream buffer that the host's buffer did not hold. The arguments are the
load and the byte's index. -/
opaque platformByte : Nat → Nat → Byte

/-- FREE VALUE (DESIGN CHOICE, log 7, U14): the external intra sample predictor, one sample of the predicted block at (x, y). -/
opaque intraPredict : Machine.IntraArgs → Nat → Nat → Nat

/-- FREE VALUE (DESIGN CHOICE, log 7, U14): the external direct-mode motion derivation, the motion of one luma block. -/
opaque directPredict : Machine.DirectArgs → Nat → Machine.DirectBlock

/-- FREE VALUE (DESIGN CHOICE, log 8): what a 16-bit destination register holds of a coordinate that does not fit it
(10_state.md R54). -/
opaque wideCoordinate : Nat → BitVec 16

/-- FREE VALUE (DESIGN CHOICE, log 9): what an 8-bit element of `IMPLICIT_WEIGHT` holds of a weight that does not fit it
(10_state.md R50). The arguments are `CUR_POC` and the two picture order counts. -/
opaque wideWeight : Int → Int → Int → BitVec 8

/-- FREE VALUE (DESIGN CHOICE, log 25): is a skip run an error that is longer than the macroblocks left in the picture, but
not longer than the picture (43_mb_type_motion.md R302, 60_exceptions.md R471)? The arguments are the run and the macroblocks left. -/
opaque skipRunPastEnd : Nat → Nat → Bool

end Sys2Proof.Config
end

