-- ==== Sys2Proof/Machine/State.lean ====
section
/-! DEFINITION. The state of the engine and of the memories it reaches, as plain data, its reset value, and the ways a
step can stop. A `none`, or an absent element of a cache, table or array, is the spec's own `undef` (10_state.md). -/

namespace Sys2Proof.Machine

/-- What the platform does between two commands (70_reset_and_hazards.md R515, 20_memory.md R83). -/
inductive PlatformAct where
  /-- The byte buffer the next `BS_LOAD` takes (R171). -/
  | bytes (b : List Byte)
  /-- A new picture: `PIC_SLICE` 0xFFFF everywhere, `PIC_CORRUPT` 0, planes allocated (R515 step 5). -/
  | newPicture
  /-- A reference picture is put in place (R515 step 4). -/
  | reference (list ref : Nat) (pic : RefPic)
  /-- A producer raises `PROGRESS[list][ref]`; the counter never falls (R83). -/
  | progress (list ref : Nat) (row : Word)
  /-- Power is cycled: the one thing that ends a command that waits (R482, R510). -/
  | powerOn
  deriving DecidableEq, Repr

/-- The next thing issued to the engine: a command word, a request to take one bitstream element as the grammar
expects it (the model's own, DESIGN CHOICE, log 3), or an act of the platform. -/
inductive Request where
  | command (w : Command)
  | element (ctx : ElemCtx)
  | platform (act : PlatformAct)
  deriving DecidableEq, Repr

/-- Everything the spec gives the machine, then what the model adds. -/
structure State where
  -- residual decoder registers (10_state.md R21)
  totalCoeff : Option (BitVec 5)
  trailingOnes : Option (BitVec 2)
  level : Cells Word
  levelIdx : Option (BitVec 5)
  suffixLength : Option (BitVec 3)
  zerosLeft : Option (BitVec 6)
  runBefore : Option (BitVec 4)
  maxCoeff : Option (BitVec 5)
  blk : Option (BitVec 5)
  -- macroblock registers (R22)
  mb : Mb
  -- predictor results and RES (R23)
  pmx : Option (BitVec 16)
  pmy : Option (BitVec 16)
  pnnz : Option (BitVec 5)
  pmode : Option (BitVec 4)
  res : Option Word
  -- bit cursor and macroblock address (R24, R25)
  bitpos : Nat
  bsLen : Nat
  mbX : BitVec 16
  mbY : BitVec 16
  -- flags and error registers (R26, R27)
  vlcReady : Bool
  engine : EngState
  errKind : ErrKind
  errMbX : BitVec 16
  errMbY : BitVec 16
  errBitpos : Word
  -- control registers (R30 to R38); the others are views
  cr0 : Word
  cr1 : Word
  cr2 : Word
  cr3 : Word
  skipRun : Word
  cr9 : Word
  cr10 : Word
  cr11 : Word
  -- neighbor caches (R40), table RAMs (R50), coefficient buffers (R51)
  cache : Caches
  tabs : Tables
  coefs : Coefs
  -- motion compensation registers (R54), scratch (R55), latches (R56)
  mc : McRegs
  tmp : Cells Sample
  pcm : Cells Sample
  nbAvail : Cells Bool
  nbIntra : Cells Bool
  chromaQp : Cells (BitVec 7)
  -- memories (20_memory.md R70): bitstream, current picture, reference store
  bs : Cells Byte
  bsGen : Nat
  pic : Picture
  refs : Cells RefPic
  -- the model's own: the host's requests and buffer, what it reads back, the free-value counter
  port : List Request
  status : Status
  hostBuf : List Byte
  freeCtr : Nat
  deriving DecidableEq, Repr

/-- Why the machine stops without a next state: the model faults of 60_exceptions.md R477. -/
inductive Fault where
  /-- A read of a register, slot or element that is `undef` (R477, D26). Raised by every read of such state. Safe: the
  spec says nothing may be proved of the state after it. -/
  | uninitialisedRead
  /-- An index outside its array (R71, R477). Raised by every indexed access. Safe, as above. -/
  | outOfRange
  deriving DecidableEq, Repr

/-- Why a step gives no meaning. -/
inductive Refusal where
  /-- The instruction has no meaning yet. Raised only by an arm of `exec` that names its instruction. Safe. -/
  | notModelled (mnemonic : String)
  deriving DecidableEq, Repr

/-- The current picture before the platform prepares one (R510: memories hold whatever the platform put there).
DESIGN CHOICE, log 6. -/
def Picture.initial : Picture := ⟨⟨[], [], [], 0⟩, PicArrays.undef, false, false⟩

/-- Power-on (10_state.md R53, 70_reset_and_hazards.md R510). -/
def State.reset : State where
  totalCoeff := none
  trailingOnes := none
  level := []
  levelIdx := none
  suffixLength := none
  zerosLeft := none
  runBefore := none
  maxCoeff := none
  blk := none
  mb := Mb.undef
  pmx := none
  pmy := none
  pnnz := none
  pmode := none
  res := none
  bitpos := 0
  bsLen := 0
  mbX := 0
  mbY := 0
  vlcReady := false
  engine := .idle
  errKind := .ok
  errMbX := 0
  errMbY := 0
  errBitpos := 0
  cr0 := 0x00000421#32
  cr1 := 0x00010001#32
  cr2 := 0x00000002#32
  cr3 := 0
  skipRun := 0xFFFFFFFF#32
  cr9 := 0
  cr10 := 0
  cr11 := 0
  cache := Caches.undef
  tabs := Tables.undef
  coefs := Coefs.zero
  mc := McRegs.undef
  tmp := []
  pcm := []
  nbAvail := []
  nbIntra := []
  chromaQp := []
  bs := []
  bsGen := 0
  pic := Picture.initial
  refs := []
  port := []
  status := .none
  hostBuf := []
  freeCtr := 1

end Sys2Proof.Machine
end

