-- ==== Sys2Proof/Machine/Tables.lean ====
section
/-! DEFINITION. The ROMs of the engine other than the VLC tables (10_state.md R42, R47 to R49; 41_cavlc_residual.md R212;
43_mb_type_motion.md R306 to R309, R341). Blocks, modes and the range of an intra block prediction as numbers. -/

namespace Sys2Proof.Machine

/-- Block column of luma block `n` (00_scope.md R9). -/
def bx (n : Nat) : Nat := n % 2 + 2 * (n / 4 % 2)

/-- Block row of luma block `n` (00_scope.md R9). -/
def byRow (n : Nat) : Nat := n / 2 % 2 + 2 * (n / 8 % 2)

/-- `SCAN8` (R42): block identifier to cache slot. -/
def scan8Table : List Nat :=
  [12, 13, 20, 21, 14, 15, 22, 23, 28, 29, 36, 37, 30, 31, 38, 39] ++ [9, 10, 17, 18, 33, 34, 41, 42, 48, 49, 50]

/-- `SCAN8[n]`, for `n` in 0..26. -/
def scan8 (n : Nat) : Nat := scan8Table.getD n 0

/-- `NNZ_NA` (R41). -/
def nnzNA : BitVec 8 := 64

/-- `PART_NOT_AVAILABLE`, −2 (R41). -/
def partNotAvailable : BitVec 8 := 0xFE#8

/-- `LIST_NOT_USED`, −1 (R41). -/
def listNotUsed : BitVec 8 := 0xFF#8

/-- `MODE_NA`, −1 (R41). -/
def modeNA : BitVec 8 := 0xFF#8

/-- The zero vector. -/
def Mv.zero : Mv := ⟨0, 0⟩

/-- `COEFF_TOKEN_TABLE_INDEX` (R48). -/
def coeffTokenTableIndex (n : Nat) : Nat :=
  [0, 0, 1, 1, 2, 2, 2, 2, 3, 3, 3, 3, 3, 3, 3, 3, 3].getD n 3

/-- The magnitude above which `SUFFIX_LENGTH` grows (`SUFFIX_LIMIT`, R48); `none` is the ∞ of length 6. -/
def suffixLimit (sl : Nat) : Option Nat := [0, 3, 6, 12, 24, 48][sl]?

/-- Does a level of this magnitude lengthen the suffix (R210)? -/
def exceedsSuffixLimit (sl : Nat) (magnitude : Nat) : Bool :=
  match suffixLimit sl with
  | some limit => decide (limit < magnitude)
  | none => false

/-! ### The level table -/

/-- Sign folding (41_cavlc_residual.md R210, R211). -/
def levelOfCode (code : Nat) : Int :=
  if code % 2 = 0 then ((code + 2) / 2 : Nat) else -(((code + 1) / 2 : Nat) : Int)

/-- Suffix bits and base of a level prefix (R213), for a prefix of at most 28. -/
def prefixRule (sl p : Nat) : Nat × Nat :=
  if p < 14 ∨ (p = 14 ∧ 0 < sl) then (p * 2 ^ sl, sl)
  else if p = 14 then (14, 4)
  else if p = 15 then (15 * 2 ^ sl + (if sl = 0 then 15 else 0), 12)
  else (15 * 2 ^ sl + (if sl = 0 then 15 else 0) + 2 ^ (p - 3) - 4096, p - 3)

/-- The leading zero bits of `i` written with 8 bits (R212). -/
def leadingZeros8 (i : Nat) : Nat := if i = 0 then 8 else 7 - i.log2

/-- `LEVEL_TAB[sl][i]`, a pair (value, length) (R212). -/
def levelTab (sl i : Nat) : Int × Nat :=
  let p := leadingZeros8 i
  if p + 1 + sl ≤ 8 then
    (levelOfCode (p * 2 ^ sl + i / 2 ^ (7 - p - sl) % 2 ^ sl), p + 1 + sl)
  else if p + 1 ≤ 8 then ((100 + p : Nat), p + 1)
  else (108, 8)

/-! ### Macroblock types -/

/-- Is the kind an intra kind? -/
def MbKind.intra : MbKind → Bool
  | .intra4x4 => true
  | .intra16x16 => true
  | .intraPcm => true
  | .inter16x16 => false
  | .inter16x8 => false
  | .inter8x16 => false
  | .inter8x8 => false
  | .direct => false

/-- The list usage of the two partitions, as `MB.dir` holds it. -/
def dirOf (p00 p01 p10 p11 : Bool) : Cells Bool := [(0, p00), (1, p01), (2, p10), (3, p11)]

/-- The list usage of one partition. -/
def dirOne (l0 l1 : Bool) : Cells Bool := [(0, l0), (1, l1)]

/-- A macroblock of a kind, `skip` and `dct8x8` 0 (R305). -/
def Mb.ofKind (kind : MbKind) (partCount : BitVec 3) : Mb :=
  { Mb.undef with kind := some kind, skip := some false, dct8x8 := some false, partCount := some partCount }

/-- `I_MB_TYPE[t]` for `t` in 0..25 (R306). -/
def iMbType (t : Nat) : Mb :=
  if t = 0 then Mb.ofKind .intra4x4 0
  else if t = 25 then Mb.ofKind .intraPcm 0
  else
    { Mb.ofKind .intra16x16 0 with
      i16Mode := some (BitVec.ofNat 2 ((t - 1) % 4))
      cbp := some (BitVec.ofNat 6 ((if 13 ≤ t then 15 else 0) + 16 * ((t - 1) / 4 % 3))) }

/-- `P_MB_TYPE[t]` for `t` in 0..4 (R307): list 0 only. -/
def pMbType (t : Nat) : Mb :=
  match t with
  | 0 => { Mb.ofKind .inter16x16 1 with dir := dirOne true false, ref0 := some false }
  | 1 => { Mb.ofKind .inter16x8 2 with dir := dirOf true false true false, ref0 := some false }
  | 2 => { Mb.ofKind .inter8x16 2 with dir := dirOf true false true false, ref0 := some false }
  | 3 => { Mb.ofKind .inter8x8 4 with ref0 := some false }
  | _ => { Mb.ofKind .inter8x8 4 with ref0 := some true }

/-- A two-partition macroblock of a B slice: even entries 16x8, odd ones 8x16 (R308). -/
def bTwoParts (t : Nat) (p00 p01 p10 p11 : Bool) : Mb :=
  { Mb.ofKind (if t % 2 = 0 then .inter16x8 else .inter8x16) 2 with
    dir := dirOf p00 p01 p10 p11, ref0 := some false }

/-- `B_MB_TYPE[t]` for `t` in 0..22 (R308). -/
def bMbType (t : Nat) : Mb :=
  match t with
  | 0 => { Mb.ofKind .direct 0 with ref0 := some false }
  | 1 => { Mb.ofKind .inter16x16 1 with dir := dirOne true false, ref0 := some false }
  | 2 => { Mb.ofKind .inter16x16 1 with dir := dirOne false true, ref0 := some false }
  | 3 => { Mb.ofKind .inter16x16 1 with dir := dirOne true true, ref0 := some false }
  | 4 => bTwoParts t true false true false
  | 5 => bTwoParts t true false true false
  | 6 => bTwoParts t false true false true
  | 7 => bTwoParts t false true false true
  | 8 => bTwoParts t true false false true
  | 9 => bTwoParts t true false false true
  | 10 => bTwoParts t false true true false
  | 11 => bTwoParts t false true true false
  | 12 => bTwoParts t true false true true
  | 13 => bTwoParts t true false true true
  | 14 => bTwoParts t false true true true
  | 15 => bTwoParts t false true true true
  | 16 => bTwoParts t true true true false
  | 17 => bTwoParts t true true true false
  | 18 => bTwoParts t true true false true
  | 19 => bTwoParts t true true false true
  | 20 => bTwoParts t true true true true
  | 21 => bTwoParts t true true true true
  | _ => { Mb.ofKind .inter8x8 4 with ref0 := some false }

/-- `P_SUB_MB_TYPE[t]` for `t` in 0..3 (R309): list 0 only. -/
def pSubMbType (t : Nat) : SubMb :=
  match t with
  | 0 => ⟨some .s8x8, true, false⟩
  | 1 => ⟨some .s8x4, true, false⟩
  | 2 => ⟨some .s4x8, true, false⟩
  | _ => ⟨some .s4x4, true, false⟩

/-- `B_SUB_MB_TYPE[t]` for `t` in 0..12 (R309). -/
def bSubMbType (t : Nat) : SubMb :=
  match t with
  | 0 => ⟨none, false, false⟩
  | 1 => ⟨some .s8x8, true, false⟩
  | 2 => ⟨some .s8x8, false, true⟩
  | 3 => ⟨some .s8x8, true, true⟩
  | 4 => ⟨some .s8x4, true, false⟩
  | 5 => ⟨some .s4x8, true, false⟩
  | 6 => ⟨some .s8x4, false, true⟩
  | 7 => ⟨some .s4x8, false, true⟩
  | 8 => ⟨some .s8x4, true, true⟩
  | 9 => ⟨some .s4x8, true, true⟩
  | 10 => ⟨some .s4x4, true, false⟩
  | 11 => ⟨some .s4x4, false, true⟩
  | _ => ⟨some .s4x4, true, true⟩

/-- The list usage of a quadrant, by list. -/
def SubMb.dir (m : SubMb) (l : Nat) : Bool := if l = 0 then m.dir0 else m.dir1

/-- How many pieces a shape has (R309). -/
def SubShape.count : SubShape → Nat
  | .s8x8 => 1
  | .s8x4 => 2
  | .s4x8 => 2
  | .s4x4 => 4

/-- The step between the start blocks of two pieces, which is also a piece's width in blocks (`bw`, R309). -/
def SubShape.blockWidth : SubShape → Nat
  | .s8x8 => 2
  | .s8x4 => 2
  | .s4x8 => 1
  | .s4x4 => 1

/-- The slots a piece covers, from the slot of its start block (R309). -/
def SubShape.slots (shape : SubShape) (s : Nat) : List Nat :=
  match shape with
  | .s8x8 => [s, s + 1, s + 8, s + 9]
  | .s8x4 => [s, s + 1]
  | .s4x8 => [s, s + 8]
  | .s4x4 => [s]

/-- `GOLOMB_TO_INTRA_CBP` (R341). -/
def golombToIntraCbp : List Nat :=
  [47, 31, 15, 0, 23, 27, 29, 30, 7, 11, 13, 14, 39, 43, 45, 46] ++
  [16, 3, 5, 10, 12, 19, 21, 26, 28, 35, 37, 42, 44, 1, 2, 4] ++
  [8, 17, 18, 20, 24, 6, 9, 22, 25, 32, 33, 34, 36, 40, 38, 41]

/-- `GOLOMB_TO_INTER_CBP` (R341). -/
def golombToInterCbp : List Nat :=
  [0, 16, 1, 2, 4, 8, 32, 3, 5, 10, 12, 15, 47, 7, 11, 13] ++
  [14, 6, 9, 31, 35, 37, 42, 44, 33, 34, 36, 40, 39, 43, 45, 46] ++
  [17, 18, 20, 24, 19, 21, 26, 28, 23, 27, 29, 30, 22, 25, 38, 41]

/-- `GOLOMB_TO_INTRA_CBP_GRAY` (R341). -/
def golombToIntraCbpGray : List Nat := [15, 0, 7, 11, 13, 14, 3, 5, 10, 12, 1, 2, 4, 8, 6, 9]

/-- `GOLOMB_TO_INTER_CBP_GRAY` (R341). -/
def golombToInterCbpGray : List Nat := [0, 1, 2, 4, 8, 3, 5, 10, 12, 15, 7, 11, 13, 14, 6, 9]

/-- The coded block pattern of a code (R340): chroma or none, intra 4x4 or not. `none`: the code is out of range. -/
def cbpOfCode (chroma intra4x4 : Bool) (c : Nat) : Option Nat :=
  match chroma, intra4x4 with
  | true, true => golombToIntraCbp[c]?
  | true, false => golombToInterCbp[c]?
  | false, true => golombToIntraCbpGray[c]?
  | false, false => golombToInterCbpGray[c]?

end Sys2Proof.Machine
end

