-- ==== Sys2Proof/Machine/Ops.lean ====
section
/-! DEFINITION. How an operation runs, and the named operations over the state: the fields of the control registers, raising
an error (60_exceptions.md R472), which is how this engine takes an exception, how a command ends (R470), and coming
back from an error (R478). -/

namespace Sys2Proof.Machine

/-! ### Operations -/

/-- Why an operation stops before its end. -/
inductive Stop where
  /-- An error kind found before anything was written (R475, R476): no state changes. -/
  | rejected (k : ErrKind)
  /-- `raise k` of R472. -/
  | raised (k : ErrKind)
  /-- A model fault (R477). -/
  | faulted (f : Fault)
  /-- `wait until` (00_scope.md R8): not ended. -/
  | waiting
  deriving DecidableEq, Repr

/-- An operation: from a state to a value and the state after it, or a stop and the state at the stop. -/
abbrev Op := EStateM Stop State

/-- A value computed from the state. -/
def Op.read {α : Type} (f : State → α) : Op α := fun s => .ok (f s) s

/-- A value the state may not hold: the read of an `undef` one is the model fault `UninitialisedRead`, "never a value"
(60_exceptions.md R477, 92_eei_decisions.md D26). -/
def Op.need {α : Type} (f : State → Option α) : Op α := fun s =>
  match f s with
  | some a => .ok a s
  | none => .error (.faulted .uninitialisedRead) s

/-- Write. -/
def Op.modify (f : State → State) : Op Unit := fun s => .ok () (f s)

/-- Stop. -/
def Op.stop {α : Type} (e : Stop) : Op α := fun s => .error e s

/-- Stop unless the condition holds. -/
def Op.require (c : State → Bool) (e : Stop) : Op Unit := fun s => if c s then .ok () s else .error e s

/-- `raise` (R472). -/
def Op.raise {α : Type} (k : ErrKind) : Op α := Op.stop (.raised k)

/-- A value of an `Option` at hand: `none` stops. -/
def Op.orStop {α : Type} (a : Option α) (e : Stop) : Op α := fun s =>
  match a with
  | some v => .ok v s
  | none => .error e s

/-- Run an operation only if a condition at hand holds. -/
def Op.when (c : Bool) (m : Op Unit) : Op Unit := if c then m else pure ()

/-- The operation, issued by a composite operation that has written: an error kind it finds before writing anything
itself is raised all the same (R472, R475). -/
def Op.nested {α : Type} (m : Op α) : Op α := fun s =>
  match m s with
  | .ok a s' => .ok a s'
  | .error (.rejected k) s' => .error (.raised k) s'
  | .error e s' => .error e s'

/-- One operation per element of a list, first first. -/
def Op.each {α : Type} : List α → (α → Op Unit) → Op Unit
  | [], _ => pure ()
  | a :: rest, f => do
    f a
    Op.each rest f

/-- One operation per element of a list, all but the first after a write. -/
def Op.eachNested {α : Type} : List α → (α → Op Unit) → Op Unit
  | [], _ => pure ()
  | a :: rest, f => do
    f a
    Op.each rest fun b => Op.nested (f b)

/-- The values one operation gives for each element of a list, first first. -/
def Op.collect {α β : Type} : List α → (α → Op β) → Op (List β)
  | [], _ => pure []
  | a :: rest, f => do
    let b ← f a
    let bs ← Op.collect rest f
    pure (b :: bs)

/-! ### Control register fields (10_state.md R30 to R37) -/

/-- `CHROMA_FORMAT`. -/
def State.chromaFormat (s : State) : Nat := (s.cr0.extractLsb' 0 2).toNat

/-- `BIT_DEPTH`. -/
def State.bitDepth (s : State) : Nat := (s.cr0.extractLsb' 2 4).toNat

/-- `transform_8x8_mode`. -/
def State.transform8x8Mode (s : State) : Bool := s.cr0.getLsbD 6

/-- `transform_bypass`. -/
def State.transformBypass (s : State) : Bool := s.cr0.getLsbD 7

/-- `constrained_intra_pred`. -/
def State.constrainedIntraPred (s : State) : Bool := s.cr0.getLsbD 8

/-- `direct_8x8_inference`. -/
def State.direct8x8Inference (s : State) : Bool := s.cr0.getLsbD 9

/-- `frame_mbs_only`. -/
def State.frameMbsOnly (s : State) : Bool := s.cr0.getLsbD 10

/-- `PIC_W_MB`. -/
def State.picW (s : State) : Nat := (s.cr1.extractLsb' 0 16).toNat

/-- `PIC_H_MB`. -/
def State.picH (s : State) : Nat := (s.cr1.extractLsb' 16 16).toNat

/-- The number in the field `slice_type`. -/
def State.sliceTypeField (s : State) : Nat := (s.cr2.extractLsb' 0 2).toNat

/-- `slice_type`. The value 3 is refused by `SLICE_START` (43_mb_type_motion.md R300) and is not met in `RUN`. -/
def State.sliceType (s : State) : SliceType :=
  match s.sliceTypeField with
  | 0 => .p
  | 1 => .b
  | _ => .i

/-- `slice_num`. -/
def State.sliceNum (s : State) : BitVec 16 := s.cr2.extractLsb' 2 16

/-- `ref_count0`, `ref_count1`. -/
def State.refCount (s : State) (l : Nat) : Nat :=
  if l = 0 then (s.cr2.extractLsb' 18 6).toNat else (s.cr2.extractLsb' 24 6).toNat

/-- `use_weight`. -/
def State.useWeight (s : State) : Nat := (s.cr2.extractLsb' 30 2).toNat

/-- `qscale`. -/
def State.qscale (s : State) : Nat := (s.cr3.extractLsb' 0 7).toNat

/-- The luma (plane 0) or chroma `log2_weight_denom`. -/
def State.weightDenom (s : State) (plane : Nat) : Nat :=
  if plane = 0 then (s.cr9.extractLsb' 0 3).toNat else (s.cr9.extractLsb' 3 3).toNat

/-- `MAX_QP` (00_scope.md R5). -/
def State.maxQp (s : State) : Nat := 51 + 6 * (s.bitDepth - Config.minBitDepth)

/-- `W_COEF` (00_scope.md R5). -/
def State.wCoef (s : State) : Nat := if s.bitDepth = Config.minBitDepth then 16 else 32

/-- `PIXEL_MAX` (44_motion_comp.md R370). -/
def State.pixelMax (s : State) : Nat := 2 ^ s.bitDepth - 1

/-- Is `bit_depth` legal? -/
def State.bitDepthLegal (s : State) : Bool :=
  decide (Config.minBitDepth ≤ s.bitDepth ∧ s.bitDepth ≤ Config.maxBitDepth)

/-- `list_count` (42_neighbor_cache.md R258). -/
def State.listCount (s : State) : Nat :=
  match s.sliceType with
  | .i => 0
  | .p => 1
  | .b => 2

/-- The lists in use, first first. -/
def State.lists (s : State) : List Nat := List.range s.listCount

/-- `MB_XY` (R25). -/
def State.mbXY (s : State) : Nat := s.mbX.toNat + s.mbY.toNat * s.picW

/-! ### Arithmetic of 00_scope.md R7 -/

/-- `clip3`. -/
def clip3 (lo hi v : Int) : Int := if v < lo then lo else if hi < v then hi else v

/-- `clip_pixel`, as a sample. -/
def State.clipPixel (s : State) (v : Int) : Sample := BitVec.ofInt 14 (clip3 0 s.pixelMax v)

/-- The median of three (42_neighbor_cache.md R265). -/
def median (a b c : Int) : Int := a + b + c - min a (min b c) - max a (max b c)

/-- `wrap_W_COEF`, sign-extended to the width a coefficient is held in. -/
def State.wrapCoef (s : State) (v : Int) : Word := BitVec.ofInt 32 (BitVec.ofInt s.wCoef v).toInt

/-! ### Raising an error, ending a command, coming back -/

/-- `raise K` (R472): the position is saved, and in `RUN` the slice is aborted and the picture flagged. -/
def State.raise (s : State) (k : ErrKind) : State :=
  { s with
    errKind := k
    errMbX := s.mbX
    errMbY := s.mbY
    errBitpos := BitVec.ofNat 32 s.bitpos
    engine := if s.engine = .run then .error else s.engine
    pic := if s.engine = .run then { s.pic with corrupt := true } else s.pic
    status := .ended k }

/-- A command turned away: it returns the code and changes no state at all (R475, R476). -/
def State.reject (s : State) (k : ErrKind) : State := { s with status := .ended k }

/-- Everything a slice holds until it ends: the working registers (R21), the macroblock registers (R22), the result
registers (R23) and the cache slots (R40) become `undef`. -/
def State.forgetSlice (s : State) : State :=
  { s with
    totalCoeff := none, trailingOnes := none, level := [], levelIdx := none, suffixLength := none
    zerosLeft := none, runBefore := none, maxCoeff := none, blk := none
    mb := Mb.undef
    pmx := none, pmy := none, pnnz := none, pmode := none, res := none
    cache := Caches.undef }

/-- `SLICE_END` (43_mb_type_motion.md R360): back to `IDLE`, keeping the error registers. -/
def State.endSlice (s : State) : State := { s.forgetSlice with engine := .idle }

/-- `SLICE_START` after its checks (43_mb_type_motion.md R300; 10_state.md R45, R54 to R56): a new slice, the error
registers cleared. -/
def State.startSlice (s : State) (pos : Word) : State :=
  { s.forgetSlice with
    mbX := pos.extractLsb' 0 16, mbY := pos.extractLsb' 16 16
    engine := .run
    errKind := .ok, errMbX := 0, errMbY := 0, errBitpos := 0
    skipRun := 0xFFFFFFFF#32
    nbAvail := [], nbIntra := [], chromaQp := []
    mc := McRegs.undef, tmp := []
    coefs := Coefs.zero }

/-- `RESET` (70_reset_and_hazards.md R511): the state of R510, except that `VLC_READY` keeps its value. The memories are
not touched; what the model adds is kept. DESIGN CHOICE, log 29. -/
def State.commandReset (s : State) : State :=
  { State.reset with
    vlcReady := s.vlcReady
    bs := s.bs, bsGen := s.bsGen, pic := s.pic, refs := s.refs
    port := s.port, hostBuf := s.hostBuf, status := s.status, freeCtr := s.freeCtr }

/-- How a command ends (R470): completed, turned away, raised, or not ended yet. A command that waits is taken up again
from its start; what it wrote stays, and the free values it drew are drawn again. DESIGN CHOICE, log 23. -/
def finish (s : State) (r : EStateM.Result Stop State Unit) : Host.Outcome State Fault Refusal :=
  match r with
  | .ok _ t => .next { t with status := .ended .ok }
  | .error (.rejected k) _ => .next (s.reject k)
  | .error (.raised k) t => .next (t.raise k)
  | .error (.faulted f) _ => .fault f
  | .error .waiting t => .next { t with status := .waiting, freeCtr := s.freeCtr }

/-- A command (R474): accepted in some states only and with legal operands only, else `IllegalCommand`; then its body. -/
def command (accepted legal : Bool) (body : Op Unit) (s : State) : Host.Outcome State Fault Refusal :=
  if accepted && legal then finish s (body s) else .next (s.reject .illegalCommand)

end Sys2Proof.Machine
end

