-- ==== Sys2Proof/Machine/Flags.lean ====
section
/-! DEFINITION. The flags and the views of them that software reads (10_state.md R26 to R28, R34 to R38): `STATE`, `ERR_KIND`,
`VLC_READY`, `PIC_CORRUPT`, and every control register as `CR_READ` sees it. The engine has no arithmetic condition
codes (R28). -/

namespace Sys2Proof.Machine

/-- The code of `STATE` (R27). -/
def EngState.code : EngState → BitVec 2
  | .idle => 0
  | .run => 1
  | .error => 2
  | .done => 3

/-- The code of an error kind (60_exceptions.md R471). -/
def ErrKind.code : ErrKind → BitVec 4
  | .ok => 0
  | .corruptedSyntax => 1
  | .invalidLevelPrefix => 2
  | .negativeZerosLeft => 3
  | .insufficientBits => 4
  | .quantizerOutOfRange => 5
  | .illegalCommand => 6
  | .unsupported => 7

/-- A command accepted in `IDLE` (30_encoding.md R102). -/
def State.isIdle (s : State) : Bool := decide (s.engine = .idle)

/-- A command accepted in `RUN`. -/
def State.isRun (s : State) : Bool := decide (s.engine = .run)

/-- A command accepted in `IDLE` and `RUN`. -/
def State.isIdleOrRun (s : State) : Bool := decide (s.engine = .idle ∨ s.engine = .run)

/-- A command accepted in `IDLE`, `ERROR` and `DONE`: `SLICE_START`. -/
def State.isNotRun (s : State) : Bool := decide (s.engine ≠ .run)

/-- A command accepted in `RUN`, `ERROR` and `DONE`: `SLICE_END`. -/
def State.isNotIdle (s : State) : Bool := decide (s.engine ≠ .idle)

/-- `CR6 STATUS` (R36). -/
def State.statusWord (s : State) : Word :=
  s.engine.code.setWidth 32 ||| (s.errKind.code.setWidth 32 <<< 4)
    ||| (BitVec.ofBool s.vlcReady).setWidth 32 <<< 8 ||| (BitVec.ofBool s.pic.corrupt).setWidth 32 <<< 9

/-- The value of control register `n` (R30 to R38), `n` in 0..13. -/
def State.controlReg (s : State) (n : Nat) : Word :=
  match n with
  | 0 => s.cr0
  | 1 => s.cr1
  | 2 => s.cr2
  | 3 => s.cr3
  | 4 => s.mbY ++ s.mbX
  | 5 => s.skipRun
  | 6 => s.statusWord
  | 7 => s.errMbY ++ s.errMbX
  | 8 => s.errBitpos
  | 9 => s.cr9
  | 10 => s.cr10
  | 11 => s.cr11
  | 12 => BitVec.ofNat 32 s.bsLen
  | _ => BitVec.ofNat 32 s.bitpos

/-- Write control register `n` (70_reset_and_hazards.md R512): unnamed bits are forced to 0. -/
def State.setControlReg (s : State) (n : Nat) (v : Word) : State :=
  match n with
  | 0 => { s with cr0 := v &&& 0x7FF#32 }
  | 1 => { s with cr1 := v }
  | 2 => { s with cr2 := v }
  | 3 => { s with cr3 := v &&& 0x7F#32 }
  | 9 => { s with cr9 := v &&& 0x3F#32 }
  | 10 => { s with cr10 := v }
  | 11 => { s with cr11 := v }
  | _ => s

/-- Write `qscale` (R33, 43_mb_type_motion.md R346). -/
def State.setQscale (s : State) (q : Nat) : State := { s with cr3 := BitVec.ofNat 32 q &&& 0x7F#32 }

end Sys2Proof.Machine
end

