-- ==== Sys2Proof/Machine/Operands.lean ====
section
/-! DEFINITION. Where an operation's operands stand and how they are read and written: result register, bitstream, neighbor
caches, table RAMs, coefficient buffers, planes, per-macroblock arrays, reference pictures (10_state.md R40 to R56,
20_memory.md R70 to R77). -/

namespace Sys2Proof.Machine

/-- `RES <- v`. -/
def setRes (v : Int) : Op Unit := Op.modify fun s => { s with res := some (BitVec.ofInt 32 v) }

/-! ### The bitstream buffer (20_memory.md R72) -/

/-- Byte `k` of the buffer: what the host's buffer held there, or the platform's own byte (DESIGN CHOICE, log 5). -/
def State.bsByte (s : State) (k : Nat) : Byte := (Cells.look s.bs k).getD (Config.platformByte s.bsGen k)

/-- Bit `i` of the bitstream; bits at or beyond `BS_LEN` read as 0 (40_bitreader_vlc.md R172). -/
def State.bsBit (s : State) (i : Nat) : Bool :=
  if i < s.bsLen then (s.bsByte (i / 8)).getLsbD (7 - i % 8) else false

/-- The `n` bits from position `pos` on. -/
def State.bsBits (s : State) (pos : Nat) : Nat → List Bool
  | 0 => []
  | n + 1 => s.bsBit pos :: s.bsBits (pos + 1) n

/-! ### Neighbor caches (10_state.md R40) -/

/-- Read `NNZ_CACHE[slot]`. -/
def nnzAt (slot : Nat) : Op (BitVec 8) := Op.need fun s => Cells.look s.cache.nnz slot

/-- Read `MV_CACHE[l][slot]`. -/
def mvAt (l slot : Nat) : Op Mv := Op.need fun s => Cells.look s.cache.mv (Config.nnzSlots * l + slot)

/-- Read `REF_CACHE[l][slot]`. -/
def refAt (l slot : Nat) : Op (BitVec 8) := Op.need fun s => Cells.look s.cache.ref (Config.nnzSlots * l + slot)

/-- Read `I4MODE_CACHE[slot]`. -/
def i4At (slot : Nat) : Op (BitVec 8) := Op.need fun s => Cells.look s.cache.i4 slot

/-- Write `NNZ_CACHE` at some slots. -/
def setNnz (slots : List Nat) (v : BitVec 8) : Op Unit :=
  Op.modify fun s => { s with cache := { s.cache with nnz := Cells.putAll s.cache.nnz v slots } }

/-- Write `MV_CACHE[l]` at some slots. -/
def setMv (l : Nat) (slots : List Nat) (v : Mv) : Op Unit :=
  Op.modify fun s =>
    { s with cache := { s.cache with mv := Cells.putAll s.cache.mv v (slots.map (Config.nnzSlots * l + ·)) } }

/-- Write `REF_CACHE[l]` at some slots. -/
def setRef (l : Nat) (slots : List Nat) (v : BitVec 8) : Op Unit :=
  Op.modify fun s =>
    { s with cache := { s.cache with ref := Cells.putAll s.cache.ref v (slots.map (Config.nnzSlots * l + ·)) } }

/-- Write `I4MODE_CACHE` at some slots. -/
def setI4 (slots : List Nat) (v : BitVec 8) : Op Unit :=
  Op.modify fun s => { s with cache := { s.cache with i4 := Cells.putAll s.cache.i4 v slots } }

/-- The slots of "fill `w` by `h` at block `n`" (43_mb_type_motion.md, head). -/
def fillSlots (n w h : Nat) : List Nat :=
  (List.range h).flatMap fun j => (List.range w).map fun i => scan8 n + i + 8 * j

/-- The 24 block slots of `NNZ_CACHE`. -/
def blockSlots : List Nat := (List.range 24).map scan8

/-- The eight chroma block slots of `NNZ_CACHE`. -/
def chromaSlots : List Nat := (List.range 8).map fun k => scan8 (16 + k)

/-- Does a `REF_CACHE` or `PIC_REF` value name a reference, and not a sentinel (R41)? -/
def isRef (r : BitVec 8) : Bool := decide (0 ≤ r.toInt)

/-! ### Table RAMs (10_state.md R50, 70_reset_and_hazards.md R514) -/

/-- `SCAN_RAM[id][pos]`. -/
def scanAt (id pos : Nat) : Op Nat := Op.need fun s => (Cells.look s.tabs.scan (id * 64 + pos)).map BitVec.toNat

/-- `DEQUANT4[m][qp][pos]`. -/
def dequant4At (m qp pos : Nat) : Op Nat :=
  Op.need fun s => (Cells.look s.tabs.dequant4 ((m * 128 + qp) * 16 + pos)).map BitVec.toNat

/-- `DEQUANT8[m][qp][pos]`. -/
def dequant8At (m qp pos : Nat) : Op Nat :=
  Op.need fun s => (Cells.look s.tabs.dequant8 ((m * 128 + qp) * 64 + pos)).map BitVec.toNat

/-- `CHROMA_QP_TAB[c][qp]`. -/
def chromaQpTabAt (c qp : Nat) : Op (BitVec 7) := Op.need fun s => Cells.look s.tabs.chromaQp (c * 128 + qp)

/-- The explicit weight (`k = 0`) or offset (`k = 1`) of list `l`, reference `r`, plane `p`. -/
def weightAt (p l r k : Nat) : Op Int :=
  Op.need fun s =>
    if p = 0 then (Cells.look s.tabs.lumaWeight ((l * 32 + r) * 2 + k)).map BitVec.toInt
    else (Cells.look s.tabs.chromaWeight (((l * 32 + r) * 2 + (p - 1)) * 2 + k)).map BitVec.toInt

/-- `REF_POC[l][r]`. -/
def refPocAt (l r : Nat) : Op Int := Op.need fun s => (Cells.look s.tabs.refPoc (l * 32 + r)).map BitVec.toInt

/-- `REF_LONG[l][r]`. -/
def refLongAt (l r : Nat) : Op Bool := Op.need fun s => Cells.look s.tabs.refLong (l * 32 + r)

/-- `IMPLICIT_WEIGHT[r0][r1]`. -/
def implicitWeightAt (r0 r1 : Nat) : Op Int :=
  Op.need fun s => (Cells.look s.tabs.implicitWeight (r0 * 32 + r1)).map BitVec.toInt

/-! ### Coefficient buffers (10_state.md R51) -/

/-- `COEF` at index `16*b + i` (which is `COEF8[q][i]` at `64*q + i`). -/
def State.coefAt (s : State) (k : Nat) : Int := (Cells.lookZero s.coefs.coef k).toInt

/-- `LUMA_DC_BUF[i]`. -/
def State.lumaDcAt (s : State) (i : Nat) : Int := (Cells.lookZero s.coefs.lumaDc i).toInt

/-- `CHROMA_DC_BUF[c][i]`. -/
def State.chromaDcAt (s : State) (c i : Nat) : Int := (Cells.lookZero s.coefs.chromaDc (8 * c + i)).toInt

/-- Write `COEF` at index `16*b + i`. -/
def setCoef (k : Nat) (v : Int) : Op Unit :=
  Op.modify fun s => { s with coefs := { s.coefs with coef := Cells.putZero s.coefs.coef k (s.wrapCoef v) } }

/-- Write `LUMA_DC_BUF[i]`. -/
def setLumaDc (i : Nat) (v : Int) : Op Unit :=
  Op.modify fun s => { s with coefs := { s.coefs with lumaDc := Cells.putZero s.coefs.lumaDc i (s.wrapCoef v) } }

/-- Write `CHROMA_DC_BUF[c][i]`. -/
def setChromaDc (c i : Nat) (v : Int) : Op Unit :=
  Op.modify fun s =>
    { s with coefs := { s.coefs with chromaDc := Cells.putZero s.coefs.chromaDc (8 * c + i) (s.wrapCoef v) } }

/-- Zero `n` elements of `COEF` from index `k` on. -/
def zeroCoefs (k n : Nat) : Op Unit :=
  Op.modify fun s => { s with coefs := { s.coefs with coef := Cells.dropAll s.coefs.coef (List.range' k n) } }

/-- Zero `LUMA_DC_BUF`. -/
def zeroLumaDc : Op Unit := Op.modify fun s => { s with coefs := { s.coefs with lumaDc := [] } }

/-- Zero `CHROMA_DC_BUF[c][0..n-1]`. -/
def zeroChromaDc (c n : Nat) : Op Unit :=
  Op.modify fun s => { s with coefs := { s.coefs with chromaDc := Cells.dropAll s.coefs.chromaDc (List.range' (8 * c) n) } }

/-! ### Planes (20_memory.md R73) -/

/-- The width of a plane; a plane that does not exist has none. -/
def State.planeW (s : State) (p : Nat) : Nat :=
  if p = 0 then 16 * s.picW
  else match s.chromaFormat with
    | 0 => 0
    | 1 => 8 * s.picW
    | 2 => 8 * s.picW
    | _ => 16 * s.picW

/-- The height of a plane. -/
def State.planeH (s : State) (p : Nat) : Nat :=
  if p = 0 then 16 * s.picH
  else match s.chromaFormat with
    | 0 => 0
    | 1 => 8 * s.picH
    | _ => 16 * s.picH

/-- Where sample `[y][x]` stands in a plane. DESIGN CHOICE, log 27. -/
def sampleIndex (x y : Nat) : Nat := 2 ^ 20 * y + x

/-- Plane `p` of three. -/
def Planes.plane (pl : Planes) (p : Nat) : Cells Sample :=
  match p with
  | 0 => pl.y
  | 1 => pl.cb
  | _ => pl.cr

/-- Replace plane `p`. -/
def Planes.setPlane (pl : Planes) (p : Nat) (c : Cells Sample) : Planes :=
  match p with
  | 0 => { pl with y := c }
  | 1 => { pl with cb := c }
  | _ => { pl with cr := c }

/-- The sample at an index of plane `p`: what was written, or what the platform left there (DESIGN CHOICE, log 5), in the width of
a sample. -/
def Planes.sample (pl : Planes) (bitDepth p k : Nat) : Nat :=
  match Cells.look (pl.plane p) k with
  | some v => v.toNat
  | none => Config.platformSample pl.gen p k % 2 ^ bitDepth

/-- The sample `[y][x]` of plane `p` of the current picture. -/
def State.sample (s : State) (p x y : Nat) : Nat := s.pic.planes.sample s.bitDepth p (sampleIndex x y)

/-- Does the `w` by `h` block at (x, y) lie in plane `p`? -/
def State.insidePlane (s : State) (p x y w h : Nat) : Bool := decide (x + w ≤ s.planeW p ∧ y + h ≤ s.planeH p)

/-- The coordinates (i, j) of a `w` by `h` block, row by row. -/
def blockCoords (w h : Nat) : List (Nat × Nat) :=
  (List.range h).flatMap fun j => (List.range w).map fun i => (i, j)

/-- Write the `w` by `h` block at (x, y) of plane `p`: sample (i, j) becomes `f i j`. -/
def State.putBlock (s : State) (p x y w h : Nat) (f : Nat → Nat → Sample) : State :=
  let cells := (blockCoords w h).map fun c => (sampleIndex (x + c.1) (y + c.2), f c.1 c.2)
  { s with pic := { s.pic with planes := s.pic.planes.setPlane p (Cells.putList (s.pic.planes.plane p) cells) } }

/-- Write a block of the current picture from its old samples; an index outside the plane is a model fault (R71).
DEDUCED, log 28. -/
def updateBlock (p x y w h : Nat) (f : State → Nat → Nat → Sample) : Op Unit := do
  Op.require (fun s => s.insidePlane p x y w h) (.faulted .outOfRange)
  Op.modify fun s => s.putBlock p x y w h (f s)

/-- Where `TMP[p][y mod 16][x mod 16]` stands (10_state.md R55). -/
def tmpIndex (p x y : Nat) : Nat := 256 * p + 16 * (y % 16) + x % 16

/-- Write a block of the scratch buffer. -/
def State.putTmp (s : State) (p x y w h : Nat) (f : Nat → Nat → Sample) : State :=
  let cells := (blockCoords w h).map fun c => (tmpIndex p (x + c.1) (y + c.2), f c.1 c.2)
  { s with tmp := Cells.putList s.tmp cells }

/-- Is every element of a block of the scratch buffer written? -/
def State.tmpLoaded (s : State) (p x y w h : Nat) : Bool :=
  (blockCoords w h).all fun c => (Cells.look s.tmp (tmpIndex p (x + c.1) (y + c.2))).isSome

/-- An element of the scratch buffer. -/
def State.tmpAt (s : State) (p x y : Nat) : Nat := ((Cells.look s.tmp (tmpIndex p x y)).getD 0).toNat

/-! ### Per-macroblock arrays (20_memory.md R74) -/

/-- `PIC_SLICE[mb]`; `none` is `undef`. -/
def State.picSlice (s : State) (mb : Nat) : Option (BitVec 16) :=
  match Cells.look s.pic.arrays.slice mb with
  | some v => some v
  | none => if s.pic.prepared then some 0xFFFF#16 else none

/-- Read `PIC_MB_TYPE[mb].kind`. -/
def picKindAt (mb : Nat) : Op MbKind :=
  Op.need fun s =>
    match Cells.look s.pic.arrays.mbType mb with
    | some m => m.kind
    | none => none

/-- Read `PIC_NNZ[mb][n]`. -/
def picNnzAt (mb n : Nat) : Op (BitVec 8) := Op.need fun s => Cells.look s.pic.arrays.nnz (24 * mb + n)

/-- Read `PIC_MV[l][mb][n]`. -/
def picMvAt (l mb n : Nat) : Op Mv := Op.need fun s => Cells.look s.pic.arrays.mv (16 * (2 * mb + l) + n)

/-- Read `PIC_REF[l][mb][q]`. -/
def picRefAt (l mb q : Nat) : Op (BitVec 8) := Op.need fun s => Cells.look s.pic.arrays.ref (4 * (2 * mb + l) + q)

/-- Read `PIC_I4MODE[mb][n]`. -/
def picI4At (mb n : Nat) : Op (BitVec 8) := Op.need fun s => Cells.look s.pic.arrays.i4 (16 * mb + n)

/-- Write the per-macroblock arrays. -/
def setArrays (f : PicArrays → PicArrays) : Op Unit :=
  Op.modify fun s => { s with pic := { s.pic with arrays := f s.pic.arrays } }

/-! ### The reference store (20_memory.md R70, R83) -/

/-- The reference picture `r` of list `l`. DEDUCED, log 19. -/
def State.refPic (s : State) (l r : Nat) : Option RefPic := Cells.look s.refs (32 * l + r)

/-- Is row `y` of plane `p` of a reference published (R83)? Luma rows count; rows 0..`y` of luma are
rows 0..`y/2` of 4:2:0 chroma. DEDUCED, log 20. -/
def State.published (s : State) (ref : RefPic) (p y : Nat) : Bool :=
  decide (((if p ≠ 0 ∧ s.chromaFormat = 1 then 2 * y else y : Nat) : Int) ≤ ref.progress.toInt)

/-- A coordinate clamped into a plane (44_motion_comp.md R374). -/
def clampCoord (v : Int) (size : Nat) : Nat := (min (max v 0) ((size : Int) - 1)).toNat

/-- `Ref(l, r, p, x, y)` (R374). A row not yet published races with its producer, and the value is free (R518, log 4);
`out` names the sample it is read for. -/
def State.refSample (s : State) (ref : RefPic) (p out : Nat) (x y : Int) : Int :=
  let cx := clampCoord x (s.planeW p)
  let cy := clampCoord y (s.planeH p)
  if s.published ref p cy then (ref.planes.sample s.bitDepth p (sampleIndex cx cy) : Nat)
  else (Config.raceSample s.freeCtr out (sampleIndex cx cy) % 2 ^ s.bitDepth : Nat)

/-! ### Macroblock registers (10_state.md R22) -/

/-- `MB.kind`. -/
def mbKind : Op MbKind := Op.need fun s => s.mb.kind

/-- `MB.dct8x8`. -/
def mbDct8x8 : Op Bool := Op.need fun s => s.mb.dct8x8

/-- `MB.cbp`. -/
def mbCbp : Op Nat := Op.need fun s => s.mb.cbp.map BitVec.toNat

/-- `MB.dir[p][l]`. -/
def mbDir (p l : Nat) : Op Bool := Op.need fun s => Cells.look s.mb.dir (2 * p + l)

/-- `MB.sub[i]`. -/
def mbSub (i : Nat) : Op SubMb := Op.need fun s => Cells.look s.mb.sub i

/-- Write macroblock registers. -/
def setMb (f : Mb → Mb) : Op Unit := Op.modify fun s => { s with mb := f s.mb }

end Sys2Proof.Machine
end

