-- ==== Sys2Proof/Machine/BitReader.lean ====
section
/-! DEFINITION. Table initialisation, the bit reader and the VLC look-up (40_bitreader_vlc.md R170 to R181). -/

namespace Sys2Proof.Machine

/-- `PeekBits(n)` (R172). -/
def State.peekBits (s : State) (n : Nat) : Nat := numberOf (s.bsBits s.bitpos n)

/-- Move the cursor over `n` bits, which must be there (R173). -/
def skipBits (n : Nat) : Op Unit := do
  Op.require (fun s => decide (s.bitpos + n ≤ s.bsLen)) (.raised .insufficientBits)
  Op.modify fun s => { s with bitpos := s.bitpos + n }

/-- `ReadBits(n)` (R174). -/
def readBits (n : Nat) : Op Nat := do
  let v ← Op.read fun s => s.peekBits n
  skipBits n
  pure v

/-- Count the zero bits before the next one bit and consume them and the one (R175, R181): at most `left` of them, after
which `k` is raised. -/
def countZeros (k : ErrKind) : Nat → Nat → Op Nat
  | 0, _ => Op.raise k
  | left + 1, zeros => do
    let b ← readBits 1
    if b = 0 then countZeros k left (zeros + 1) else pure zeros

/-- `ReadUE()` (R175). -/
def readUe : Op Nat := do
  let k ← countZeros .corruptedSyntax 32 0
  let x ← readBits k
  pure (2 ^ k - 1 + x)

/-- `ReadSE()` (R176). -/
def readSe : Op Int := do
  let k ← readUe
  pure (seOfUe k)

/-- `ReadTE(range)` (R177). -/
def readTe (range : Nat) : Op Nat :=
  if range = 1 then pure 0
  else if range = 2 then do
    let b ← readBits 1
    pure (1 - b)
  else readUe

/-- The cursor rounded up to a byte, not beyond the end (R178). -/
def State.alignedPos (s : State) : Nat := min ((s.bitpos + 7) / 8 * 8) s.bsLen

/-- `AlignBits()` (R178). -/
def alignBits : Op Unit := Op.modify fun s => { s with bitpos := s.alignedPos }

/-- `GetLevelPrefix()` (R181). -/
def getLevelPrefix : Op Nat := countZeros .invalidLevelPrefix 32 0

/-- The codeword of the table that the next bits, padded with zeros, begin with (R180); at most one does (R117). -/
def State.nextCode (s : State) (table : List Vlc.Code) : Option Vlc.Code :=
  table.find? fun c => c.string.isPrefixOf (s.bsBits s.bitpos 16)

/-- `VlcDecode(table)` (R180). -/
def vlcDecode (table : List Vlc.Code) : Op Nat := do
  Op.require (fun s => s.vlcReady) (.rejected .illegalCommand)
  let found ← Op.read fun s => s.nextCode table
  let c ← Op.orStop found (.raised .corruptedSyntax)
  skipBits c.len
  pure c.sym

/-- A buffer of bytes as an index space. -/
def bytesFrom (k : Nat) : List Byte → Cells Byte
  | [] => []
  | b :: rest => (k, b) :: bytesFrom (k + 1) rest

/-- `BS_LOAD` after its checks (R171): the host's buffer becomes the bitstream. -/
def State.loadBits (s : State) (len : Nat) : State :=
  { s with bs := bytesFrom 0 s.hostBuf, bsGen := s.freeCtr, freeCtr := s.freeCtr + 1, bsLen := len, bitpos := 0 }

/-! ### The commands -/

/-- `VLC_INIT` (R170). The tables are constants; the flag is what is left to set. DEDUCED, log 30. -/
def execVlcInit (s : State) : Host.Outcome State Fault Refusal :=
  command s.isIdle true (Op.modify fun s => { s with vlcReady := true }) s

/-- `BS_LOAD` (R171). -/
def execBsLoad (len : Word) (s : State) : Host.Outcome State Fault Refusal :=
  command s.isIdle (Legal.streamLen len) (Op.modify fun s => s.loadBits len.toNat) s

/-- `BS_SEEK` (R171). -/
def execBsSeek (pos : Word) (s : State) : Host.Outcome State Fault Refusal :=
  command s.isIdle (decide (pos.toNat ≤ s.bsLen)) (Op.modify fun s => { s with bitpos := pos.toNat }) s

/-- `PEEK` (R172). -/
def execPeek (n : BitVec 8) (s : State) : Host.Outcome State Fault Refusal :=
  command s.isIdleOrRun (Legal.bits n) (do setRes (← Op.read fun s => s.peekBits n.toNat)) s

/-- `SKIP` (R173). -/
def execSkip (n : BitVec 8) (s : State) : Host.Outcome State Fault Refusal :=
  command s.isIdleOrRun (Legal.bits n) (skipBits n.toNat) s

/-- `READ` (R174). -/
def execRead (n : BitVec 8) (s : State) : Host.Outcome State Fault Refusal :=
  command s.isIdleOrRun (Legal.bits n) (do setRes (← readBits n.toNat)) s

/-- `READ_UE` (R175). -/
def execReadUe (s : State) : Host.Outcome State Fault Refusal :=
  command s.isIdleOrRun true (do setRes (← readUe)) s

/-- `READ_SE` (R176). -/
def execReadSe (s : State) : Host.Outcome State Fault Refusal :=
  command s.isIdleOrRun true (do setRes (← readSe)) s

/-- `READ_TE` (R177). -/
def execReadTe (range : BitVec 8) (s : State) : Host.Outcome State Fault Refusal :=
  command s.isIdleOrRun (Legal.range range) (do setRes (← readTe range.toNat)) s

/-- `ALIGN` (R178). -/
def execAlign (s : State) : Host.Outcome State Fault Refusal := command s.isIdleOrRun true alignBits s

/-- `BITS_LEFT` (R179). -/
def execBitsLeft (s : State) : Host.Outcome State Fault Refusal :=
  command s.isIdleOrRun true (do setRes (← Op.read fun s => s.bsLen - s.bitpos)) s

end Sys2Proof.Machine
end

