-- ==== Sys2Proof/Machine/Control.lean ====
section
/-! DEFINITION. The host's commands on registers and tables (70_reset_and_hazards.md R511 to R514). -/

namespace Sys2Proof.Machine

/-- How many elements a table RAM has (R514), the dimension `qp` counted to 128; `qp` is checked apart. -/
def ramSize (ram : Nat) : Nat :=
  match ram with
  | 0 => 512
  | 1 => 12288
  | 2 => 49152
  | 3 => 256
  | 4 => 128
  | 5 => 256
  | 6 => 64
  | 7 => 64
  | _ => 1024

/-- The quantizer an index of a table with a `qp` dimension addresses (R514). -/
def ramQp (ram idx : Nat) : Option Nat :=
  match ram with
  | 1 => some (idx / 16 % 128)
  | 2 => some (idx / 64 % 128)
  | 3 => some (idx % 128)
  | _ => none

/-- Is the value in the range of the table (R514)? A signed 8- or 16-bit value is the low bits of the operand. -/
def ramValueLegal (maxQp ram : Nat) (v : Word) : Bool :=
  match ram with
  | 0 => decide (v.toNat ≤ 63)
  | 3 => decide (v.toNat ≤ maxQp)
  | 7 => decide (v.toNat ≤ 1)
  | _ => true

/-- Is the index inside the table and the value in its range? DEDUCED, log 13. -/
def State.ramLegal (s : State) (ram idx : Nat) (v : Word) : Bool :=
  (match ramQp ram idx with
    | some qp => decide (qp ≤ s.maxQp)
    | none => true) && ramValueLegal s.maxQp ram v

/-- Write one element of a table RAM (R514). -/
def Tables.write (t : Tables) (ram idx : Nat) (v : Word) : Tables :=
  match ram with
  | 0 => { t with scan := Cells.put t.scan idx (v.setWidth 6) }
  | 1 => { t with dequant4 := Cells.put t.dequant4 idx v }
  | 2 => { t with dequant8 := Cells.put t.dequant8 idx v }
  | 3 => { t with chromaQp := Cells.put t.chromaQp idx (v.setWidth 7) }
  | 4 => { t with lumaWeight := Cells.put t.lumaWeight idx (v.setWidth 16) }
  | 5 => { t with chromaWeight := Cells.put t.chromaWeight idx (v.setWidth 16) }
  | 6 => { t with refPoc := Cells.put t.refPoc idx v }
  | 7 => { t with refLong := Cells.put t.refLong idx (v.getLsbD 0) }
  | _ => { t with implicitWeight := Cells.put t.implicitWeight idx (v.setWidth 8) }

/-- Does `TAB_WRITE` to this table need `MAX_QP`, and so a legal `bit_depth` (10_state.md section 5)? -/
def ramReadsBitDepth (ram : Nat) : Bool := decide (ram = 1 ∨ ram = 2 ∨ ram = 3)

/-- `RESET` (R511). -/
def execReset (s : State) : Host.Outcome State Fault Refusal :=
  command true true (Op.modify fun s => s.commandReset) s

/-- `CR_WRITE` (R512). -/
def execCrWrite (reg : BitVec 8) (value : Word) (s : State) : Host.Outcome State Fault Refusal :=
  command s.isIdle (Legal.writableReg reg) (Op.modify fun s => s.setControlReg reg.toNat value) s

/-- `CR_READ` (R513). -/
def execCrRead (reg : BitVec 8) (s : State) : Host.Outcome State Fault Refusal :=
  command true (Legal.controlReg reg)
    (Op.modify fun s => { s with res := some (s.controlReg reg.toNat) }) s

/-- `TAB_WRITE` (R514). The tables indexed by `qp` read `bit_depth`, and an illegal one is `Unsupported`.
DEDUCED, log 12. -/
def execTabWrite (ram hi lo : BitVec 8) (value : Word) (s : State) : Host.Outcome State Fault Refusal :=
  let idx := 256 * hi.toNat + lo.toNat
  command s.isIdle (Legal.ram ram && decide (idx < ramSize ram.toNat))
    (do
      Op.require (fun s => !ramReadsBitDepth ram.toNat || s.bitDepthLegal) (.rejected .unsupported)
      Op.require (fun s => s.ramLegal ram.toNat idx value) (.rejected .illegalCommand)
      Op.modify fun s => { s with tabs := s.tabs.write ram.toNat idx value }) s

end Sys2Proof.Machine
end

