-- ==== Sys2Proof/Machine/Neighbor.lean ====
section
/-! DEFINITION. The neighbor context cache and the spatial predictors (42_neighbor_cache.md R250 to R278). -/

namespace Sys2Proof.Machine

/-! ### Availability -/

/-- A neighbour macroblock: its index, and whether it is available (R254) for prediction and for intra prediction. -/
structure Neighbor where
  mb : Nat
  av : Bool
  avi : Bool
  deriving DecidableEq, Repr

/-- The index of the macroblock at (`MB_X + dx`, `MB_Y + dy`), if it exists (R250). -/
def State.neighborMb (s : State) (dx dy : Int) : Option Nat :=
  let x := (s.mbX.toNat : Int) + dx
  let y := (s.mbY.toNat : Int) + dy
  if 0 ≤ x ∧ x < s.picW ∧ 0 ≤ y ∧ y < s.picH then some (x.toNat + y.toNat * s.picW) else none

/-- Intra availability of an available macroblock (R254). -/
def intraAvailable (mb : Nat) : Op Bool := do
  let constrained ← Op.read State.constrainedIntraPred
  if constrained then do
    let k ← picKindAt mb
    pure k.intra
  else pure true

/-- The neighbour at (`MB_X + dx`, `MB_Y + dy`) and its availability (R254). -/
def neighborAt (dx dy : Int) : Op Neighbor := do
  let found ← Op.read fun s => s.neighborMb dx dy
  match found with
  | none => pure ⟨0, false, false⟩
  | some mb => do
    let slice ← Op.need fun s => s.picSlice mb
    let num ← Op.read State.sliceNum
    if slice = num then do
      let avi ← intraAvailable mb
      pure ⟨mb, true, avi⟩
    else pure ⟨mb, false, false⟩

/-! ### Filling -/

/-- The count of block `n` of a neighbour (R255, R256). -/
def borderNnz (nb : Neighbor) (n : Nat) : Op (BitVec 8) := if nb.av then picNnzAt nb.mb n else pure nnzNA

/-- Border counts (R255, R256): slot and block of the neighbour, for each pair. -/
def fillNnz (nb : Neighbor) (pairs : List (Nat × Nat)) : Op Unit :=
  Op.each pairs fun p => do
    let v ← borderNnz nb p.2
    setNnz [p.1] v

/-- Has the neighbour 4x4 prediction modes of its own (R257)? -/
def borderIs4x4 (nb : Neighbor) : Op Bool :=
  if nb.avi then do
    let k ← picKindAt nb.mb
    pure (decide (k = .intra4x4))
  else pure false

/-- The mode of block `n` of a neighbour (R257). -/
def borderI4 (nb : Neighbor) (is4x4 : Bool) (n : Nat) : Op (BitVec 8) :=
  if is4x4 then picI4At nb.mb n else pure (if nb.avi then 2 else modeNA)

/-- Border intra modes (R257). -/
def fillI4 (nb : Neighbor) (pairs : List (Nat × Nat)) : Op Unit := do
  let is4x4 ← borderIs4x4 nb
  Op.each pairs fun p => do
    let v ← borderI4 nb is4x4 p.2
    setI4 [p.1] v

/-- The preset of the macroblock's own slots and of those right of it (R258). -/
def presetMotion (l : Nat) : Op Unit := do
  let slots := [16, 24, 32] ++ (List.range 16).map scan8
  setRef l slots partNotAvailable
  setMv l slots Mv.zero

/-- `Fetch(X, q, n)` (R259). -/
def fetchMotion (nb : Neighbor) (l q n : Nat) : Op (BitVec 8 × Mv) :=
  if nb.av then do
    let r ← picRefAt l nb.mb q
    if isRef r then do
      let mv ← picMvAt l nb.mb n
      pure (r, mv)
    else pure (r, Mv.zero)
  else pure (partNotAvailable, Mv.zero)

/-- Border references and vectors (R259, R260): slot, quadrant and block of the neighbour, for each triple. -/
def fillMotion (nb : Neighbor) (l : Nat) (triples : List (Nat × Nat × Nat)) : Op Unit :=
  Op.each triples fun t => do
    let m ← fetchMotion nb l t.2.1 t.2.2
    setRef l [t.1] m.1
    setMv l [t.1] m.2

/-- Filling the borders from the four neighbours, left, top, top-left, top-right (R255 to R260). -/
def fillBorders (nl nt ntl ntr : Neighbor) : Op Unit := do
  fillNnz nt [(4, 10), (5, 11), (6, 14), (7, 15)]
  fillNnz nl [(11, 5), (19, 7), (27, 13), (35, 15)]
  let format ← Op.read State.chromaFormat
  Op.when (decide (format = 1)) do
    fillNnz nt [(1, 18), (2, 19)]
    fillNnz nl [(8, 17), (16, 19)]
    fillNnz nt [(25, 22), (26, 23)]
    fillNnz nl [(32, 21), (40, 23)]
  fillI4 nt [(4, 10), (5, 11), (6, 14), (7, 15)]
  fillI4 nl [(11, 5), (19, 7), (27, 13), (35, 15)]
  let lists ← Op.read State.lists
  Op.each lists presetMotion
  Op.each lists fun l => do
    fillMotion nt l [(4, 2, 10), (5, 2, 11), (6, 3, 14), (7, 3, 15)]
    fillMotion nl l [(11, 1, 5), (19, 1, 7), (27, 3, 13), (35, 3, 15)]
  Op.each lists fun l => do
    fillMotion ntr l [(8, 2, 10)]
    fillMotion ntl l [(3, 3, 15)]

/-- `CACHE_FILL` (R252). -/
def cacheFill : Op Unit := do
  let nl ← neighborAt (-1) 0
  let nt ← neighborAt 0 (-1)
  let ntl ← neighborAt (-1) (-1)
  let ntr ← neighborAt 1 (-1)
  Op.modify fun s =>
    { s with
      nbAvail := [(0, nl.av), (1, nt.av), (2, ntl.av), (3, ntr.av)]
      nbIntra := [(0, nl.avi), (1, nt.avi), (2, ntl.avi), (3, ntr.avi)] }
  fillBorders nl nt ntl ntr

/-! ### Predictors -/

/-- The count `PredNNZ` makes of the left and top counts (R264). -/
def nnzPrediction (left top : Nat) : Nat := (if left + top < 64 then (left + top + 1) / 2 else left + top) % 32

/-- `PredNNZ(n)` (R264). -/
def predNnz (n : Nat) : Op Nat := do
  let left ← nnzAt (scan8 n - 1)
  let top ← nnzAt (scan8 n - 8)
  let p := nnzPrediction left.toNat top.toNat
  Op.modify fun s => { s with pnnz := some (BitVec.ofNat 5 p), res := some (BitVec.ofNat 32 p) }
  pure p

/-- Write `PMX`, `PMY`. -/
def setPm (v : Mv) : Op Unit := Op.modify fun s => { s with pmx := some v.x, pmy := some v.y }

/-- The median of three vectors, by component (R265). -/
def Mv.median (a b c : Mv) : Mv :=
  ⟨BitVec.ofInt 16 (Machine.median a.x.toInt b.x.toInt c.x.toInt),
    BitVec.ofInt 16 (Machine.median a.y.toInt b.y.toInt c.y.toInt)⟩

/-- `Diagonal(s, w)` (R267). -/
def diagonal (l slot w : Nat) : Op (Mv × BitVec 8) := do
  let r ← refAt l (slot - 8 + w)
  if r = partNotAvailable then do
    let mv ← mvAt l (slot - 9)
    let r' ← refAt l (slot - 9)
    pure (mv, r')
  else do
    let mv ← mvAt l (slot - 8 + w)
    pure (mv, r)

/-- The case analysis of `PredMV` (R266). -/
def mvPrediction (ref : BitVec 8) (a : Mv) (refA : BitVec 8) (b : Mv) (refB : BitVec 8) (c : Mv) (refC : BitVec 8) : Mv :=
  let k := (decide (refA = ref)).toNat + (decide (refB = ref)).toNat + (decide (refC = ref)).toNat
  if 2 ≤ k then Mv.median a b c
  else if k = 1 then (if refA = ref then a else if refB = ref then b else c)
  else if refB = partNotAvailable ∧ refC = partNotAvailable ∧ refA ≠ partNotAvailable then a
  else Mv.median a b c

/-- `PredMV(n, w, l, ref)` (R266). -/
def predMv (n w l : Nat) (ref : BitVec 8) : Op Unit := do
  let slot := scan8 n
  let a ← mvAt l (slot - 1)
  let refA ← refAt l (slot - 1)
  let b ← mvAt l (slot - 8)
  let refB ← refAt l (slot - 8)
  let d ← diagonal l slot w
  setPm (mvPrediction ref a refA b refB d.1 d.2)

/-- Take the vector of a slot if its reference is the partition's own, else predict (R270, R271). -/
def directional (l : Nat) (slot : Nat) (ref : BitVec 8) (otherwise : Op Unit) : Op Unit := do
  let r ← refAt l slot
  if r = ref then do
    let mv ← mvAt l slot
    setPm mv
  else otherwise

/-- `PRED_MV_16x8` (R270). -/
def predMv16x8 (n l : Nat) (ref : BitVec 8) : Op Unit :=
  directional l (if n = 0 then scan8 0 - 8 else scan8 8 - 1) ref (predMv n 4 l ref)

/-- `PRED_MV_8x16` (R271). -/
def predMv8x16 (n l : Nat) (ref : BitVec 8) : Op Unit :=
  if n = 0 then directional l (scan8 0 - 1) ref (predMv n 2 l ref)
  else do
    let d ← diagonal l (scan8 4) 2
    if d.2 = ref then setPm d.1 else predMv n 2 l ref

/-- `PRED_MV_PSKIP` (R272). -/
def predMvPskip : Op Unit := do
  let refA ← refAt 0 (scan8 0 - 1)
  let a ← mvAt 0 (scan8 0 - 1)
  let refB ← refAt 0 (scan8 0 - 8)
  let b ← mvAt 0 (scan8 0 - 8)
  if refA = partNotAvailable ∨ refB = partNotAvailable ∨ (refA = 0 ∧ a = Mv.zero) ∨ (refB = 0 ∧ b = Mv.zero) then
    setPm Mv.zero
  else predMv 0 4 0 0

/-- The mode `PredI4Mode` makes of the left and top modes (R274). -/
def i4Prediction (left top : Int) : Nat := if min left top < 0 then 2 else (min left top).toNat

/-- `PredI4Mode(n)` (R274). -/
def predI4Mode (n : Nat) : Op Nat := do
  let left ← i4At (scan8 n - 1)
  let top ← i4At (scan8 n - 8)
  let m := i4Prediction left.toInt top.toInt
  Op.modify fun s => { s with pmode := some (BitVec.ofNat 4 m), res := some (BitVec.ofNat 32 m) }
  pure m

/-! ### Writing back -/

/-- The reference of quadrant `q` as it is written back (R278). -/
def ownRef (intra : Bool) (l q : Nat) : Op (BitVec 8) := if intra then pure listNotUsed else refAt l (scan8 (4 * q))

/-- The vector of block `n` as it is written back (R278). -/
def ownMv (intra : Bool) (l n : Nat) : Op Mv := if intra then pure Mv.zero else mvAt l (scan8 n)

/-- The coded block pattern as it is written back (R278). -/
def ownCbp (kind : MbKind) : Op Nat := if kind = .intraPcm then pure 47 else mbCbp

/-- Write-back of the motion of list `l` (R278). -/
def writebackMotion (mb : Nat) (intra : Bool) (l : Nat) : Op Unit := do
  Op.each (List.range 4) fun q => do
    let r ← ownRef intra l q
    setArrays fun a => { a with ref := Cells.put a.ref (4 * (2 * mb + l) + q) r }
  Op.each (List.range 16) fun n => do
    let mv ← ownMv intra l n
    setArrays fun a => { a with mv := Cells.put a.mv (16 * (2 * mb + l) + n) mv }

/-- `CACHE_WRITEBACK` (R278). DESIGN CHOICE, log 26. -/
def cacheWriteback : Op Unit := do
  Op.require (fun s => decide (s.mbX.toNat < s.picW ∧ s.mbY.toNat < s.picH)) (.faulted .outOfRange)
  let kind ← mbKind
  let mb ← Op.read State.mbXY
  let q ← Op.read fun s => if kind = .intraPcm then 0 else s.qscale
  let cbp ← ownCbp kind
  Op.modify fun s =>
    { s with
      pic :=
        { s.pic with
          arrays :=
            { s.pic.arrays with
              slice := Cells.put s.pic.arrays.slice mb s.sliceNum
              mbType := Cells.put s.pic.arrays.mbType mb { s.mb with i4Mode := [] }
              qscale := Cells.put s.pic.arrays.qscale mb (BitVec.ofNat 7 q)
              cbp := Cells.put s.pic.arrays.cbp mb (BitVec.ofNat 16 cbp) } } }
  Op.each (List.range 24) fun n => do
    let v ← nnzAt (scan8 n)
    setArrays fun a => { a with nnz := Cells.put a.nnz (24 * mb + n) v }
  Op.when (decide (kind = .intra4x4)) do
    Op.each (List.range 16) fun n => do
      let v ← i4At (scan8 n)
      setArrays fun a => { a with i4 := Cells.put a.i4 (16 * mb + n) v }
  let lists ← Op.read State.lists
  Op.each lists fun l => writebackMotion mb kind.intra l

/-! ### The commands -/

/-- `CACHE_FILL` (R252). -/
def execCacheFill (s : State) : Host.Outcome State Fault Refusal := command s.isRun true cacheFill s

/-- `PRED_NNZ` (R264). -/
def execPredNnz (n : BitVec 8) (s : State) : Host.Outcome State Fault Refusal :=
  command s.isRun (Legal.block n) (do let _ ← predNnz n.toNat) s

/-- `PRED_MV` (R266). -/
def execPredMv (n width list : BitVec 8) (ref : Word) (s : State) : Host.Outcome State Fault Refusal :=
  command s.isRun
    (Legal.lumaBlock n && Legal.partWidth width && Legal.list list && Legal.refWord ref
      && decide (list.toNat < s.listCount))
    (predMv n.toNat width.toNat list.toNat (ref.setWidth 8)) s

/-- `PRED_MV_16x8` (R270). A list that is not in use is turned away as by `PRED_MV` (R266). DEDUCED, log 32. -/
def execPredMv16x8 (n list : BitVec 8) (ref : Word) (s : State) : Host.Outcome State Fault Refusal :=
  command s.isRun
    (decide (n.toNat = 0 ∨ n.toNat = 8) && Legal.list list && Legal.refWord ref && decide (list.toNat < s.listCount))
    (predMv16x8 n.toNat list.toNat (ref.setWidth 8)) s

/-- `PRED_MV_8x16` (R271). A list that is not in use is turned away as by `PRED_MV` (R266). DEDUCED, log 32. -/
def execPredMv8x16 (n list : BitVec 8) (ref : Word) (s : State) : Host.Outcome State Fault Refusal :=
  command s.isRun
    (decide (n.toNat = 0 ∨ n.toNat = 4) && Legal.list list && Legal.refWord ref && decide (list.toNat < s.listCount))
    (predMv8x16 n.toNat list.toNat (ref.setWidth 8)) s

/-- `PRED_MV_PSKIP` (R272). -/
def execPredMvPskip (s : State) : Host.Outcome State Fault Refusal := command s.isRun true predMvPskip s

/-- `PRED_I4MODE` (R274). -/
def execPredI4Mode (n : BitVec 8) (s : State) : Host.Outcome State Fault Refusal :=
  command s.isRun (Legal.lumaBlock n) (do let _ ← predI4Mode n.toNat) s

/-- `CACHE_WRITEBACK` (R278). -/
def execCacheWriteback (s : State) : Host.Outcome State Fault Refusal := command s.isRun true cacheWriteback s

end Sys2Proof.Machine
end

