-- ==== Sys2Proof/Machine/Residual.lean ====
section
/-! DEFINITION. The CAVLC residual block decoder (41_cavlc_residual.md R200 to R233). -/

namespace Sys2Proof.Machine

/-! ### The steps -/

/-- Decode a coefficient token (R206): symbol `4*N + T`. -/
def readCoeffToken (table : List Vlc.Code) : Op Unit := do
  let sym ← vlcDecode table
  Op.modify fun s =>
    { s with
      trailingOnes := some (BitVec.ofNat 2 (sym % 4))
      totalCoeff := some (BitVec.ofNat 5 (sym / 4))
      res := some (BitVec.ofNat 32 sym) }

/-- Write `LEVEL[i]`; there are 16. -/
def setLevel (i : Nat) (v : Int) : Op Unit := do
  Op.require (fun _ => decide (i ≤ 15)) (.faulted .outOfRange)
  Op.modify fun s => { s with level := Cells.put s.level i (BitVec.ofInt 32 v) }

/-- Read `LEVEL[i]`. -/
def levelAt (i : Nat) : Op Int := Op.need fun s => (Cells.look s.level i).map BitVec.toInt

/-- Read `TOTAL_COEFF`. -/
def totalCoeff : Op Nat := Op.need fun s => s.totalCoeff.map BitVec.toNat

/-- Read `TRAILING_ONES`. -/
def trailingOnes : Op Nat := Op.need fun s => s.trailingOnes.map BitVec.toNat

/-- Read `MAX_COEFF`. -/
def maxCoeff : Op Nat := Op.need fun s => s.maxCoeff.map BitVec.toNat

/-- Read `LEVEL_IDX`. -/
def levelIdx : Op Nat := Op.need fun s => s.levelIdx.map BitVec.toNat

/-- Read `ZEROS_LEFT`. -/
def zerosLeft : Op Int := Op.need fun s => s.zerosLeft.map BitVec.toInt

/-- What `READ_TRAILING_SIGNS` and `READ_TOTAL_ZEROS` need: `1 ≤ TOTAL_COEFF ≤ MAX_COEFF` (R208, R218).
DEDUCED, log 15. -/
def needBlock : Op (Nat × Nat) := do
  let total ← totalCoeff
  let mc ← maxCoeff
  Op.require (fun _ => decide (1 ≤ total ∧ total ≤ mc)) (.rejected .illegalCommand)
  pure (total, mc)

/-- `READ_TRAILING_SIGNS` (R208). -/
def readTrailingSigns : Op Unit := do
  let c ← needBlock
  let t ← trailingOnes
  Op.each (List.range t) fun i => do
    let b ← readBits 1
    setLevel i (1 - 2 * b)
  Op.modify fun s =>
    { s with
      levelIdx := some (BitVec.ofNat 5 t)
      suffixLength := some (if 10 < c.1 ∧ t < 3 then 1 else 0)
      res := some (BitVec.ofNat 32 t) }

/-- The next suffix length (R210). -/
def nextSuffixLength (sl : Nat) (level : Int) : Nat :=
  if sl = 0 then (if 3 < level.natAbs then 2 else 1)
  else if exceedsSuffixLimit sl level.natAbs then sl + 1 else sl

/-- One level read with suffix length `sl` (R210): prefix, suffix and sign folding. -/
def decodeLevel (sl : Nat) (first : Bool) : Op Int := do
  let p ← getLevelPrefix
  Op.require (fun _ => decide (p ≤ 28)) (.raised .invalidLevelPrefix)
  let rule := prefixRule sl p
  let suffix ← readBits rule.2
  pure (levelOfCode (rule.1 + suffix + if first then 2 else 0))

/-- `READ_LEVEL` (R210). -/
def readLevel : Op Unit := do
  let idx ← levelIdx
  let total ← totalCoeff
  Op.require (fun _ => decide (idx < total)) (.rejected .illegalCommand)
  let t ← trailingOnes
  let sl ← Op.need fun s => s.suffixLength.map BitVec.toNat
  let level ← decodeLevel sl (decide (idx = t ∧ t < 3))
  setLevel idx level
  Op.modify fun s =>
    { s with
      levelIdx := some (BitVec.ofNat 5 (idx + 1))
      suffixLength := some (BitVec.ofNat 3 (nextSuffixLength sl level))
      res := some (BitVec.ofInt 32 level) }

/-- The total-zeros table of `TOTAL_COEFF` and the block class (R218). -/
def totalZerosTable (total mc : Nat) : List Vlc.Code :=
  if mc = 4 then Vlc.chromaDcZeros total
  else if mc = 8 then Vlc.chroma422DcZeros total
  else Vlc.zeros total

/-- The total of zeros: none where no coefficient is missing, else read (R218). -/
def decodeTotalZeros (total mc : Nat) : Op Nat :=
  if total = mc then pure 0
  else do
    Op.require (fun _ => decide (total ≤ 15)) (.faulted .outOfRange)
    vlcDecode (totalZerosTable total mc)

/-- `READ_TOTAL_ZEROS` (R218). -/
def readTotalZeros : Op Unit := do
  let c ← needBlock
  let z ← decodeTotalZeros c.1 c.2
  Op.modify fun s => { s with zerosLeft := some (BitVec.ofNat 6 z), res := some (BitVec.ofNat 32 z) }

/-- The run-before table of `ZEROS_LEFT` (R220). -/
def runTable (zl : Int) : List Vlc.Code := Vlc.run (if zl < 7 then zl.toNat else 7)

/-- What a decoded `run_before` does to the zeros left (R220, R224). -/
def useRun (zl : Int) (run : Nat) : Op Unit := do
  Op.modify fun s =>
    { s with runBefore := some (BitVec.ofNat 4 run), zerosLeft := some (BitVec.ofInt 6 (zl - run)) }
  Op.require (fun _ => decide (0 ≤ zl - run)) (.raised .negativeZerosLeft)
  setRes run

/-- `READ_RUN_BEFORE` (R220). -/
def readRunBefore : Op Unit := do
  let zl ← zerosLeft
  Op.require (fun _ => decide (0 < zl)) (.rejected .illegalCommand)
  let run ← vlcDecode (runTable zl)
  useRun zl run

/-! ### The whole block -/

/-- The operands of one `DECODE_RESIDUAL`: block, scan table, `max_coeff` and the qmul selector (R200). -/
structure ResidualArgs where
  blk : Nat
  scan : Nat
  maxCoeff : Nat
  qmul : Legal.Qmul
  deriving DecidableEq, Repr

/-- How many elements the destination has (R200). -/
def ResidualArgs.destSize (r : ResidualArgs) : Nat :=
  if r.qmul.dest8 then 64 else if r.blk ≤ 24 then 16 else if r.maxCoeff = 4 then 4 else 8

/-- Write an element of the destination (R200). -/
def ResidualArgs.setDest (r : ResidualArgs) (idx : Nat) (v : Int) : Op Unit :=
  if r.blk = 24 then setLumaDc idx v
  else if 25 ≤ r.blk then setChromaDc (r.blk - 25) idx v
  else if r.qmul.dest8 then setCoef (64 * (r.blk / 4) + idx) v
  else setCoef (16 * r.blk + idx) v

/-- `qmul[idx]` (30_encoding.md R103). -/
def ResidualArgs.factorAt (r : ResidualArgs) (idx : Nat) : Op Nat :=
  if r.qmul.is8 then dequant8At r.qmul.m r.qmul.qp idx
  else do
    Op.require (fun _ => decide (idx ≤ 15)) (.faulted .outOfRange)
    dequant4At r.qmul.m r.qmul.qp idx

/-- Dequantize a level (R223): the product in 32 bits, an arithmetic shift. -/
def dequantize (v : Int) (factor : Nat) : Int := (BitVec.ofInt 32 (v * factor + 32)).toInt >>> 6

/-- `Store(pos, v)` (R223). -/
def storeLevel (r : ResidualArgs) (pos : Nat) (v : Int) : Op Unit := do
  let idx ← scanAt r.scan (r.qmul.scanOffset + pos)
  Op.require (fun _ => decide (idx < r.destSize)) (.faulted .outOfRange)
  if r.qmul.valid then do
    let f ← r.factorAt idx
    r.setDest idx (dequantize v f)
  else r.setDest idx v

/-- The run before the next level: read while zeros are left, else none (R222). -/
def nextRun (zl : Int) : Op Nat :=
  if 0 < zl then do
    readRunBefore
    Op.need fun s => s.runBefore.map BitVec.toNat
  else pure 0

/-- Place the levels from `LEVEL[i]` on, `n` of them, below scan position `pos`, reading a run before each while zeros
are left (R222, both loops). -/
def scatterFrom (r : ResidualArgs) : (n i : Nat) → (pos : Nat) → Op Unit
  | 0, _, _ => pure ()
  | n + 1, i, pos => do
    let zl ← zerosLeft
    let run ← nextRun zl
    let v ← levelAt i
    storeLevel r (pos - 1 - run) v
    scatterFrom r n (i + 1) (pos - 1 - run)

/-- Scatter the levels (R222). -/
def scatter (r : ResidualArgs) : Op Unit := do
  let total ← totalCoeff
  let zl ← zerosLeft
  let pos := zl + total - 1
  Op.require (fun _ => decide (pos < r.maxCoeff)) (.raised .corruptedSyntax)
  let v ← levelAt 0
  storeLevel r pos.toNat v
  scatterFrom r (total - 1) 1 pos.toNat

/-- Read levels until `LEVEL_IDX` reaches `TOTAL_COEFF` (R200), at most 16. -/
def readLevels : Nat → Op Unit
  | 0 => pure ()
  | n + 1 => do
    let idx ← levelIdx
    let total ← totalCoeff
    if idx < total then do
      readLevel
      readLevels n
    else pure ()

/-- The coefficient-token table of a block (R205). -/
def selectTokenTable (r : ResidualArgs) : Op (List Vlc.Code) :=
  if r.maxCoeff = 4 then pure (Vlc.token 4)
  else if r.maxCoeff = 8 then pure (Vlc.token 5)
  else do
    let p ← predNnz (if r.blk = 24 then 0 else r.blk)
    Op.require (fun _ => decide (p ≤ 16)) (.faulted .outOfRange)
    pure (Vlc.token (coeffTokenTableIndex p))

/-- The registers of a block that has been scattered are `undef` again (R200, 10_state.md R21). -/
def State.forgetBlock (s : State) : State :=
  { s with
    totalCoeff := none, trailingOnes := none, level := [], levelIdx := none, suffixLength := none
    zerosLeft := none, runBefore := none, maxCoeff := none, blk := none }

/-- What is parsed of a block with coefficients (R200). -/
def residualLevels (r : ResidualArgs) (total : Nat) : Op Unit := do
  Op.require (fun _ => decide (total ≤ r.maxCoeff)) (.raised .corruptedSyntax)
  readTrailingSigns
  readLevels 16
  readTotalZeros
  scatter r

/-- `DECODE_RESIDUAL` after its operand checks (R200, R204, R207). -/
def decodeResidual (r : ResidualArgs) : Op Unit := do
  Op.require (fun s => s.vlcReady) (.rejected .illegalCommand)
  Op.modify fun s => { s with maxCoeff := some (BitVec.ofNat 5 r.maxCoeff), blk := some (BitVec.ofNat 5 r.blk) }
  let table ← selectTokenTable r
  readCoeffToken table
  let total ← totalCoeff
  setNnz [scan8 r.blk] (BitVec.ofNat 8 total)
  Op.when (decide (0 < total)) (Op.nested (residualLevels r total))
  setRes total
  Op.modify State.forgetBlock

/-! ### The commands -/

/-- `MAX_COEFF` of a table selector of `READ_COEFF_TOKEN` (R206). -/
def tokenMaxCoeff (sel : Nat) : BitVec 5 := if sel ≤ 3 then 16 else if sel = 4 then 4 else 8

/-- `READ_COEFF_TOKEN` issued on its own (R206). -/
def tokenStep (sel : Nat) : Op Unit := do
  Op.modify fun s => { s with maxCoeff := some (tokenMaxCoeff sel), blk := none }
  readCoeffToken (Vlc.token sel)

/-- `READ_COEFF_TOKEN` (R206). -/
def execReadCoeffToken (sel : BitVec 8) (s : State) : Host.Outcome State Fault Refusal :=
  command s.isIdleOrRun (Legal.tokenSel sel && s.vlcReady) (tokenStep sel.toNat) s

/-- `READ_TRAILING_SIGNS` (R208). -/
def execReadTrailingSigns (s : State) : Host.Outcome State Fault Refusal :=
  command s.isIdleOrRun true readTrailingSigns s

/-- `READ_LEVEL` (R210), a user of the level table (10_state.md R26). -/
def execReadLevel (s : State) : Host.Outcome State Fault Refusal :=
  command s.isIdleOrRun s.vlcReady readLevel s

/-- `READ_TOTAL_ZEROS` (R218). -/
def execReadTotalZeros (s : State) : Host.Outcome State Fault Refusal :=
  command s.isIdleOrRun s.vlcReady readTotalZeros s

/-- `READ_RUN_BEFORE` (R220). -/
def execReadRunBefore (s : State) : Host.Outcome State Fault Refusal :=
  command s.isIdleOrRun s.vlcReady readRunBefore s

/-- `DECODE_RESIDUAL` (R200). -/
def execDecodeResidual (blk scan maxCoeff : BitVec 8) (qmul : Word) (s : State) : Host.Outcome State Fault Refusal :=
  command s.isIdleOrRun (Legal.residual blk scan maxCoeff qmul && s.vlcReady)
    (do
      Op.require (fun s => s.bitDepthLegal) (.rejected .unsupported)
      Op.require (fun s => decide ((Legal.qmul qmul).qp ≤ s.maxQp)) (.rejected .illegalCommand)
      decodeResidual ⟨blk.toNat, scan.toNat, maxCoeff.toNat, Legal.qmul qmul⟩) s

end Sys2Proof.Machine
end

