-- ==== Sys2Proof/Machine/Macroblock.lean ====
section
/-! DEFINITION. Slice control, macroblock type and motion decoding (43_mb_type_motion.md R300 to R360). -/

namespace Sys2Proof.Machine

/-! ### Slice framing -/

/-- The configurations `SLICE_START` refuses with `Unsupported` (R300, 60_exceptions.md R476). -/
def State.configSupported (s : State) : Bool :=
  decide (s.chromaFormat ≤ 1) && s.bitDepthLegal && !s.transformBypass && s.frameMbsOnly

/-- A legal count of active references. -/
def refCountLegal (n : Nat) : Bool := decide (1 ≤ n ∧ n ≤ 32)

/-- The slice configurations `SLICE_START` accepts (R300). -/
def State.sliceLegal (s : State) : Bool :=
  (match s.sliceTypeField with
    | 0 => refCountLegal (s.refCount 0)
    | 1 => refCountLegal (s.refCount 0) && refCountLegal (s.refCount 1)
    | 2 => true
    | _ => false)
    && decide (s.qscale ≤ s.maxQp) && decide (s.useWeight ≠ 3)

/-- Is the macroblock address in a `SLICE_START` operand inside the picture? -/
def State.addressLegal (s : State) (pos : Word) : Bool :=
  decide ((pos.extractLsb' 0 16).toNat < s.picW ∧ (pos.extractLsb' 16 16).toNat < s.picH)

/-- `SLICE_START` (R300): first the operand, then the configuration (60_exceptions.md R474). DEDUCED, log 18. -/
def sliceStart (pos : Word) : Op Unit := do
  Op.require (fun s => s.addressLegal pos) (.rejected .illegalCommand)
  Op.require State.configSupported (.rejected .unsupported)
  Op.require State.sliceLegal (.rejected .illegalCommand)
  Op.modify fun s => s.startSlice pos

/-! ### Skipped macroblocks -/

/-- The macroblocks of the picture from the current one on. -/
def State.mbsLeft (s : State) : Nat := s.picW * s.picH - s.mbXY

/-- Is a skip run too long? It is when it is longer than the picture (R302, and so R471); one that is longer than the macroblocks
left, but not than the picture, is too long by the words of 60_exceptions.md R471 and not by the formula of R302: a free value
decides. DESIGN CHOICE, log 25. -/
def State.skipRunTooLong (s : State) (k : Nat) : Bool :=
  decide (s.picW * s.picH < k) || (decide (s.mbsLeft < k) && Config.skipRunPastEnd k s.mbsLeft)

/-- Read a skip run where none is held (R302). -/
def readSkipRun (held : Word) : Op Unit :=
  if held = 0xFFFFFFFF#32 then do
    let k ← readUe
    Op.modify fun s => { s with skipRun := BitVec.ofNat 32 k }
    Op.require (fun s => !s.skipRunTooLong k) (.raised .corruptedSyntax)
  else pure ()

/-- Take one macroblock off the skip run (R302): is it skipped? -/
def useSkipRun (left : Word) : Op Bool :=
  if 0 < left.toInt then do
    Op.modify fun s => { s with skipRun := left - 1 }
    pure true
  else do
    Op.modify fun s => { s with skipRun := 0xFFFFFFFF#32 }
    pure false

/-- The skip-run step (R302): is the macroblock skipped? -/
def skipRunStep : Op Bool := do
  let held ← Op.read State.skipRun
  readSkipRun held
  let left ← Op.read State.skipRun
  useSkipRun left

/-- What `DirectPredict` is given (10_state.md R52). R52 does not list the registers of "the slice configuration": it is taken as
every control register that the host alone writes, `CR0` to `CR2` and `CR9` to `CR11`. DESIGN CHOICE, log 7. -/
def State.directArgs (s : State) (quadrant : Option Nat) : DirectArgs where
  picCfg := s.cr0
  picSize := s.cr1
  sliceCfg := s.cr2
  weightDenom := s.cr9
  curPoc := s.cr10
  deblockMode := s.cr11
  mbX := s.mbX
  mbY := s.mbY
  cache := s.cache
  arrays := s.pic.arrays
  colocated := (s.refPic 1 0).map RefPic.arrays
  refPoc := s.tabs.refPoc
  quadrant := quadrant

/-- `DirectPredict` (R52): the motion of every luma block, all found before any is written. -/
def directPredict (quadrant : Option Nat) : Op (Nat → DirectBlock) :=
  Op.read fun s n => Config.directPredict (s.directArgs quadrant) n

/-- The reference a direct block has in a list, or `LIST_NOT_USED` (R303). -/
def DirectBlock.refOf (b : DirectBlock) (l : Nat) : BitVec 8 :=
  match b with
  | .list0 r _ => if l = 0 then r.setWidth 8 else listNotUsed
  | .list1 r _ => if l = 0 then listNotUsed else r.setWidth 8
  | .both r0 _ r1 _ => if l = 0 then r0.setWidth 8 else r1.setWidth 8

/-- The vector a direct block has in a list; (0,0) where the list is not used (R303). -/
def DirectBlock.mvOf (b : DirectBlock) (l : Nat) : Mv :=
  match b with
  | .list0 _ v => if l = 0 then v else Mv.zero
  | .list1 _ v => if l = 0 then Mv.zero else v
  | .both _ v0 _ v1 => if l = 0 then v0 else v1

/-- Write the motion `DirectPredict` gave some luma blocks, for list `l` (R303, R332). -/
def writeDirect (blocks : Nat → DirectBlock) (l : Nat) (ns : List Nat) : Op Unit :=
  Op.each ns fun n => do
    setRef l [scan8 n] ((blocks n).refOf l)
    setMv l [scan8 n] ((blocks n).mvOf l)

/-- The whole macroblock's motion from `DirectPredict`, in both lists (R303, R339). -/
def directMotion : Op Unit := do
  let blocks ← directPredict none
  Op.each [0, 1] fun l => writeDirect blocks l (List.range 16)

/-- The macroblock registers of a skipped macroblock (R303). -/
def skippedMb (b : Bool) : Mb :=
  if b then
    { Mb.undef with
      kind := some .direct, skip := some true, dct8x8 := some false, partCount := some 0, cbp := some 0 }
  else
    { Mb.undef with
      kind := some .inter16x16, skip := some true, dct8x8 := some false, partCount := some 1
      dir := dirOne true false, cbp := some 0 }

/-- The motion of a skipped macroblock of a P slice (R303). -/
def skippedMotionP : Op Unit := do
  predMvPskip
  let x ← Op.need fun s => s.pmx
  let y ← Op.need fun s => s.pmy
  setRef 0 (fillSlots 0 4 4) 0
  setMv 0 (fillSlots 0 4 4) ⟨x, y⟩

/-- The motion of a skipped macroblock (R303). -/
def skippedMotion (b : Bool) : Op Unit := if b then directMotion else skippedMotionP

/-- A skipped macroblock (R303). -/
def skippedMacroblock : Op Unit := do
  let b ← Op.read fun s => decide (s.sliceType = .b)
  setMb fun _ => skippedMb b
  cacheFill
  skippedMotion b
  setNnz blockSlots 0

/-! ### Macroblock type -/

/-- `mb_type` to the macroblock registers (R305 to R308); `none`: out of range. -/
def mbOfType (sl : SliceType) (t : Nat) : Option Mb :=
  match sl with
  | .b => if t < 23 then some (bMbType t) else if t - 23 ≤ 25 then some (iMbType (t - 23)) else none
  | .p => if t < 5 then some (pMbType t) else if t - 5 ≤ 25 then some (iMbType (t - 5)) else none
  | .i => if t ≤ 25 then some (iMbType t) else none

/-- Read and map `mb_type` (R305). -/
def readMbType : Op Unit := do
  let t ← readUe
  let sl ← Op.read State.sliceType
  let m ← Op.orStop (mbOfType sl t) (.raised .corruptedSyntax)
  setMb fun _ => m

/-! ### Intra macroblocks -/

/-- The mode of a block from the predicted one (R314). -/
def readI4Mode (pred : Nat) : Op Nat := do
  let flag ← readBits 1
  if flag = 1 then pure pred
  else do
    let rem ← readBits 3
    pure (if rem < pred then rem else rem + 1)

/-- One step of R314: block `n`, or with the 8x8 transform its quadrant. -/
def intraModeStep (big : Bool) (n : Nat) : Op Unit := do
  let pred ← predI4Mode n
  let mode ← readI4Mode pred
  setI4 (if big then fillSlots n 2 2 else [scan8 n]) (BitVec.ofNat 8 mode)
  setMb fun m =>
    { m with i4Mode := Cells.putAll m.i4Mode (BitVec.ofNat 4 mode) (if big then List.range' n 4 else [n]) }

/-- The transform-size flag of an intra macroblock (R312). -/
def intraTransformFlag (mode : Bool) : Op Nat := if mode then readBits 1 else pure 0

/-- Intra 4x4 and 8x8 prediction modes (R312, R314). -/
def intraModes : Op Unit := do
  let mode ← Op.read State.transform8x8Mode
  let flag ← intraTransformFlag mode
  let big := decide (flag = 1)
  setMb fun m => { m with dct8x8 := some big }
  Op.each (if big then [0, 4, 8, 12] else List.range 16) (intraModeStep big)

/-- The intra chroma mode (R316). -/
def intraChromaMode : Op Unit := do
  let format ← Op.read State.chromaFormat
  Op.when (decide (format = 1 ∨ format = 2)) do
    let m ← readUe
    Op.require (fun _ => decide (m ≤ 3)) (.raised .corruptedSyntax)
    setMb fun mb => { mb with chromaMode := some (BitVec.ofNat 2 m) }

/-- How many samples an IntraPCM macroblock has (R318). -/
def State.pcmCount (s : State) : Nat := 256 + if s.chromaFormat = 1 then 128 else 0

/-- `IntraPCM` (R318). -/
def intraPcm : Op Unit := do
  alignBits
  Op.require (fun s => decide (s.pcmCount * s.bitDepth ≤ s.bsLen - s.bitpos)) (.raised .insufficientBits)
  let count ← Op.read State.pcmCount
  let depth ← Op.read State.bitDepth
  Op.each (List.range count) fun i => do
    let v ← readBits depth
    Op.modify fun s => { s with pcm := Cells.put s.pcm i (BitVec.ofNat 14 v) }
  setNnz blockSlots 16
  setMb fun m => { m with cbp := some 47 }

/-! ### Inter macroblocks -/

/-- `ReadRef(l)` (R331). -/
def readRef (l : Nat) : Op (BitVec 8) := do
  let ref0 ← Op.need fun s => s.mb.ref0
  let n ← Op.read fun s => if ref0 then 1 else s.refCount l
  let r ← readTe n
  Op.require (fun _ => decide (r < n)) (.raised .corruptedSyntax)
  pure (BitVec.ofNat 8 r)

/-- The predicted vector plus the two deltas, each wrapped to 16 bits (R338). -/
def readMv : Op Mv := do
  let px ← Op.need fun s => s.pmx
  let py ← Op.need fun s => s.pmy
  let dx ← readSe
  let dy ← readSe
  pure ⟨BitVec.ofInt 16 (px.toInt + dx), BitVec.ofInt 16 (py.toInt + dy)⟩

/-- A partition of an inter macroblock: its number, its first block and the blocks it covers (R334 to R337). -/
structure Part where
  p : Nat
  block : Nat
  w : Nat
  h : Nat
  deriving DecidableEq, Repr

/-- The slots a partition covers. -/
def Part.slots (part : Part) : List Nat := fillSlots part.block part.w part.h

/-- The partition's own predictor, by the kind of the macroblock (R334, R336, R337). -/
def Part.predict (part : Part) (l : Nat) (ref : BitVec 8) : Op Unit :=
  if part.w = 4 ∧ part.h = 4 then predMv 0 4 l ref
  else if part.w = 4 then predMv16x8 part.block l ref
  else predMv8x16 part.block l ref

/-- Every pair of an active list and an element, lists outermost. -/
def pairsByList {α : Type} (lists : List Nat) (xs : List α) : List (Nat × α) := lists.flatMap fun l => xs.map fun x => (l, x)

/-- A reference decoded, with the list and the part it belongs to. -/
structure PartRef (α : Type) where
  l : Nat
  part : α
  uses : Bool
  ref : BitVec 8

/-- The reference a partition takes in a list: read where it uses the list (R334, R336, R337). -/
def refIfUsed (uses : Bool) (l : Nat) : Op (BitVec 8) := if uses then readRef l else pure listNotUsed

/-- The reference of one partition in one list (R334, R336, R337). -/
def partRef (c : Nat × Part) : Op (PartRef Part) := do
  let uses ← mbDir c.2.p c.1
  let r ← refIfUsed uses c.1
  setRef c.1 c.2.slots r
  pure ⟨c.1, c.2, uses, r⟩

/-- The vector a partition takes in a list: predicted and read where it uses the list (R334, R336, R337). -/
def partVector (c : PartRef Part) : Op Mv :=
  if c.uses then do
    c.part.predict c.l c.ref
    readMv
  else pure Mv.zero

/-- The vector of one partition in one list (R334, R336, R337). -/
def partMv (c : PartRef Part) : Op Unit := do
  let mv ← partVector c
  setMv c.l c.part.slots mv

/-- `Inter16x16`, `Inter16x8`, `Inter8x16` (R334, R336, R337): all references, then all vectors. -/
def interParts (parts : List Part) : Op Unit := do
  let lists ← Op.read State.lists
  let refs ← Op.collect (pairsByList lists parts) partRef
  Op.each refs partMv

/-- Sub-types (R320, R322). -/
def readSubTypes : Op Unit :=
  Op.each (List.range 4) fun i => do
    let t ← readUe
    let b ← Op.read fun s => decide (s.sliceType = .b)
    Op.require (fun _ => decide (t ≤ if b then 12 else 3)) (.raised .corruptedSyntax)
    setMb fun m => { m with sub := Cells.put m.sub i (if b then bSubMbType t else pSubMbType t) }

/-- What `DirectPredict` gives each direct quadrant (R332). DEDUCED, log 21. -/
def directQuadrant (i : Nat) : Op (Nat → DirectBlock) := directPredict (some i)

/-- The reference a quadrant takes in a list: a direct one has its own (R332). -/
def quadrantRefValue (direct : List (Nat → DirectBlock)) (sub : SubMb) (c : Nat × Nat) : Op (BitVec 8) :=
  match sub.shape with
  | none => pure ((direct.getD c.2 fun _ => default) (4 * c.2) |>.refOf c.1)
  | some _ => refIfUsed (sub.dir c.1) c.1

/-- The reference of one quadrant in one list (R332). -/
def quadrantRef (direct : List (Nat → DirectBlock)) (c : Nat × Nat) : Op (PartRef Nat) := do
  let sub ← mbSub c.2
  let r ← quadrantRefValue direct sub c
  pure ⟨c.1, c.2, sub.dir c.1, r⟩

/-- The pieces of one quadrant in one list: each predicted and its vector read (R332, R309). -/
def piecesMv (shape : SubShape) (l i : Nat) (ref : BitVec 8) : Op Unit :=
  Op.each (List.range shape.count) fun j => do
    let n := 4 * i + shape.blockWidth * j
    predMv n shape.blockWidth l ref
    let mv ← readMv
    setMv l (shape.slots (scan8 n)) mv

/-- The motion of one quadrant in one list (R332). -/
def quadrantMv (direct : List (Nat → DirectBlock)) (c : PartRef Nat) : Op Unit := do
  let sub ← mbSub c.part
  match sub.shape with
  | none => writeDirect (direct.getD c.part fun _ => default) c.l (List.range' (4 * c.part) 4)
  | some shape => do
    setRef c.l (fillSlots (4 * c.part) 2 2) c.ref
    if c.uses then piecesMv shape c.l c.part c.ref
    else setMv c.l (fillSlots (4 * c.part) 2 2) Mv.zero

/-- `Inter8x8` (R320, R332): sub-types, then all references, then all vectors. -/
def inter8x8 : Op Unit := do
  readSubTypes
  let direct ← Op.collect (List.range 4) directQuadrant
  let lists ← Op.read State.lists
  let refs ← Op.collect (pairsByList lists (List.range 4)) (quadrantRef direct)
  Op.each refs (quadrantMv direct)

/-- The prediction part of the syntax, by kind (R301). -/
def predictionSyntax (kind : MbKind) : Op Unit :=
  match kind with
  | .intra4x4 => do
    intraModes
    intraChromaMode
  | .intra16x16 => intraChromaMode
  | .intraPcm => pure ()
  | .inter16x16 => interParts [⟨0, 0, 4, 4⟩]
  | .inter16x8 => interParts [⟨0, 0, 4, 2⟩, ⟨1, 8, 4, 2⟩]
  | .inter8x16 => interParts [⟨0, 0, 2, 4⟩, ⟨1, 4, 2, 4⟩]
  | .inter8x8 => inter8x8
  | .direct => directMotion

/-! ### Coded block pattern, transform size, quantizer -/

/-- The coded block pattern (R340). -/
def readCbp (kind : MbKind) : Op Unit := do
  let c ← readUe
  let format ← Op.read State.chromaFormat
  let cbp ← Op.orStop (cbpOfCode (decide (format = 1 ∨ format = 2)) (decide (kind = .intra4x4)) c)
    (.raised .corruptedSyntax)
  setMb fun m => { m with cbp := some (BitVec.ofNat 6 cbp) }

/-- May the quadrant have the 8x8 transform (R343)? -/
def SubMb.allows8x8 (m : SubMb) (inference : Bool) : Bool :=
  match m.shape with
  | none => inference
  | some shape => decide (shape = .s8x8)

/-- `allowed` of R343. -/
def transform8x8Allowed (kind : MbKind) : Op Bool := do
  let mode ← Op.read State.transform8x8Mode
  let inference ← Op.read State.direct8x8Inference
  match kind with
  | .inter8x8 => do
    let subs ← Op.collect (List.range 4) mbSub
    pure (mode && subs.all fun m => m.allows8x8 inference)
  | .direct => pure (mode && inference)
  | _ => pure (mode && !kind.intra)

/-- The inter transform-size flag (R343). -/
def interTransformFlag (kind : MbKind) : Op Unit := do
  let allowed ← transform8x8Allowed kind
  let cbp ← mbCbp
  Op.when (allowed && decide (cbp % 16 ≠ 0)) do
    let b ← readBits 1
    setMb fun m => { m with dct8x8 := some (decide (b = 1)) }

/-- The quantizer after a delta, with one wraparound (R346); `none`: out of range. -/
def wrapQuantizer (maxQp : Nat) (q : Int) : Option Nat :=
  let w := if q < 0 then q + maxQp + 1 else if maxQp < q then q - (maxQp + 1) else q
  if 0 ≤ w ∧ w ≤ maxQp then some w.toNat else none

/-- The quantizer delta (R346). -/
def quantizerDelta : Op Unit := do
  let dq ← readSe
  let q ← Op.read fun s => wrapQuantizer s.maxQp (s.qscale + dq)
  let q' ← Op.orStop q (.raised .quantizerOutOfRange)
  Op.modify fun s => s.setQscale q'
  Op.each [0, 1] fun c => do
    let v ← chromaQpTabAt c q'
    Op.require (fun s => decide (v.toNat ≤ s.maxQp)) (.faulted .outOfRange)
    Op.modify fun s => { s with chromaQp := Cells.put s.chromaQp c v }

/-! ### Residual blocks -/

/-- No dequantization. -/
def qmulNull (off : Nat) : Legal.Qmul := ⟨false, false, false, 0, off, 0⟩

/-- `D4(m, qp)` of 30_encoding.md R135, from scan entry `off` on. -/
def qmulD4 (m qp off : Nat) : Legal.Qmul := ⟨true, false, false, m, off, qp⟩

/-- `D8(m, qp)` into an 8x8 quadrant, from scan entry `off` on. -/
def qmulD8 (m qp off : Nat) : Legal.Qmul := ⟨true, true, true, m, off, qp⟩

/-- Several `DECODE_RESIDUAL`, issued by `MB_DECODE`. -/
def residualBlocks (rs : List ResidualArgs) : Op Unit := Op.each rs fun r => Op.nested (decodeResidual r)

/-- Write `MB.nnz_sum[q]`. -/
def setNnzSum (q : Nat) (v : Nat) : Op Unit :=
  setMb fun m => { m with nnzSum := Cells.put m.nnzSum q (BitVec.ofNat 7 v) }

/-- The total of the four counts of a quadrant (R352). -/
def quadrantCount (q : Nat) : Op Nat := do
  let counts ← Op.collect (fillSlots (4 * q) 2 2) nnzAt
  pure ((counts.map BitVec.toNat).foldl (· + ·) 0)

/-- The luma residual of one quadrant (R348). -/
def quadrantResidual (intra dct8x8 : Bool) (cbp qp q : Nat) : Op Unit :=
  if cbp.testBit q then
    if dct8x8 then do
      residualBlocks ((List.range 4).map fun k => ⟨4 * q + k, 2, 16, qmulD8 (if intra then 0 else 1) qp (16 * k)⟩)
      let sum ← quadrantCount q
      setNnzSum q sum
    else residualBlocks ((List.range 4).map fun k => ⟨4 * q + k, 0, 16, qmulD4 (if intra then 0 else 3) qp 0⟩)
  else do
    setNnz (fillSlots (4 * q) 2 2) 0
    setNnzSum q 0

/-- The luma residual (R348). -/
def lumaResidual (kind : MbKind) (cbp : Nat) : Op Unit := do
  let qp ← Op.read State.qscale
  if kind = .intra16x16 then do
    residualBlocks [⟨24, 0, 16, qmulNull 0⟩]
    if cbp % 16 ≠ 0 then residualBlocks ((List.range 16).map fun n => ⟨n, 0, 15, qmulD4 0 qp 1⟩)
    else setNnz (fillSlots 0 4 4) 0
  else do
    let dct8x8 ← mbDct8x8
    Op.each (List.range 4) fun q => quadrantResidual kind.intra dct8x8 cbp qp q

/-- The matrix index of chroma plane `c` (10_state.md R50). -/
def chromaMatrix (intra : Bool) (c : Nat) : Nat := c + 1 + if intra then 0 else 3

/-- Read `chroma_qp[c]`. -/
def chromaQpAt (c : Nat) : Op Nat := Op.need fun s => (Cells.look s.chromaQp c).map BitVec.toNat

/-- The chroma residual (R349). -/
def chromaResidual (intra : Bool) (cbp : Nat) : Op Unit := do
  let format ← Op.read State.chromaFormat
  Op.when (decide (format = 1 ∧ cbp / 16 % 4 ≠ 0))
    (residualBlocks [⟨25, 4, 4, qmulNull 0⟩, ⟨26, 4, 4, qmulNull 0⟩])
  if format = 1 ∧ cbp / 32 % 2 = 1 then
    Op.each [0, 1] fun c => do
      let qp ← chromaQpAt c
      residualBlocks ((List.range 4).map fun k => ⟨16 + 4 * c + k, 0, 15, qmulD4 (chromaMatrix intra c) qp 1⟩)
  else setNnz chromaSlots 0

/-- Quantizer and residual, or no residual at all (R301). With none, `MB.nnz_sum` is 0 too (DEDUCED, log 10). -/
def residualSyntax (kind : MbKind) : Op Unit := do
  let cbp ← mbCbp
  if 0 < cbp ∨ kind = .intra16x16 then do
    quantizerDelta
    lumaResidual kind cbp
    chromaResidual kind.intra cbp
  else do
    setNnz blockSlots 0
    Op.each (List.range 4) fun q => setNnzSum q 0

/-! ### One macroblock -/

/-- A macroblock that is not skipped, from its type on (R301). -/
def codedMacroblock : Op Unit := do
  readMbType
  cacheFill
  let kind ← mbKind
  if kind = .intraPcm then intraPcm
  else do
    predictionSyntax kind
    Op.when (decide (kind ≠ .intra16x16)) (readCbp kind)
    interTransformFlag kind
    residualSyntax kind
    setRes 0

/-- Is the macroblock skipped? An I slice has no skip runs (R301, R302). -/
def isSkipped (sl : SliceType) : Op Bool := if sl = .i then pure false else skipRunStep

/-- `MB_DECODE` (R301). DEDUCED, log 24. -/
def mbDecode : Op Unit := do
  let sl ← Op.read State.sliceType
  let skipped ← isSkipped sl
  if skipped then skippedMacroblock else codedMacroblock

/-! ### The commands -/

/-- `SLICE_START` (R300). -/
def execSliceStart (pos : Word) (s : State) : Host.Outcome State Fault Refusal :=
  command s.isNotRun s.vlcReady (sliceStart pos) s

/-- `SLICE_END` (R360). -/
def execSliceEnd (s : State) : Host.Outcome State Fault Refusal :=
  command s.isNotIdle true (Op.modify State.endSlice) s

/-- `MB_DECODE` (R301). -/
def execMbDecode (s : State) : Host.Outcome State Fault Refusal := command s.isRun true mbDecode s

end Sys2Proof.Machine
end

