-- ==== Sys2Proof/Machine/Elements.lean ====
section
/-! DEFINITION. Taking one bitstream element on its own, as the grammar expects it (30_encoding.md R110 to R121). The spec
has no command for this; the steps of the composite operations do it. What an element does taken alone is what the
step that reads it does (DESIGN CHOICE, log 3). -/

namespace Sys2Proof.Machine

/-- Is the engine where the grammar expects such an element, with the table of R205, R218 or R220 selected? If not, the
element is turned away as a command out of place is. -/
def expectElement (ctx : ElemCtx) : Op Unit :=
  match ctx with
  | .u _ => Op.require State.isIdleOrRun (.rejected .illegalCommand)
  | .ue => Op.require State.isIdleOrRun (.rejected .illegalCommand)
  | .se => Op.require State.isIdleOrRun (.rejected .illegalCommand)
  | .te _ => Op.require State.isIdleOrRun (.rejected .illegalCommand)
  | .levelPrefix => Op.require State.isIdleOrRun (.rejected .illegalCommand)
  | .levelSuffix _ => Op.require State.isIdleOrRun (.rejected .illegalCommand)
  | .sign => Op.require State.isIdleOrRun (.rejected .illegalCommand)
  | .mbType sl => Op.require (fun s => s.isRun && decide (s.sliceType = sl)) (.rejected .illegalCommand)
  | .subMbType sl _ => do
    Op.require (fun s => s.isRun && decide (s.sliceType = sl)) (.rejected .illegalCommand)
    let kind ← mbKind
    Op.require (fun _ => decide (kind = .inter8x8)) (.rejected .illegalCommand)
  | .token _ => Op.require (fun s => s.isIdleOrRun && s.vlcReady) (.rejected .illegalCommand)
  | .zeros tc => do
    Op.require (fun s => s.isIdleOrRun && s.vlcReady) (.rejected .illegalCommand)
    let c ← needBlock
    Op.require (fun _ => decide (c.1 = tc ∧ c.1 ≠ c.2 ∧ c.2 ≠ 4 ∧ c.2 ≠ 8)) (.rejected .illegalCommand)
  | .chromaDcZeros tc => do
    Op.require (fun s => s.isIdleOrRun && s.vlcReady) (.rejected .illegalCommand)
    let c ← needBlock
    Op.require (fun _ => decide (c.1 = tc ∧ c.1 ≠ c.2 ∧ c.2 = 4)) (.rejected .illegalCommand)
  | .chroma422DcZeros tc => do
    Op.require (fun s => s.isIdleOrRun && s.vlcReady) (.rejected .illegalCommand)
    let c ← needBlock
    Op.require (fun _ => decide (c.1 = tc ∧ c.1 ≠ c.2 ∧ c.2 = 8)) (.rejected .illegalCommand)
  | .run zl => do
    Op.require (fun s => s.isIdleOrRun && s.vlcReady) (.rejected .illegalCommand)
    let z ← zerosLeft
    Op.require (fun _ => decide (z = zl ∨ (zl = 7 ∧ 7 ≤ z))) (.rejected .illegalCommand)

/-- What an element does once its bits are consumed: the effect of the step that reads it. -/
def elementEffect (el : Element) : Op Unit :=
  match el with
  | .u _ x => setRes x
  | .ue v => setRes v
  | .se v => setRes v
  | .te1 => setRes 0
  | .te2 v => setRes v
  | .teN _ v => setRes v
  | .levelPrefix p => do
    Op.require (fun _ => decide (p ≤ 28)) (.raised .invalidLevelPrefix)
    setRes p
  | .levelSuffix _ x => setRes x
  | .sign neg => setRes (if neg then -1 else 1)
  | .iMb k _ => setMb fun _ => iMbType k
  | .pMb k => setMb fun _ => pMbType k
  | .bMb k => setMb fun _ => bMbType k
  | .pSub k i => setMb fun m => { m with sub := Cells.put m.sub i.toNat (pSubMbType k) }
  | .bSub k i => setMb fun m => { m with sub := Cells.put m.sub i.toNat (bSubMbType k) }
  | .token sel t n =>
    Op.modify fun s =>
      { s with
        maxCoeff := some (tokenMaxCoeff sel), blk := none
        trailingOnes := some (BitVec.ofNat 2 t), totalCoeff := some (BitVec.ofNat 5 n)
        res := some (BitVec.ofNat 32 (4 * n + t)) }
  | .zeros _ z => Op.modify fun s => { s with zerosLeft := some (BitVec.ofNat 6 z), res := some (BitVec.ofNat 32 z) }
  | .chromaDcZeros _ z =>
    Op.modify fun s => { s with zerosLeft := some (BitVec.ofNat 6 z), res := some (BitVec.ofNat 32 z) }
  | .chroma422DcZeros _ z =>
    Op.modify fun s => { s with zerosLeft := some (BitVec.ofNat 6 z), res := some (BitVec.ofNat 32 z) }
  | .run _ r => do
    let zl ← zerosLeft
    useRun zl r

/-- Take one element: its place, its bits (40_bitreader_vlc.md R173), its effect. -/
def takeElement (el : Element) : Op Unit := do
  expectElement el.ctx
  skipBits el.bits.length
  elementEffect el

/-- Take one element of an instruction. -/
def runElement (el : Element) (s : State) : Host.Outcome State Fault Refusal :=
  command true el.wellFormed (takeElement el) s

/-- The primitive that reads an element of this kind. Run where the bits spell none, it raises what R125, R126 and
R175 to R181 say of those bits. -/
def readElement (ctx : ElemCtx) : Op Unit :=
  match ctx with
  | .u n => do
    Op.require (fun _ => decide (n ≤ 32)) (.rejected .illegalCommand)
    let _ ← readBits n
  | .ue => do let _ ← readUe
  | .se => do let _ ← readUe
  | .te range => do
    Op.require (fun _ => decide (1 ≤ range ∧ range ≤ 32)) (.rejected .illegalCommand)
    let _ ← readTe range
  | .levelPrefix => do let _ ← getLevelPrefix
  | .levelSuffix n => do
    Op.require (fun _ => decide (n ≤ 25)) (.rejected .illegalCommand)
    let _ ← readBits n
  | .sign => do let _ ← readBits 1
  | .mbType _ => readMbType
  | .subMbType _ _ => do
    let _ ← readUe
    Op.raise .corruptedSyntax
  | .token sel => do
    Op.require (fun _ => decide (sel ≤ 5)) (.rejected .illegalCommand)
    let _ ← vlcDecode (Vlc.token sel)
  | .zeros tc => do let _ ← vlcDecode (Vlc.zeros tc)
  | .chromaDcZeros tc => do let _ ← vlcDecode (Vlc.chromaDcZeros tc)
  | .chroma422DcZeros tc => do let _ ← vlcDecode (Vlc.chroma422DcZeros tc)
  | .run zl => do
    Op.require (fun _ => decide (1 ≤ zl ∧ zl ≤ 7)) (.rejected .illegalCommand)
    let _ ← vlcDecode (Vlc.run zl)

/-- A request for an element where the bits spell none (R125, R126). -/
def failElement (ctx : ElemCtx) (s : State) : Host.Outcome State Fault Refusal :=
  command true true
    (do
      expectElement ctx
      readElement ctx) s

/-! ### The elements of the table -/


/-- `u(n)` (R110). -/
def execElemU (n : Nat) (x : Nat) (s : State) : Host.Outcome State Fault Refusal := runElement (.u n x) s

/-- `ue(v)` (R111). -/
def execElemUe (v : Nat) (s : State) : Host.Outcome State Fault Refusal := runElement (.ue v) s

/-- `se(v)` (R112). -/
def execElemSe (v : Int) (s : State) : Host.Outcome State Fault Refusal := runElement (.se v) s

/-- `te_v__range_1` (R113). -/
def execElemTe1 (s : State) : Host.Outcome State Fault Refusal := runElement (.te1) s

/-- `te_v__range_2` (R113). -/
def execElemTe2 (v : Nat) (s : State) : Host.Outcome State Fault Refusal := runElement (.te2 v) s

/-- `te_v__range_2_2` (R113). -/
def execElemTeN (range : Nat) (v : Nat) (s : State) : Host.Outcome State Fault Refusal := runElement (.teN range v) s

/-- `level_prefix` (R115). -/
def execLevelPrefix (p : Nat) (s : State) : Host.Outcome State Fault Refusal := runElement (.levelPrefix p) s

/-- `level_suffix` (R115). -/
def execLevelSuffix (n : Nat) (x : Nat) (s : State) : Host.Outcome State Fault Refusal := runElement (.levelSuffix n x) s

/-- `trailing_ones_sign` (R208). -/
def execTrailingOnesSign (neg : Bool) (s : State) : Host.Outcome State Fault Refusal := runElement (.sign neg) s

/-- `I_MB_TYPE[0]` (R306). -/
def execIMbType0 (sl : SliceType) (s : State) : Host.Outcome State Fault Refusal := runElement (.iMb 0 sl) s

/-- `I_MB_TYPE[1]` (R306). -/
def execIMbType1 (sl : SliceType) (s : State) : Host.Outcome State Fault Refusal := runElement (.iMb 1 sl) s

/-- `I_MB_TYPE[2]` (R306). -/
def execIMbType2 (sl : SliceType) (s : State) : Host.Outcome State Fault Refusal := runElement (.iMb 2 sl) s

/-- `I_MB_TYPE[3]` (R306). -/
def execIMbType3 (sl : SliceType) (s : State) : Host.Outcome State Fault Refusal := runElement (.iMb 3 sl) s

/-- `I_MB_TYPE[4]` (R306). -/
def execIMbType4 (sl : SliceType) (s : State) : Host.Outcome State Fault Refusal := runElement (.iMb 4 sl) s

/-- `I_MB_TYPE[5]` (R306). -/
def execIMbType5 (sl : SliceType) (s : State) : Host.Outcome State Fault Refusal := runElement (.iMb 5 sl) s

/-- `I_MB_TYPE[6]` (R306). -/
def execIMbType6 (sl : SliceType) (s : State) : Host.Outcome State Fault Refusal := runElement (.iMb 6 sl) s

/-- `I_MB_TYPE[7]` (R306). -/
def execIMbType7 (sl : SliceType) (s : State) : Host.Outcome State Fault Refusal := runElement (.iMb 7 sl) s

/-- `I_MB_TYPE[8]` (R306). -/
def execIMbType8 (sl : SliceType) (s : State) : Host.Outcome State Fault Refusal := runElement (.iMb 8 sl) s

/-- `I_MB_TYPE[9]` (R306). -/
def execIMbType9 (sl : SliceType) (s : State) : Host.Outcome State Fault Refusal := runElement (.iMb 9 sl) s

/-- `I_MB_TYPE[10]` (R306). -/
def execIMbType10 (sl : SliceType) (s : State) : Host.Outcome State Fault Refusal := runElement (.iMb 10 sl) s

/-- `I_MB_TYPE[11]` (R306). -/
def execIMbType11 (sl : SliceType) (s : State) : Host.Outcome State Fault Refusal := runElement (.iMb 11 sl) s

/-- `I_MB_TYPE[12]` (R306). -/
def execIMbType12 (sl : SliceType) (s : State) : Host.Outcome State Fault Refusal := runElement (.iMb 12 sl) s

/-- `I_MB_TYPE[13]` (R306). -/
def execIMbType13 (sl : SliceType) (s : State) : Host.Outcome State Fault Refusal := runElement (.iMb 13 sl) s

/-- `I_MB_TYPE[14]` (R306). -/
def execIMbType14 (sl : SliceType) (s : State) : Host.Outcome State Fault Refusal := runElement (.iMb 14 sl) s

/-- `I_MB_TYPE[15]` (R306). -/
def execIMbType15 (sl : SliceType) (s : State) : Host.Outcome State Fault Refusal := runElement (.iMb 15 sl) s

/-- `I_MB_TYPE[16]` (R306). -/
def execIMbType16 (sl : SliceType) (s : State) : Host.Outcome State Fault Refusal := runElement (.iMb 16 sl) s

/-- `I_MB_TYPE[17]` (R306). -/
def execIMbType17 (sl : SliceType) (s : State) : Host.Outcome State Fault Refusal := runElement (.iMb 17 sl) s

/-- `I_MB_TYPE[18]` (R306). -/
def execIMbType18 (sl : SliceType) (s : State) : Host.Outcome State Fault Refusal := runElement (.iMb 18 sl) s

/-- `I_MB_TYPE[19]` (R306). -/
def execIMbType19 (sl : SliceType) (s : State) : Host.Outcome State Fault Refusal := runElement (.iMb 19 sl) s

/-- `I_MB_TYPE[20]` (R306). -/
def execIMbType20 (sl : SliceType) (s : State) : Host.Outcome State Fault Refusal := runElement (.iMb 20 sl) s

/-- `I_MB_TYPE[21]` (R306). -/
def execIMbType21 (sl : SliceType) (s : State) : Host.Outcome State Fault Refusal := runElement (.iMb 21 sl) s

/-- `I_MB_TYPE[22]` (R306). -/
def execIMbType22 (sl : SliceType) (s : State) : Host.Outcome State Fault Refusal := runElement (.iMb 22 sl) s

/-- `I_MB_TYPE[23]` (R306). -/
def execIMbType23 (sl : SliceType) (s : State) : Host.Outcome State Fault Refusal := runElement (.iMb 23 sl) s

/-- `I_MB_TYPE[24]` (R306). -/
def execIMbType24 (sl : SliceType) (s : State) : Host.Outcome State Fault Refusal := runElement (.iMb 24 sl) s

/-- `I_MB_TYPE[25]` (R306). -/
def execIMbType25 (sl : SliceType) (s : State) : Host.Outcome State Fault Refusal := runElement (.iMb 25 sl) s

/-- `P_MB_TYPE[0]` (R307). -/
def execPMbType0 (s : State) : Host.Outcome State Fault Refusal := runElement (.pMb 0) s

/-- `P_MB_TYPE[1]` (R307). -/
def execPMbType1 (s : State) : Host.Outcome State Fault Refusal := runElement (.pMb 1) s

/-- `P_MB_TYPE[2]` (R307). -/
def execPMbType2 (s : State) : Host.Outcome State Fault Refusal := runElement (.pMb 2) s

/-- `P_MB_TYPE[3]` (R307). -/
def execPMbType3 (s : State) : Host.Outcome State Fault Refusal := runElement (.pMb 3) s

/-- `P_MB_TYPE[4]` (R307). -/
def execPMbType4 (s : State) : Host.Outcome State Fault Refusal := runElement (.pMb 4) s

/-- `B_MB_TYPE[0]` (R308). -/
def execBMbType0 (s : State) : Host.Outcome State Fault Refusal := runElement (.bMb 0) s

/-- `B_MB_TYPE[1]` (R308). -/
def execBMbType1 (s : State) : Host.Outcome State Fault Refusal := runElement (.bMb 1) s

/-- `B_MB_TYPE[2]` (R308). -/
def execBMbType2 (s : State) : Host.Outcome State Fault Refusal := runElement (.bMb 2) s

/-- `B_MB_TYPE[3]` (R308). -/
def execBMbType3 (s : State) : Host.Outcome State Fault Refusal := runElement (.bMb 3) s

/-- `B_MB_TYPE[4]` (R308). -/
def execBMbType4 (s : State) : Host.Outcome State Fault Refusal := runElement (.bMb 4) s

/-- `B_MB_TYPE[5]` (R308). -/
def execBMbType5 (s : State) : Host.Outcome State Fault Refusal := runElement (.bMb 5) s

/-- `B_MB_TYPE[6]` (R308). -/
def execBMbType6 (s : State) : Host.Outcome State Fault Refusal := runElement (.bMb 6) s

/-- `B_MB_TYPE[7]` (R308). -/
def execBMbType7 (s : State) : Host.Outcome State Fault Refusal := runElement (.bMb 7) s

/-- `B_MB_TYPE[8]` (R308). -/
def execBMbType8 (s : State) : Host.Outcome State Fault Refusal := runElement (.bMb 8) s

/-- `B_MB_TYPE[9]` (R308). -/
def execBMbType9 (s : State) : Host.Outcome State Fault Refusal := runElement (.bMb 9) s

/-- `B_MB_TYPE[10]` (R308). -/
def execBMbType10 (s : State) : Host.Outcome State Fault Refusal := runElement (.bMb 10) s

/-- `B_MB_TYPE[11]` (R308). -/
def execBMbType11 (s : State) : Host.Outcome State Fault Refusal := runElement (.bMb 11) s

/-- `B_MB_TYPE[12]` (R308). -/
def execBMbType12 (s : State) : Host.Outcome State Fault Refusal := runElement (.bMb 12) s

/-- `B_MB_TYPE[13]` (R308). -/
def execBMbType13 (s : State) : Host.Outcome State Fault Refusal := runElement (.bMb 13) s

/-- `B_MB_TYPE[14]` (R308). -/
def execBMbType14 (s : State) : Host.Outcome State Fault Refusal := runElement (.bMb 14) s

/-- `B_MB_TYPE[15]` (R308). -/
def execBMbType15 (s : State) : Host.Outcome State Fault Refusal := runElement (.bMb 15) s

/-- `B_MB_TYPE[16]` (R308). -/
def execBMbType16 (s : State) : Host.Outcome State Fault Refusal := runElement (.bMb 16) s

/-- `B_MB_TYPE[17]` (R308). -/
def execBMbType17 (s : State) : Host.Outcome State Fault Refusal := runElement (.bMb 17) s

/-- `B_MB_TYPE[18]` (R308). -/
def execBMbType18 (s : State) : Host.Outcome State Fault Refusal := runElement (.bMb 18) s

/-- `B_MB_TYPE[19]` (R308). -/
def execBMbType19 (s : State) : Host.Outcome State Fault Refusal := runElement (.bMb 19) s

/-- `B_MB_TYPE[20]` (R308). -/
def execBMbType20 (s : State) : Host.Outcome State Fault Refusal := runElement (.bMb 20) s

/-- `B_MB_TYPE[21]` (R308). -/
def execBMbType21 (s : State) : Host.Outcome State Fault Refusal := runElement (.bMb 21) s

/-- `B_MB_TYPE[22]` (R308). -/
def execBMbType22 (s : State) : Host.Outcome State Fault Refusal := runElement (.bMb 22) s

/-- `P_SUB_MB_TYPE[0]` (R309). -/
def execPSubMbType0 (i : BitVec 2) (s : State) : Host.Outcome State Fault Refusal := runElement (.pSub 0 i) s

/-- `P_SUB_MB_TYPE[1]` (R309). -/
def execPSubMbType1 (i : BitVec 2) (s : State) : Host.Outcome State Fault Refusal := runElement (.pSub 1 i) s

/-- `P_SUB_MB_TYPE[2]` (R309). -/
def execPSubMbType2 (i : BitVec 2) (s : State) : Host.Outcome State Fault Refusal := runElement (.pSub 2 i) s

/-- `P_SUB_MB_TYPE[3]` (R309). -/
def execPSubMbType3 (i : BitVec 2) (s : State) : Host.Outcome State Fault Refusal := runElement (.pSub 3 i) s

/-- `B_SUB_MB_TYPE[0]` (R309). -/
def execBSubMbType0 (i : BitVec 2) (s : State) : Host.Outcome State Fault Refusal := runElement (.bSub 0 i) s

/-- `B_SUB_MB_TYPE[1]` (R309). -/
def execBSubMbType1 (i : BitVec 2) (s : State) : Host.Outcome State Fault Refusal := runElement (.bSub 1 i) s

/-- `B_SUB_MB_TYPE[2]` (R309). -/
def execBSubMbType2 (i : BitVec 2) (s : State) : Host.Outcome State Fault Refusal := runElement (.bSub 2 i) s

/-- `B_SUB_MB_TYPE[3]` (R309). -/
def execBSubMbType3 (i : BitVec 2) (s : State) : Host.Outcome State Fault Refusal := runElement (.bSub 3 i) s

/-- `B_SUB_MB_TYPE[4]` (R309). -/
def execBSubMbType4 (i : BitVec 2) (s : State) : Host.Outcome State Fault Refusal := runElement (.bSub 4 i) s

/-- `B_SUB_MB_TYPE[5]` (R309). -/
def execBSubMbType5 (i : BitVec 2) (s : State) : Host.Outcome State Fault Refusal := runElement (.bSub 5 i) s

/-- `B_SUB_MB_TYPE[6]` (R309). -/
def execBSubMbType6 (i : BitVec 2) (s : State) : Host.Outcome State Fault Refusal := runElement (.bSub 6 i) s

/-- `B_SUB_MB_TYPE[7]` (R309). -/
def execBSubMbType7 (i : BitVec 2) (s : State) : Host.Outcome State Fault Refusal := runElement (.bSub 7 i) s

/-- `B_SUB_MB_TYPE[8]` (R309). -/
def execBSubMbType8 (i : BitVec 2) (s : State) : Host.Outcome State Fault Refusal := runElement (.bSub 8 i) s

/-- `B_SUB_MB_TYPE[9]` (R309). -/
def execBSubMbType9 (i : BitVec 2) (s : State) : Host.Outcome State Fault Refusal := runElement (.bSub 9 i) s

/-- `B_SUB_MB_TYPE[10]` (R309). -/
def execBSubMbType10 (i : BitVec 2) (s : State) : Host.Outcome State Fault Refusal := runElement (.bSub 10 i) s

/-- `B_SUB_MB_TYPE[11]` (R309). -/
def execBSubMbType11 (i : BitVec 2) (s : State) : Host.Outcome State Fault Refusal := runElement (.bSub 11 i) s

/-- `B_SUB_MB_TYPE[12]` (R309). -/
def execBSubMbType12 (i : BitVec 2) (s : State) : Host.Outcome State Fault Refusal := runElement (.bSub 12 i) s

/-- `COEFF_TOKEN[0]` (R141). -/
def execCoeffToken0 (t : Nat) (n : Nat) (s : State) : Host.Outcome State Fault Refusal := runElement (.token 0 t n) s

/-- `COEFF_TOKEN[1]` (R142). -/
def execCoeffToken1 (t : Nat) (n : Nat) (s : State) : Host.Outcome State Fault Refusal := runElement (.token 1 t n) s

/-- `COEFF_TOKEN[2]` (R143). -/
def execCoeffToken2 (t : Nat) (n : Nat) (s : State) : Host.Outcome State Fault Refusal := runElement (.token 2 t n) s

/-- `COEFF_TOKEN[3]` (R144). -/
def execCoeffToken3 (t : Nat) (n : Nat) (s : State) : Host.Outcome State Fault Refusal := runElement (.token 3 t n) s

/-- `CHROMA_DC_COEFF_TOKEN` (R145). -/
def execChromaDcCoeffToken (t : Nat) (n : Nat) (s : State) : Host.Outcome State Fault Refusal := runElement (.token 4 t n) s

/-- `CHROMA422_DC_COEFF_TOKEN` (R146). -/
def execChroma422DcCoeffToken (t : Nat) (n : Nat) (s : State) : Host.Outcome State Fault Refusal := runElement (.token 5 t n) s

/-- `TOTAL_ZEROS[1]` (R147). -/
def execTotalZeros1 (z : Nat) (s : State) : Host.Outcome State Fault Refusal := runElement (.zeros 1 z) s

/-- `TOTAL_ZEROS[2]` (R147). -/
def execTotalZeros2 (z : Nat) (s : State) : Host.Outcome State Fault Refusal := runElement (.zeros 2 z) s

/-- `TOTAL_ZEROS[3]` (R147). -/
def execTotalZeros3 (z : Nat) (s : State) : Host.Outcome State Fault Refusal := runElement (.zeros 3 z) s

/-- `TOTAL_ZEROS[4]` (R147). -/
def execTotalZeros4 (z : Nat) (s : State) : Host.Outcome State Fault Refusal := runElement (.zeros 4 z) s

/-- `TOTAL_ZEROS[5]` (R147). -/
def execTotalZeros5 (z : Nat) (s : State) : Host.Outcome State Fault Refusal := runElement (.zeros 5 z) s

/-- `TOTAL_ZEROS[6]` (R147). -/
def execTotalZeros6 (z : Nat) (s : State) : Host.Outcome State Fault Refusal := runElement (.zeros 6 z) s

/-- `TOTAL_ZEROS[7]` (R147). -/
def execTotalZeros7 (z : Nat) (s : State) : Host.Outcome State Fault Refusal := runElement (.zeros 7 z) s

/-- `TOTAL_ZEROS[8]` (R147). -/
def execTotalZeros8 (z : Nat) (s : State) : Host.Outcome State Fault Refusal := runElement (.zeros 8 z) s

/-- `TOTAL_ZEROS[9]` (R147). -/
def execTotalZeros9 (z : Nat) (s : State) : Host.Outcome State Fault Refusal := runElement (.zeros 9 z) s

/-- `TOTAL_ZEROS[10]` (R147). -/
def execTotalZeros10 (z : Nat) (s : State) : Host.Outcome State Fault Refusal := runElement (.zeros 10 z) s

/-- `TOTAL_ZEROS[11]` (R147). -/
def execTotalZeros11 (z : Nat) (s : State) : Host.Outcome State Fault Refusal := runElement (.zeros 11 z) s

/-- `TOTAL_ZEROS[12]` (R147). -/
def execTotalZeros12 (z : Nat) (s : State) : Host.Outcome State Fault Refusal := runElement (.zeros 12 z) s

/-- `TOTAL_ZEROS[13]` (R147). -/
def execTotalZeros13 (z : Nat) (s : State) : Host.Outcome State Fault Refusal := runElement (.zeros 13 z) s

/-- `TOTAL_ZEROS[14]` (R147). -/
def execTotalZeros14 (z : Nat) (s : State) : Host.Outcome State Fault Refusal := runElement (.zeros 14 z) s

/-- `TOTAL_ZEROS[15]` (R147). -/
def execTotalZeros15 (z : Nat) (s : State) : Host.Outcome State Fault Refusal := runElement (.zeros 15 z) s

/-- `CHROMA_DC_TOTAL_ZEROS[1]` (R148). -/
def execChromaDcTotalZeros1 (z : Nat) (s : State) : Host.Outcome State Fault Refusal := runElement (.chromaDcZeros 1 z) s

/-- `CHROMA_DC_TOTAL_ZEROS[2]` (R148). -/
def execChromaDcTotalZeros2 (z : Nat) (s : State) : Host.Outcome State Fault Refusal := runElement (.chromaDcZeros 2 z) s

/-- `CHROMA_DC_TOTAL_ZEROS[3]` (R148). -/
def execChromaDcTotalZeros3 (z : Nat) (s : State) : Host.Outcome State Fault Refusal := runElement (.chromaDcZeros 3 z) s

/-- `CHROMA422_DC_TOTAL_ZEROS[1]` (R149). -/
def execChroma422DcTotalZeros1 (z : Nat) (s : State) : Host.Outcome State Fault Refusal := runElement (.chroma422DcZeros 1 z) s

/-- `CHROMA422_DC_TOTAL_ZEROS[2]` (R149). -/
def execChroma422DcTotalZeros2 (z : Nat) (s : State) : Host.Outcome State Fault Refusal := runElement (.chroma422DcZeros 2 z) s

/-- `CHROMA422_DC_TOTAL_ZEROS[3]` (R149). -/
def execChroma422DcTotalZeros3 (z : Nat) (s : State) : Host.Outcome State Fault Refusal := runElement (.chroma422DcZeros 3 z) s

/-- `CHROMA422_DC_TOTAL_ZEROS[4]` (R149). -/
def execChroma422DcTotalZeros4 (z : Nat) (s : State) : Host.Outcome State Fault Refusal := runElement (.chroma422DcZeros 4 z) s

/-- `CHROMA422_DC_TOTAL_ZEROS[5]` (R149). -/
def execChroma422DcTotalZeros5 (z : Nat) (s : State) : Host.Outcome State Fault Refusal := runElement (.chroma422DcZeros 5 z) s

/-- `CHROMA422_DC_TOTAL_ZEROS[6]` (R149). -/
def execChroma422DcTotalZeros6 (z : Nat) (s : State) : Host.Outcome State Fault Refusal := runElement (.chroma422DcZeros 6 z) s

/-- `CHROMA422_DC_TOTAL_ZEROS[7]` (R149). -/
def execChroma422DcTotalZeros7 (z : Nat) (s : State) : Host.Outcome State Fault Refusal := runElement (.chroma422DcZeros 7 z) s

/-- `RUN_BEFORE[1]` (R150). -/
def execRunBefore1 (r : Nat) (s : State) : Host.Outcome State Fault Refusal := runElement (.run 1 r) s

/-- `RUN_BEFORE[2]` (R150). -/
def execRunBefore2 (r : Nat) (s : State) : Host.Outcome State Fault Refusal := runElement (.run 2 r) s

/-- `RUN_BEFORE[3]` (R150). -/
def execRunBefore3 (r : Nat) (s : State) : Host.Outcome State Fault Refusal := runElement (.run 3 r) s

/-- `RUN_BEFORE[4]` (R150). -/
def execRunBefore4 (r : Nat) (s : State) : Host.Outcome State Fault Refusal := runElement (.run 4 r) s

/-- `RUN_BEFORE[5]` (R150). -/
def execRunBefore5 (r : Nat) (s : State) : Host.Outcome State Fault Refusal := runElement (.run 5 r) s

/-- `RUN_BEFORE[6]` (R150). -/
def execRunBefore6 (r : Nat) (s : State) : Host.Outcome State Fault Refusal := runElement (.run 6 r) s

/-- `RUN7` (R151). -/
def execRun7 (r : Nat) (s : State) : Host.Outcome State Fault Refusal := runElement (.run 7 r) s

end Sys2Proof.Machine
end

