-- ==== Sys2Proof/Machine/MotionComp.lean ====
section
/-! DEFINITION. Motion compensation (44_motion_comp.md R370 to R409). -/

namespace Sys2Proof.Machine

/-! ### Operand registers -/

/-- Write a motion compensation register (R371). -/
def McRegs.set (m : McRegs) (reg : Nat) (v : Word) : McRegs :=
  match reg with
  | 0 => { m with dstX := some (v.setWidth 16) }
  | 1 => { m with dstY := some (v.setWidth 16) }
  | 2 => { m with srcX := some v }
  | 3 => { m with srcY := some v }
  | 4 => { m with w := some (v.setWidth 5) }
  | 5 => { m with h := some (v.setWidth 5) }
  | 6 => { m with list := some (v.setWidth 1) }
  | 7 => { m with ref := some (v.setWidth 5) }
  | 8 => { m with avg := some (v.setWidth 1) }
  | 9 => { m with fx := some (v.setWidth 3) }
  | 10 => { m with fy := some (v.setWidth 3) }
  | 11 => { m with buf := some (v.setWidth 1) }
  | _ => m

/-- The part of R371's legal sets that depends on the picture: a destination inside the luma plane. DEDUCED, log 17. -/
def State.mcDstLegal (s : State) (reg : Nat) (v : Word) : Bool :=
  match reg with
  | 0 => decide (v.toNat < s.planeW 0)
  | 1 => decide (v.toNat < s.planeH 0)
  | _ => true

/-- The destination block, as the operand registers hold it. -/
structure McDst where
  x : Nat
  y : Nat
  w : Nat
  h : Nat
  deriving DecidableEq, Repr

/-- Read the destination block. -/
def mcDst : Op McDst := do
  let x ← Op.need fun s => s.mc.dstX.map BitVec.toNat
  let y ← Op.need fun s => s.mc.dstY.map BitVec.toNat
  let w ← Op.need fun s => s.mc.w.map BitVec.toNat
  let h ← Op.need fun s => s.mc.h.map BitVec.toNat
  pure ⟨x, y, w, h⟩

/-- The source block, as the operand registers hold it. -/
structure McSrc where
  x : Int
  y : Int
  list : Nat
  ref : Nat
  avg : Bool
  buf : Bool
  deriving DecidableEq, Repr

/-- Read the source block. -/
def mcSrc : Op McSrc := do
  let x ← Op.need fun s => s.mc.srcX.map BitVec.toInt
  let y ← Op.need fun s => s.mc.srcY.map BitVec.toInt
  let list ← Op.need fun s => s.mc.list.map BitVec.toNat
  let ref ← Op.need fun s => s.mc.ref.map BitVec.toNat
  let avg ← Op.need fun s => s.mc.avg
  let buf ← Op.need fun s => s.mc.buf
  pure ⟨x, y, list, ref, decide (avg = 1), decide (buf = 1)⟩

/-! ### Sample operations -/

/-- The formula of a sample operation: from the reference samples `R`, clipping and a position, a sample (R375). -/
abbrev Formula := (Int → Int → Int) → (Int → Int) → Int → Int → Int

/-- The six-tap filter (R375). -/
def tap6 (f : Int → Int) : Int := f (-2) - 5 * f (-1) + 20 * f 0 + 20 * f 1 - 5 * f 2 + f 3

/-- The half sample to the right of (x, y), unrounded: `b1` (R375). -/
def halfB1 (R : Int → Int → Int) (x y : Int) : Int := tap6 fun k => R (x + k) y

/-- The half sample to the right of (x, y): `b` (R375). -/
def halfB (R : Int → Int → Int) (clip : Int → Int) (x y : Int) : Int := clip ((halfB1 R x y + 16) >>> 5)

/-- The half sample below (x, y): `h` (R375). -/
def halfH (R : Int → Int → Int) (clip : Int → Int) (x y : Int) : Int :=
  clip (((tap6 fun k => R x (y + k)) + 16) >>> 5)

/-- The centre: `j` (R375). -/
def halfJ (R : Int → Int → Int) (clip : Int → Int) (x y : Int) : Int :=
  clip (((tap6 fun k => halfB1 R x (y + k)) + 512) >>> 10)

/-- The rounded average `A2` (R375). -/
def average2 (u v : Int) : Int := (u + v + 1) >>> 1

/-- R376. -/
def phase00 : Formula := fun R _ x y => R x y
/-- R377. -/
def phase10 : Formula := fun R clip x y => average2 (R x y) (halfB R clip x y)
/-- R378. -/
def phase20 : Formula := fun R clip x y => halfB R clip x y
/-- R379. -/
def phase30 : Formula := fun R clip x y => average2 (R (x + 1) y) (halfB R clip x y)
/-- R380. -/
def phase01 : Formula := fun R clip x y => average2 (R x y) (halfH R clip x y)
/-- R381. -/
def phase11 : Formula := fun R clip x y => average2 (halfB R clip x y) (halfH R clip x y)
/-- R382. -/
def phase21 : Formula := fun R clip x y => average2 (halfB R clip x y) (halfJ R clip x y)
/-- R383. -/
def phase31 : Formula := fun R clip x y => average2 (halfB R clip x y) (halfH R clip (x + 1) y)
/-- R384. -/
def phase02 : Formula := fun R clip x y => halfH R clip x y
/-- R385. -/
def phase12 : Formula := fun R clip x y => average2 (halfH R clip x y) (halfJ R clip x y)
/-- R386. -/
def phase22 : Formula := fun R clip x y => halfJ R clip x y
/-- R387. -/
def phase32 : Formula := fun R clip x y => average2 (halfJ R clip x y) (halfH R clip (x + 1) y)
/-- R388. -/
def phase03 : Formula := fun R clip x y => average2 (R x (y + 1)) (halfH R clip x y)
/-- R389. -/
def phase13 : Formula := fun R clip x y => average2 (halfH R clip x y) (halfB R clip x (y + 1))
/-- R390. -/
def phase23 : Formula := fun R clip x y => average2 (halfJ R clip x y) (halfB R clip x (y + 1))
/-- R391. -/
def phase33 : Formula := fun R clip x y => average2 (halfH R clip (x + 1) y) (halfB R clip x (y + 1))

/-- The formula of phase `(mx & 3) + ((my & 3) << 2)`. -/
def phaseFormula (p : Nat) : Formula :=
  match p with
  | 0 => phase00
  | 1 => phase10
  | 2 => phase20
  | 3 => phase30
  | 4 => phase01
  | 5 => phase11
  | 6 => phase21
  | 7 => phase31
  | 8 => phase02
  | 9 => phase12
  | 10 => phase22
  | 11 => phase32
  | 12 => phase03
  | 13 => phase13
  | 14 => phase23
  | _ => phase33

/-- The bilinear chroma formula (R394). -/
def chromaFormula (fx fy : Int) : Formula := fun R _ x y =>
  ((8 - fx) * (8 - fy) * R x y + fx * (8 - fy) * R (x + 1) y + (8 - fx) * fy * R x (y + 1)
    + fx * fy * R (x + 1) (y + 1) + 32) >>> 6

/-- What a sample operation computes at sample (i, j) of its block (R375). -/
def State.mcValue (s : State) (p : Nat) (d : McDst) (b : McSrc) (ref : RefPic) (f : Formula) (i j : Nat) : Int :=
  f (s.refSample ref p (sampleIndex (d.x + i) (d.y + j))) (clip3 0 s.pixelMax) (b.x + i) (b.y + j)

/-- What the destination holds before the operation (R375). -/
def State.mcOld (s : State) (p : Nat) (d : McDst) (b : McSrc) (i j : Nat) : Int :=
  if b.buf then (s.tmpAt p (d.x + i) (d.y + j) : Nat) else (s.sample p (d.x + i) (d.y + j) : Nat)

/-- What the operation leaves in its destination (R375). -/
def State.mcNew (s : State) (p : Nat) (d : McDst) (b : McSrc) (ref : RefPic) (f : Formula) (i j : Nat) : Sample :=
  BitVec.ofInt 14
    (if b.avg then average2 (s.mcOld p d b i j) (s.mcValue p d b ref f i j) else s.mcValue p d b ref f i j)

/-- The write of a sample operation: the destination block, and the free values of this operation are used up (DESIGN CHOICE, log 4). -/
def State.mcWrite (s : State) (p : Nat) (d : McDst) (b : McSrc) (ref : RefPic) (f : Formula) : State :=
  let t := if b.buf then s.putTmp p d.x d.y d.w d.h (s.mcNew p d b ref f)
    else s.putBlock p d.x d.y d.w d.h (s.mcNew p d b ref f)
  { t with freeCtr := s.freeCtr + 1 }

/-- The common shape of the sample operations (R375). An operand register that is `undef` is found before a block that leaves
its plane, and a block written into `TMP` leaves no plane. DEDUCED, log 33. The average with a `TMP` element not written since it became
`undef` is a model fault (10_state.md R55). -/
def sampleOp (p : Nat) (f : Formula) : Op Unit := do
  let d ← mcDst
  let b ← mcSrc
  Op.require (fun s => b.buf || s.insidePlane p d.x d.y d.w d.h) (.rejected .illegalCommand)
  let found ← Op.read fun s => s.refPic b.list b.ref
  let ref ← Op.orStop found (.faulted .outOfRange)
  Op.require (fun s => !(b.buf && b.avg) || s.tmpLoaded p d.x d.y d.w d.h) (.faulted .uninitialisedRead)
  Op.modify fun s => s.mcWrite p d b ref f

/-- `MC_CHROMA` (R394). -/
def mcChroma (p : Nat) : Op Unit := do
  let fx ← Op.need fun s => s.mc.fx.map BitVec.toNat
  let fy ← Op.need fun s => s.mc.fy.map BitVec.toNat
  sampleOp p (chromaFormula fx fy)

/-! ### Waiting for a row -/

/-- `WAIT_ROW` (R372). -/
def waitRow (l r : Nat) (row : Int) : Op Unit := do
  Op.require (fun s => decide (l < s.listCount ∧ r < s.refCount l)) (.rejected .illegalCommand)
  let found ← Op.read fun s => s.refPic l r
  let ref ← Op.orStop found (.faulted .outOfRange)
  Op.require (fun _ => decide (row ≤ ref.progress.toInt)) .waiting

/-- The needed row (R373). -/
def State.neededRow (s : State) (sy : Int) (h : Nat) : Int := min (16 * s.picH - 1) (max 0 (sy + h + 2))

/-! ### Weighted prediction -/

/-- `WEIGHT_UNI` of one sample (R400). -/
def weightUniSample (bitDepth ld : Nat) (w o d : Int) : Int :=
  (if 1 ≤ ld then (d * w + 2 ^ (ld - 1)) >>> ld else d * w) + o * 2 ^ (bitDepth - 8)

/-- `WEIGHT_BI` of one sample (R401). -/
def weightBiSample (bitDepth ld : Nat) (w0 w1 o d t : Int) : Int :=
  ((d * w0 + t * w1 + 2 ^ ld) >>> (ld + 1)) + ((o * 2 ^ (bitDepth - 8) + 1) >>> 1)

/-- `WEIGHT_UNI` (R400). -/
def weightUni (p l r : Nat) : Op Unit := do
  let d ← mcDst
  let w ← weightAt p l r 0
  let o ← weightAt p l r 1
  updateBlock p d.x d.y d.w d.h fun s i j =>
    s.clipPixel (weightUniSample s.bitDepth (s.weightDenom p) w o (s.sample p (d.x + i) (d.y + j)))

/-- The weights of `WEIGHT_BI`: `w0`, `w1`, the sum of the offsets, the denominator (R401). -/
def biWeights (p r0 r1 : Nat) : Op (Int × Int × Int × Nat) := do
  let mode ← Op.read State.useWeight
  if mode = 1 then do
    let w0 ← weightAt p 0 r0 0
    let o0 ← weightAt p 0 r0 1
    let w1 ← weightAt p 1 r1 0
    let o1 ← weightAt p 1 r1 1
    let ld ← Op.read fun s => s.weightDenom p
    pure (w0, w1, o0 + o1, ld)
  else do
    let w0 ← implicitWeightAt r0 r1
    pure (w0, 64 - w0, 0, 5)

/-- `WEIGHT_BI` (R401). The read of a `TMP` element not written since it became `undef` is a model fault (10_state.md R55). -/
def weightBi (p r0 r1 : Nat) : Op Unit := do
  Op.require (fun s => decide (s.useWeight ≠ 3)) (.rejected .unsupported)
  Op.require (fun s => decide (s.useWeight ≠ 0)) (.rejected .illegalCommand)
  let d ← mcDst
  let ws ← biWeights p r0 r1
  Op.require (fun s => s.tmpLoaded p d.x d.y d.w d.h) (.faulted .uninitialisedRead)
  updateBlock p d.x d.y d.w d.h fun s i j =>
    s.clipPixel (weightBiSample s.bitDepth ws.2.2.2 ws.1 ws.2.1 ws.2.2.1 (s.sample p (d.x + i) (d.y + j))
      (s.tmpAt p (d.x + i) (d.y + j)))

/-- The list-0 weight from the picture order counts (R405). -/
def implicitWeightOf (cur poc0 poc1 : Int) : Int :=
  let td := clip3 (-128) 127 (poc1 - poc0)
  if td = 0 then 32
  else
    let tb := clip3 (-128) 127 (cur - poc0)
    let tx := Int.tdiv (16384 + (td.natAbs / 2 : Nat)) td
    let dsf := (tb * tx + 32) >>> 8
    if -64 ≤ dsf ∧ dsf ≤ 128 then 64 - dsf else 32

/-- Is one of two references long-term (R405)? DEDUCED, log 22. -/
def eitherLong (r0 r1 : Nat) : Op Bool := do
  let long0 ← refLongAt 0 r0
  if long0 then pure true else refLongAt 1 r1

/-- The element that holds the weight (10_state.md R50: 8 bits signed). The weight 128 does not fit it, and what the
element then holds is a free value. DESIGN CHOICE, log 9. -/
def implicitElement (cur poc0 poc1 : Int) : BitVec 8 :=
  if implicitWeightOf cur poc0 poc1 ≤ 127 then BitVec.ofInt 8 (implicitWeightOf cur poc0 poc1)
  else Config.wideWeight cur poc0 poc1

/-- The element of two references (R405). -/
def implicitWeightValue (long : Bool) (r0 r1 : Nat) : Op (BitVec 8) :=
  if long then pure 32
  else do
    let poc0 ← refPocAt 0 r0
    let poc1 ← refPocAt 1 r1
    Op.read fun s => implicitElement s.cr10.toInt poc0 poc1

/-- One element of `IMPLICIT_WEIGHT` (R405). -/
def implicitWeightStep (c : Nat × Nat) : Op Unit := do
  let long ← eitherLong c.1 c.2
  let w ← implicitWeightValue long c.1 c.2
  Op.modify fun s =>
    { s with
      tabs :=
        { s.tabs with
          implicitWeight := Cells.put s.tabs.implicitWeight (c.1 * 32 + c.2) w } }

/-- `IMPLICIT_WEIGHT` (R405). Counts above 32 are illegal field values (10_state.md section 5). -/
def implicitWeight : Op Unit := do
  Op.require (fun s => decide (s.refCount 0 ≤ 32 ∧ s.refCount 1 ≤ 32)) (.rejected .unsupported)
  let n0 ← Op.read fun s => s.refCount 0
  let n1 ← Op.read fun s => s.refCount 1
  Op.each (pairsByList (List.range n0) (List.range n1)) implicitWeightStep

/-! ### One partition -/

/-- A partition as `MC_PART` handles it: its top-left luma sample and its size (R408). -/
structure McPartition where
  x0 : Nat
  y0 : Nat
  w : Nat
  h : Nat
  deriving DecidableEq, Repr

/-- What a destination register holds of a coordinate (10_state.md R54: 16 bits unsigned): the coordinate, or a free value
where it does not fit. DESIGN CHOICE, log 8. -/
def destCoordinate (v : Nat) : BitVec 16 := if v < 2 ^ 16 then BitVec.ofNat 16 v else Config.wideCoordinate v

/-- The destination registers for a plane (R408). -/
def McPartition.setDst (q : McPartition) (p : Nat) : Op Unit :=
  let k := if p = 0 then 1 else 2
  Op.modify fun s =>
    { s with
      mc :=
        { s.mc with
          dstX := some (destCoordinate (q.x0 / k)), dstY := some (destCoordinate (q.y0 / k))
          w := some (BitVec.ofNat 5 (q.w / k)), h := some (BitVec.ofNat 5 (q.h / k)) } }

/-- The source registers (R408). -/
def setSrc (x y : Int) : Op Unit :=
  Op.modify fun s =>
    { s with mc := { s.mc with srcX := some (BitVec.ofInt 32 x), srcY := some (BitVec.ofInt 32 y) } }

/-- The luma prediction of a partition from one list (R408). -/
def McPartition.predictLuma (q : McPartition) (mx my : Int) : Op Unit := do
  q.setDst 0
  setSrc (q.x0 + mx >>> 2) (q.y0 + my >>> 2)
  Op.nested (sampleOp 0 (phaseFormula ((mx % 4).toNat + 4 * (my % 4).toNat)))

/-- The prediction of a chroma plane of a partition from one list (R408). -/
def McPartition.predictChroma (q : McPartition) (mx my : Int) (p : Nat) : Op Unit := do
  q.setDst p
  setSrc ((q.x0 / 2 : Nat) + mx >>> 3) ((q.y0 / 2 : Nat) + my >>> 3)
  Op.modify fun s =>
    { s with mc := { s.mc with fx := some (BitVec.ofInt 3 (mx % 8)), fy := some (BitVec.ofInt 3 (my % 8)) } }
  Op.nested (mcChroma p)

/-- The chroma planes present. -/
def State.chromaPlanes (s : State) : List Nat := if s.chromaFormat = 1 then [1, 2] else []

/-- The prediction of a partition from one list (R408). -/
def McPartition.predict (q : McPartition) (slot : Nat) (weighted : Bool) (c : (Nat × Nat) × Nat) : Op Unit := do
  let l := c.1.1
  let r := c.1.2
  let first := decide (c.2 = 0)
  let mv ← mvAt l slot
  let row ← Op.read fun s => s.neededRow (q.y0 + mv.y.toInt >>> 2) q.h
  waitRow l r row
  Op.modify fun s =>
    { s with
      mc :=
        { s.mc with
          list := some (BitVec.ofNat 1 l), ref := some (BitVec.ofNat 5 r)
          buf := some (BitVec.ofBool (weighted && !first)), avg := some (BitVec.ofBool (!weighted && !first)) } }
  q.predictLuma mv.x.toInt mv.y.toInt
  let planes ← Op.read State.chromaPlanes
  Op.each planes fun p => q.predictChroma mv.x.toInt mv.y.toInt p

/-- Blend or weight the planes of a partition (R408). -/
def McPartition.weight (q : McPartition) (used : List (Nat × Nat)) : Op Unit := do
  let planes ← Op.read State.chromaPlanes
  Op.each (0 :: planes) fun p => do
    q.setDst p
    match used with
    | [(l, r)] => Op.nested (weightUni p l r)
    | (_, r0) :: (_, r1) :: _ => Op.nested (weightBi p r0 r1)
    | [] => pure ()

/-- The lists a block uses, each with its reference (R408). -/
def usedLists (slot : Nat) : Op (List (Nat × Nat)) := do
  let lists ← Op.read State.lists
  let refs ← Op.collect lists fun l => refAt l slot
  pure (((lists.zip refs).filter fun c => isRef c.2).map fun c => (c.1, c.2.toNat))

/-- `MC_PART` (R408). -/
def mcPart (n w h : Nat) : Op Unit := do
  let slot := scan8 n
  let q ← Op.read fun s =>
    (⟨16 * s.mbX.toNat + 4 * bx n, 16 * s.mbY.toNat + 4 * byRow n, w, h⟩ : McPartition)
  let used ← usedLists slot
  Op.require (fun _ => !used.isEmpty) (.rejected .illegalCommand)
  let mode ← Op.read State.useWeight
  let weighted := decide (mode = 1 ∨ (mode = 2 ∧ used.length = 2))
  Op.eachNested used.zipIdx (q.predict slot weighted)
  Op.when weighted (q.weight used)

/-! ### The commands -/

/-- `MC_SET` (R371). -/
def execMcSet (reg : BitVec 8) (value : Word) (s : State) : Host.Outcome State Fault Refusal :=
  command s.isRun (Legal.mcValue reg value && s.mcDstLegal reg.toNat value)
    (Op.modify fun s => { s with mc := s.mc.set reg.toNat value }) s

/-- `QPEL_MC00` (R376). -/
def execQpelMc00 (s : State) : Host.Outcome State Fault Refusal := command s.isRun true (sampleOp 0 phase00) s
/-- `QPEL_MC10` (R377). -/
def execQpelMc10 (s : State) : Host.Outcome State Fault Refusal := command s.isRun true (sampleOp 0 phase10) s
/-- `QPEL_MC20` (R378). -/
def execQpelMc20 (s : State) : Host.Outcome State Fault Refusal := command s.isRun true (sampleOp 0 phase20) s
/-- `QPEL_MC30` (R379). -/
def execQpelMc30 (s : State) : Host.Outcome State Fault Refusal := command s.isRun true (sampleOp 0 phase30) s
/-- `QPEL_MC01` (R380). -/
def execQpelMc01 (s : State) : Host.Outcome State Fault Refusal := command s.isRun true (sampleOp 0 phase01) s
/-- `QPEL_MC11` (R381). -/
def execQpelMc11 (s : State) : Host.Outcome State Fault Refusal := command s.isRun true (sampleOp 0 phase11) s
/-- `QPEL_MC21` (R382). -/
def execQpelMc21 (s : State) : Host.Outcome State Fault Refusal := command s.isRun true (sampleOp 0 phase21) s
/-- `QPEL_MC31` (R383). -/
def execQpelMc31 (s : State) : Host.Outcome State Fault Refusal := command s.isRun true (sampleOp 0 phase31) s
/-- `QPEL_MC02` (R384). -/
def execQpelMc02 (s : State) : Host.Outcome State Fault Refusal := command s.isRun true (sampleOp 0 phase02) s
/-- `QPEL_MC12` (R385). -/
def execQpelMc12 (s : State) : Host.Outcome State Fault Refusal := command s.isRun true (sampleOp 0 phase12) s
/-- `QPEL_MC22` (R386). -/
def execQpelMc22 (s : State) : Host.Outcome State Fault Refusal := command s.isRun true (sampleOp 0 phase22) s
/-- `QPEL_MC32` (R387). -/
def execQpelMc32 (s : State) : Host.Outcome State Fault Refusal := command s.isRun true (sampleOp 0 phase32) s
/-- `QPEL_MC03` (R388). -/
def execQpelMc03 (s : State) : Host.Outcome State Fault Refusal := command s.isRun true (sampleOp 0 phase03) s
/-- `QPEL_MC13` (R389). -/
def execQpelMc13 (s : State) : Host.Outcome State Fault Refusal := command s.isRun true (sampleOp 0 phase13) s
/-- `QPEL_MC23` (R390). -/
def execQpelMc23 (s : State) : Host.Outcome State Fault Refusal := command s.isRun true (sampleOp 0 phase23) s
/-- `QPEL_MC33` (R391). -/
def execQpelMc33 (s : State) : Host.Outcome State Fault Refusal := command s.isRun true (sampleOp 0 phase33) s

/-- `MC_CHROMA` (R394). -/
def execMcChroma (plane : BitVec 8) (s : State) : Host.Outcome State Fault Refusal :=
  command s.isRun (Legal.chromaPlane plane && decide (s.chromaFormat ≠ 0)) (mcChroma plane.toNat) s

/-- `WEIGHT_UNI` (R400). -/
def execWeightUni (plane list ref : BitVec 8) (s : State) : Host.Outcome State Fault Refusal :=
  command s.isRun (Legal.plane plane && Legal.list list && Legal.ref ref)
    (weightUni plane.toNat list.toNat ref.toNat) s

/-- `WEIGHT_BI` (R401). -/
def execWeightBi (plane ref0 ref1 : BitVec 8) (s : State) : Host.Outcome State Fault Refusal :=
  command s.isRun (Legal.plane plane && Legal.ref ref0 && Legal.ref ref1)
    (weightBi plane.toNat ref0.toNat ref1.toNat) s

/-- `MC_PART` (R408). -/
def execMcPart (n width height : BitVec 8) (s : State) : Host.Outcome State Fault Refusal :=
  command s.isRun (Legal.partition n width height) (mcPart n.toNat width.toNat height.toNat) s

/-- `IMPLICIT_WEIGHT` (R405). In `RUN` too it writes its table, although 20_memory.md R85 says that no table is written then.
DEDUCED, log 34. -/
def execImplicitWeight (s : State) : Host.Outcome State Fault Refusal := command s.isIdleOrRun true implicitWeight s

/-- `WAIT_ROW` (R372). The row is a number of 32 bits signed, as `PROGRESS` is (DEDUCED, log 16). -/
def execWaitRow (list ref : BitVec 8) (row : Word) (s : State) : Host.Outcome State Fault Refusal :=
  command s.isRun (Legal.list list && Legal.ref ref) (waitRow list.toNat ref.toNat row.toInt) s

end Sys2Proof.Machine
end

