-- ==== Sys2Proof/Machine/Transform.lean ====
section
/-! DEFINITION. The inverse transforms (45_reconstruction.md R420 to R434). -/

namespace Sys2Proof.Machine

/-- Where a block lies (R420): plane, column, row. -/
structure BlockPos where
  p : Nat
  x : Nat
  y : Nat
  deriving DecidableEq, Repr

/-- The place of block `b` in 0..23 (R420). -/
def State.blockPos (s : State) (b : Nat) : BlockPos :=
  if b < 16 then ⟨0, 16 * s.mbX.toNat + 4 * bx b, 16 * s.mbY.toNat + 4 * byRow b⟩
  else
    ⟨if b < 20 then 1 else 2, 8 * s.mbX.toNat + 4 * (b % 4 % 2), 8 * s.mbY.toNat + 4 * (b % 4 / 2)⟩

/-- The place of luma quadrant `q` (R420). -/
def State.quadrantPos (s : State) (q : Nat) : BlockPos :=
  ⟨0, 16 * s.mbX.toNat + 8 * (q % 2), 16 * s.mbY.toNat + 8 * (q / 2)⟩

/-- The 4-point kernel `T4` (R421): output `i`. -/
def kernel4 (c : Nat → Int) (i : Nat) : Int :=
  let e0 := c 0 + c 2
  let e1 := c 0 - c 2
  let e2 := c 1 >>> 1 - c 3
  let e3 := c 1 + c 3 >>> 1
  match i with
  | 0 => e0 + e3
  | 1 => e1 + e2
  | 2 => e1 - e2
  | _ => e0 - e3

/-- The 8-point kernel `T8` (R425): output `i`. -/
def kernel8 (c : Nat → Int) (i : Nat) : Int :=
  let a0 := c 0 + c 4
  let a2 := c 0 - c 4
  let a4 := c 2 >>> 1 - c 6
  let a6 := c 2 + c 6 >>> 1
  let a1 := -c 3 + c 5 - c 7 - c 7 >>> 1
  let a3 := c 1 + c 7 - c 3 - c 3 >>> 1
  let a5 := -c 1 + c 7 + c 5 + c 5 >>> 1
  let a7 := c 3 + c 5 + c 1 + c 1 >>> 1
  let b0 := a0 + a6
  let b2 := a2 + a4
  let b4 := a2 - a4
  let b6 := a0 - a6
  let b1 := a1 + a7 >>> 2
  let b3 := a3 + a5 >>> 2
  let b5 := a3 >>> 2 - a5
  let b7 := a7 - a1 >>> 2
  match i with
  | 0 => b0 + b7
  | 1 => b2 + b5
  | 2 => b4 + b3
  | 3 => b6 + b1
  | 4 => b6 - b1
  | 5 => b4 - b3
  | 6 => b2 - b5
  | _ => b0 - b7

/-- The two-dimensional transform, rows first, then columns (R422, R426): the sum at row `y`, column `x`. -/
def transform2d (kernel : (Nat → Int) → Nat → Int) (n : Nat) (c : Nat → Int) (y x : Nat) : Int :=
  kernel (fun r => kernel (fun k => c (n * r + k)) x) y

/-- Add a residual to an `n` by `n` block (R422, R424, R426, R428): sample (i, j) grows by `f i j`. -/
def addResidual (pos : State → BlockPos) (n : Nat) (f : State → Nat → Nat → Int) : Op Unit := do
  let b ← Op.read pos
  updateBlock b.p b.x b.y n n fun s i j => s.clipPixel (s.sample b.p (b.x + i) (b.y + j) + f s i j)

/-- The rounded residual at (x, y) of the `n` by `n` block whose coefficients start at index `k` (R422, R426). -/
def State.residual (s : State) (kernel : (Nat → Int) → Nat → Int) (n k x y : Nat) : Int :=
  (transform2d kernel n (fun i => s.coefAt (k + i)) y x + 32) >>> 6

/-- The rounded residual of a block that has only its first coefficient (R424, R428). -/
def State.dcResidual (s : State) (k : Nat) : Int := (s.coefAt k + 32) >>> 6

/-- `IDCT4_ADD` (R422). -/
def idct4Add (b : Nat) : Op Unit := do
  addResidual (fun s => s.blockPos b) 4 fun s i j => s.residual kernel4 4 (16 * b) i j
  zeroCoefs (16 * b) 16

/-- `IDCT4_DC_ADD` (R424). -/
def idct4DcAdd (b : Nat) : Op Unit := do
  addResidual (fun s => s.blockPos b) 4 fun s _ _ => s.dcResidual (16 * b)
  zeroCoefs (16 * b) 1

/-- `IDCT8_ADD` (R426). -/
def idct8Add (q : Nat) : Op Unit := do
  addResidual (fun s => s.quadrantPos q) 8 fun s i j => s.residual kernel8 8 (64 * q) i j
  zeroCoefs (64 * q) 64

/-- `IDCT8_DC_ADD` (R428). -/
def idct8DcAdd (q : Nat) : Op Unit := do
  addResidual (fun s => s.quadrantPos q) 8 fun s _ _ => s.dcResidual (64 * q)
  zeroCoefs (64 * q) 1

/-! ### The DC transforms -/

/-- The Hadamard matrix `H` (R430). -/
def hadamard (i j : Nat) : Int :=
  match i, j with
  | _, 0 => 1
  | 0, _ => 1
  | 1, 1 => 1
  | 1, _ => -1
  | 2, 3 => 1
  | 2, _ => -1
  | _, 2 => 1
  | _, _ => -1

/-- The sum of four terms. -/
def sum4 (f : Nat → Int) : Int := f 0 + f 1 + f 2 + f 3

/-- `f[y][x]` of R430. -/
def State.lumaHadamard (s : State) (y x : Nat) : Int :=
  sum4 fun k => sum4 fun j => hadamard y k * s.lumaDcAt (j + 4 * k) * hadamard j x

/-- Write the first coefficient of some blocks, all computed from the same state: (block, value) pairs. -/
def setFirstCoefs (f : State → List (Nat × Int)) : Op Unit := do
  let values ← Op.read f
  Op.each values fun c => setCoef (16 * c.1) c.2

/-- `LUMA_DC_DEQUANT_IDCT` (R430). -/
def lumaDcDequantIdct (qmul : Nat) : Op Unit := do
  setFirstCoefs fun s =>
    (List.range 16).map fun n => (n, (s.lumaHadamard (byRow n) (bx n) * qmul + 128) >>> 8)
  zeroLumaDc

/-- `f[y][x]` of R432. -/
def State.chromaHadamard (s : State) (c y x : Nat) : Int :=
  let v := fun k => s.chromaDcAt c k
  match y, x with
  | 0, 0 => v 0 + v 1 + v 2 + v 3
  | 0, _ => v 0 - v 1 + v 2 - v 3
  | _, 0 => v 0 + v 1 - v 2 - v 3
  | _, _ => v 0 - v 1 - v 2 + v 3

/-- `CHROMA_DC_DEQUANT_IDCT` (R432). -/
def chromaDcDequantIdct (c qmul : Nat) : Op Unit := do
  setFirstCoefs fun s =>
    (List.range 4).map fun k => (16 + 4 * c + k, (s.chromaHadamard c (k / 2) (k % 2) * qmul) >>> 7)
  zeroChromaDc c 4

/-- `f[y][x]` of R434. -/
def State.chroma422Hadamard (s : State) (c y x : Nat) : Int :=
  let t := fun r => if x = 0 then s.chromaDcAt c (2 * r) + s.chromaDcAt c (1 + 2 * r)
    else s.chromaDcAt c (2 * r) - s.chromaDcAt c (1 + 2 * r)
  sum4 fun r => hadamard y r * t r

/-- `CHROMA422_DC_DEQUANT_IDCT` (R434). -/
def chroma422DcDequantIdct (c qmul : Nat) : Op Unit := do
  let values ← Op.read fun s =>
    (List.range 8).map fun k => (k, (s.chroma422Hadamard c (k / 2) (k % 2) * qmul + 128) >>> 8)
  Op.each values fun v => setChromaDc c v.1 v.2

/-! ### The commands -/

/-- `IDCT4_ADD` (R422). -/
def execIdct4Add (b : BitVec 8) (s : State) : Host.Outcome State Fault Refusal :=
  command s.isRun (Legal.block b) (idct4Add b.toNat) s

/-- `IDCT4_DC_ADD` (R424). -/
def execIdct4DcAdd (b : BitVec 8) (s : State) : Host.Outcome State Fault Refusal :=
  command s.isRun (Legal.block b) (idct4DcAdd b.toNat) s

/-- `IDCT8_ADD` (R426). -/
def execIdct8Add (q : BitVec 8) (s : State) : Host.Outcome State Fault Refusal :=
  command s.isRun (Legal.quadrant q) (idct8Add q.toNat) s

/-- `IDCT8_DC_ADD` (R428). -/
def execIdct8DcAdd (q : BitVec 8) (s : State) : Host.Outcome State Fault Refusal :=
  command s.isRun (Legal.quadrant q) (idct8DcAdd q.toNat) s

/-- `LUMA_DC_DEQUANT_IDCT` (R430). -/
def execLumaDcDequantIdct (qmul : Word) (s : State) : Host.Outcome State Fault Refusal :=
  command s.isRun true (lumaDcDequantIdct qmul.toNat) s

/-- `CHROMA_DC_DEQUANT_IDCT` (R432). -/
def execChromaDcDequantIdct (plane : BitVec 8) (qmul : Word) (s : State) : Host.Outcome State Fault Refusal :=
  command s.isRun (Legal.chromaIndex plane) (chromaDcDequantIdct plane.toNat qmul.toNat) s

/-- `CHROMA422_DC_DEQUANT_IDCT` (R434). -/
def execChroma422DcDequantIdct (plane : BitVec 8) (qmul : Word) (s : State) : Host.Outcome State Fault Refusal :=
  command s.isRun (Legal.chromaIndex plane) (chroma422DcDequantIdct plane.toNat qmul.toNat) s

end Sys2Proof.Machine
end

