-- ==== Sys2Proof/Machine/Recon.lean ====
section
/-! DEFINITION. Intra prediction and the reconstruction of one macroblock (45_reconstruction.md R440 to R458). -/

namespace Sys2Proof.Machine

/-! ### Intra prediction -/

/-- The plane, place and size of an intra prediction block (R440). -/
def State.intraPos (s : State) (kind b : Nat) : BlockPos × Nat :=
  match kind with
  | 0 => (s.blockPos b, 4)
  | 1 => (s.quadrantPos (b / 4), 8)
  | 2 => (s.blockPos 0, 16)
  | _ => (s.blockPos b, 8)

/-- The mode of an intra prediction (R440). -/
def intraMode (kind b : Nat) : Op Nat :=
  match kind with
  | 0 => do
    let m ← i4At (scan8 b)
    pure m.toNat
  | 1 => do
    let m ← i4At (scan8 b)
    pure m.toNat
  | 2 => Op.need fun s => s.mb.i16Mode.map BitVec.toNat
  | _ => Op.need fun s => s.mb.chromaMode.map BitVec.toNat

/-- The intra availability of a neighbour, `L`, `T`, `TL`, `TR` (10_state.md R56). -/
def nbIntraAt (k : Nat) : Op Bool := Op.need fun s => Cells.look s.nbIntra k

/-- What `IntraPredict` is given (R440, 10_state.md R52). -/
def State.intraArgs (s : State) (kind mode b : Nat) (avail : List Bool) : IntraArgs :=
  let pos := (s.intraPos kind b).1
  { kind := kind, mode := mode, plane := pos.p, x0 := pos.x, y0 := pos.y, block := b, avail := avail
    bitDepth := s.bitDepth, samples := s.pic.planes.plane pos.p, gen := s.pic.planes.gen }

/-- `INTRA_PRED` (R440): the external predictor's samples, each in 0..`PIXEL_MAX`. -/
def intraPred (kind b : Nat) : Op Unit := do
  let mode ← intraMode kind b
  let avail ← Op.collect (List.range 4) nbIntraAt
  let args ← Op.read fun s => s.intraArgs kind mode b avail
  let pos ← Op.read fun s => s.intraPos kind b
  updateBlock pos.1.p pos.1.x pos.1.y pos.2 pos.2 fun s i j =>
    BitVec.ofNat 14 (Config.intraPredict args i j % 2 ^ s.bitDepth)

/-! ### The gates -/

/-- `Add4` (R454). -/
def add4 (kind : MbKind) (b : Nat) : Op Unit := do
  let k ← nnzAt (scan8 b)
  let dc ← Op.read fun s => s.coefAt (16 * b)
  if kind = .intra16x16 ∨ 16 ≤ b then
    if k ≠ 0 then idct4Add b else if dc ≠ 0 then idct4DcAdd b else pure ()
  else if k = 0 then pure ()
  else if k = 1 ∧ dc ≠ 0 then idct4DcAdd b else idct4Add b

/-- `Add8` (R454). -/
def add8 (q : Nat) : Op Unit := do
  let k ← Op.need fun s => Cells.look s.mb.nnzSum q
  let dc ← Op.read fun s => s.coefAt (64 * q)
  if k = 0 then pure ()
  else if k = 1 ∧ dc ≠ 0 then idct8DcAdd q else idct8Add q

/-! ### One macroblock -/

/-- An element of `PCM_BUF`. -/
def State.pcmAt (s : State) (k : Nat) : Sample := (Cells.look s.pcm k).getD 0

/-- Are `n` elements of `PCM_BUF` from `k` on written? -/
def State.pcmLoaded (s : State) (k n : Nat) : Bool := (List.range' k n).all fun i => (Cells.look s.pcm i).isSome

/-- Copy an `n` by `n` block of `PCM_BUF`, from element `k` on, into a plane (R451). An element that is `undef` is a model fault
(10_state.md R55, 60_exceptions.md R477). -/
def pcmBlock (p k n : Nat) : Op Unit := do
  Op.require (fun s => s.pcmLoaded k (n * n)) (.faulted .uninitialisedRead)
  let x ← Op.read fun s => n * s.mbX.toNat
  let y ← Op.read fun s => n * s.mbY.toNat
  updateBlock p x y n n fun s i j => s.pcmAt (k + n * j + i)

/-- `IntraPCM` (R451). -/
def reconPcm : Op Unit := do
  pcmBlock 0 0 16
  let format ← Op.read State.chromaFormat
  Op.when (decide (format = 1)) do
    pcmBlock 1 256 8
    pcmBlock 2 320 8

/-- The blocks of a shape within quadrant `q` (R452): block, width and height in luma samples. -/
def quadrantParts (q : Nat) (shape : Option SubShape) : List (Nat × Nat × Nat) :=
  match shape with
  | some .s8x8 => [(4 * q, 8, 8)]
  | some .s8x4 => [(4 * q, 8, 4), (4 * q + 2, 8, 4)]
  | some .s4x8 => [(4 * q, 4, 8), (4 * q + 1, 4, 8)]
  | _ => [(4 * q, 4, 4), (4 * q + 1, 4, 4), (4 * q + 2, 4, 4), (4 * q + 3, 4, 4)]

/-- The partitions of an inter macroblock, in the order they are compensated (R452). -/
def interPartitions (kind : MbKind) : Op (List (Nat × Nat × Nat)) :=
  match kind with
  | .inter16x16 => pure [(0, 16, 16)]
  | .inter16x8 => pure [(0, 16, 8), (8, 16, 8)]
  | .inter8x16 => pure [(0, 8, 16), (4, 8, 16)]
  | .inter8x8 => do
    let subs ← Op.collect (List.range 4) mbSub
    pure (subs.zipIdx.flatMap fun c => quadrantParts c.2 c.1.shape)
  | .direct => pure ((List.range 16).map fun n => (n, 4, 4))
  | .intra4x4 => pure []
  | .intra16x16 => pure []
  | .intraPcm => pure []

/-- Inter prediction (R452). -/
def interPrediction (kind : MbKind) : Op Unit := do
  let parts ← interPartitions kind
  Op.eachNested parts fun c => mcPart c.1 c.2.1 c.2.2

/-- Inter luma residual (R454). -/
def interLuma (kind : MbKind) : Op Unit := do
  let dct8x8 ← mbDct8x8
  if dct8x8 then Op.each (List.range 4) add8 else Op.each (List.range 16) (add4 kind)

/-- Intra luma, prediction and residual interleaved (R453). -/
def intraLuma (kind : MbKind) : Op Unit :=
  if kind = .intra4x4 then do
    let dct8x8 ← mbDct8x8
    if dct8x8 then
      Op.each (List.range 4) fun q => do
        intraPred 1 (4 * q)
        add8 q
    else
      Op.each (List.range 16) fun n => do
        intraPred 0 n
        add4 kind n
  else do
    intraPred 2 0
    let k ← nnzAt (scan8 24)
    Op.when (decide (k ≠ 0)) do
      let qp ← Op.read State.qscale
      let f ← dequant4At 0 qp 0
      lumaDcDequantIdct f
    Op.each (List.range 16) (add4 kind)

/-- The residual of chroma plane `c` (R455). -/
def chromaPlaneResidual (kind : MbKind) (c : Nat) : Op Unit := do
  let k ← nnzAt (scan8 (25 + c))
  Op.when (decide (k ≠ 0)) do
    let qp ← chromaQpAt c
    let f ← dequant4At (chromaMatrix kind.intra c) qp 0
    chromaDcDequantIdct c f
  Op.each (List.range 4) fun k => add4 kind (16 + 4 * c + k)

/-- Chroma (R455). -/
def reconChroma (kind : MbKind) : Op Unit := do
  let format ← Op.read State.chromaFormat
  Op.when (decide (format = 1)) do
    Op.when kind.intra do
      intraPred 3 16
      intraPred 3 20
    let cbp ← mbCbp
    Op.when (decide (cbp / 16 % 4 ≠ 0)) (Op.each [0, 1] (chromaPlaneResidual kind))

/-- Luma: intra prediction and residual, or inter prediction and then the residual (R450). -/
def reconLuma (kind : MbKind) : Op Unit :=
  if kind.intra then intraLuma kind
  else do
    interPrediction kind
    interLuma kind

/-- The samples of the macroblock (R450). -/
def reconSamples (kind : MbKind) : Op Unit :=
  if kind = .intraPcm then reconPcm
  else do
    reconLuma kind
    reconChroma kind

/-- The macroblock address moves on; past the last row the engine is `DONE` (10_state.md R25). -/
def State.advanceMb (s : State) : State :=
  let wrap := decide (s.mbX.toNat + 1 = s.picW)
  let y := if wrap then s.mbY + 1 else s.mbY
  { s with
    mb := Mb.undef
    mbX := if wrap then 0 else s.mbX + 1
    mbY := y
    engine := if (if wrap then s.mbY.toNat + 1 else s.mbY.toNat) = s.picH then .done else s.engine }

/-- `MB_RECON` (R450). -/
def mbRecon : Op Unit := do
  let kind ← mbKind
  reconSamples kind
  Op.modify fun s => { s with coefs := Coefs.zero }
  cacheWriteback
  Op.modify State.advanceMb
  setRes 0

/-! ### The commands -/

/-- `INTRA_PRED` (R440). -/
def execIntraPred (kind b : BitVec 8) (s : State) : Host.Outcome State Fault Refusal :=
  command s.isRun (Legal.intraBlock kind b && decide (kind ≠ 3 ∨ s.chromaFormat ≠ 0)) (intraPred kind.toNat b.toNat) s

/-- `MB_RECON` (R450). -/
def execMbRecon (s : State) : Host.Outcome State Fault Refusal := command s.isRun true mbRecon s

end Sys2Proof.Machine
end

