-- ==== Sys2Proof/Machine/Dispatch.lean ====
section
/-! DEFINITION. The meaning of every instruction, one arm each. -/

namespace Sys2Proof.Machine

/-- What an instruction does (30_encoding.md R102; the rule of each meaning). -/
def exec (i : Instr) (s : State) : Host.Outcome State Fault Refusal :=
  match i with
  | .vlcInit => Sys2Proof.Machine.execVlcInit s
  | .reset => Sys2Proof.Machine.execReset s
  | .crWrite reg value => Sys2Proof.Machine.execCrWrite reg value s
  | .crRead reg => Sys2Proof.Machine.execCrRead reg s
  | .tabWrite ram hi lo value => Sys2Proof.Machine.execTabWrite ram hi lo value s
  | .bsLoad len => Sys2Proof.Machine.execBsLoad len s
  | .bsSeek pos => Sys2Proof.Machine.execBsSeek pos s
  | .peek n => Sys2Proof.Machine.execPeek n s
  | .skip n => Sys2Proof.Machine.execSkip n s
  | .read n => Sys2Proof.Machine.execRead n s
  | .readUe => Sys2Proof.Machine.execReadUe s
  | .readSe => Sys2Proof.Machine.execReadSe s
  | .readTe range => Sys2Proof.Machine.execReadTe range s
  | .align => Sys2Proof.Machine.execAlign s
  | .bitsLeft => Sys2Proof.Machine.execBitsLeft s
  | .readCoeffToken sel => Sys2Proof.Machine.execReadCoeffToken sel s
  | .readTrailingSigns => Sys2Proof.Machine.execReadTrailingSigns s
  | .readLevel => Sys2Proof.Machine.execReadLevel s
  | .readTotalZeros => Sys2Proof.Machine.execReadTotalZeros s
  | .readRunBefore => Sys2Proof.Machine.execReadRunBefore s
  | .decodeResidual blk scan maxCoeff qmul => Sys2Proof.Machine.execDecodeResidual blk scan maxCoeff qmul s
  | .cacheFill => Sys2Proof.Machine.execCacheFill s
  | .predNnz n => Sys2Proof.Machine.execPredNnz n s
  | .predMv n width list ref => Sys2Proof.Machine.execPredMv n width list ref s
  | .predMv16x8 n list ref => Sys2Proof.Machine.execPredMv16x8 n list ref s
  | .predMv8x16 n list ref => Sys2Proof.Machine.execPredMv8x16 n list ref s
  | .predMvPskip => Sys2Proof.Machine.execPredMvPskip s
  | .predI4Mode n => Sys2Proof.Machine.execPredI4Mode n s
  | .cacheWriteback => Sys2Proof.Machine.execCacheWriteback s
  | .sliceStart pos => Sys2Proof.Machine.execSliceStart pos s
  | .mbDecode => Sys2Proof.Machine.execMbDecode s
  | .mbRecon => Sys2Proof.Machine.execMbRecon s
  | .sliceEnd => Sys2Proof.Machine.execSliceEnd s
  | .mcSet reg value => Sys2Proof.Machine.execMcSet reg value s
  | .qpelMc00 => Sys2Proof.Machine.execQpelMc00 s
  | .qpelMc10 => Sys2Proof.Machine.execQpelMc10 s
  | .qpelMc20 => Sys2Proof.Machine.execQpelMc20 s
  | .qpelMc30 => Sys2Proof.Machine.execQpelMc30 s
  | .qpelMc01 => Sys2Proof.Machine.execQpelMc01 s
  | .qpelMc11 => Sys2Proof.Machine.execQpelMc11 s
  | .qpelMc21 => Sys2Proof.Machine.execQpelMc21 s
  | .qpelMc31 => Sys2Proof.Machine.execQpelMc31 s
  | .qpelMc02 => Sys2Proof.Machine.execQpelMc02 s
  | .qpelMc12 => Sys2Proof.Machine.execQpelMc12 s
  | .qpelMc22 => Sys2Proof.Machine.execQpelMc22 s
  | .qpelMc32 => Sys2Proof.Machine.execQpelMc32 s
  | .qpelMc03 => Sys2Proof.Machine.execQpelMc03 s
  | .qpelMc13 => Sys2Proof.Machine.execQpelMc13 s
  | .qpelMc23 => Sys2Proof.Machine.execQpelMc23 s
  | .qpelMc33 => Sys2Proof.Machine.execQpelMc33 s
  | .mcChroma plane => Sys2Proof.Machine.execMcChroma plane s
  | .weightUni plane list ref => Sys2Proof.Machine.execWeightUni plane list ref s
  | .weightBi plane ref0 ref1 => Sys2Proof.Machine.execWeightBi plane ref0 ref1 s
  | .mcPart n width height => Sys2Proof.Machine.execMcPart n width height s
  | .implicitWeight => Sys2Proof.Machine.execImplicitWeight s
  | .waitRow list ref row => Sys2Proof.Machine.execWaitRow list ref row s
  | .idct4Add b => Sys2Proof.Machine.execIdct4Add b s
  | .idct4DcAdd b => Sys2Proof.Machine.execIdct4DcAdd b s
  | .idct8Add q => Sys2Proof.Machine.execIdct8Add q s
  | .idct8DcAdd q => Sys2Proof.Machine.execIdct8DcAdd q s
  | .lumaDcDequantIdct qmul => Sys2Proof.Machine.execLumaDcDequantIdct qmul s
  | .chromaDcDequantIdct plane qmul => Sys2Proof.Machine.execChromaDcDequantIdct plane qmul s
  | .chroma422DcDequantIdct plane qmul => Sys2Proof.Machine.execChroma422DcDequantIdct plane qmul s
  | .intraPred kind b => Sys2Proof.Machine.execIntraPred kind b s
  | .elemU n x => Sys2Proof.Machine.execElemU n x s
  | .elemUe v => Sys2Proof.Machine.execElemUe v s
  | .elemSe v => Sys2Proof.Machine.execElemSe v s
  | .elemTe1 => Sys2Proof.Machine.execElemTe1 s
  | .elemTe2 v => Sys2Proof.Machine.execElemTe2 v s
  | .elemTeN range v => Sys2Proof.Machine.execElemTeN range v s
  | .levelPrefix p => Sys2Proof.Machine.execLevelPrefix p s
  | .levelSuffix n x => Sys2Proof.Machine.execLevelSuffix n x s
  | .trailingOnesSign neg => Sys2Proof.Machine.execTrailingOnesSign neg s
  | .iMbType0 sl => Sys2Proof.Machine.execIMbType0 sl s
  | .iMbType1 sl => Sys2Proof.Machine.execIMbType1 sl s
  | .iMbType2 sl => Sys2Proof.Machine.execIMbType2 sl s
  | .iMbType3 sl => Sys2Proof.Machine.execIMbType3 sl s
  | .iMbType4 sl => Sys2Proof.Machine.execIMbType4 sl s
  | .iMbType5 sl => Sys2Proof.Machine.execIMbType5 sl s
  | .iMbType6 sl => Sys2Proof.Machine.execIMbType6 sl s
  | .iMbType7 sl => Sys2Proof.Machine.execIMbType7 sl s
  | .iMbType8 sl => Sys2Proof.Machine.execIMbType8 sl s
  | .iMbType9 sl => Sys2Proof.Machine.execIMbType9 sl s
  | .iMbType10 sl => Sys2Proof.Machine.execIMbType10 sl s
  | .iMbType11 sl => Sys2Proof.Machine.execIMbType11 sl s
  | .iMbType12 sl => Sys2Proof.Machine.execIMbType12 sl s
  | .iMbType13 sl => Sys2Proof.Machine.execIMbType13 sl s
  | .iMbType14 sl => Sys2Proof.Machine.execIMbType14 sl s
  | .iMbType15 sl => Sys2Proof.Machine.execIMbType15 sl s
  | .iMbType16 sl => Sys2Proof.Machine.execIMbType16 sl s
  | .iMbType17 sl => Sys2Proof.Machine.execIMbType17 sl s
  | .iMbType18 sl => Sys2Proof.Machine.execIMbType18 sl s
  | .iMbType19 sl => Sys2Proof.Machine.execIMbType19 sl s
  | .iMbType20 sl => Sys2Proof.Machine.execIMbType20 sl s
  | .iMbType21 sl => Sys2Proof.Machine.execIMbType21 sl s
  | .iMbType22 sl => Sys2Proof.Machine.execIMbType22 sl s
  | .iMbType23 sl => Sys2Proof.Machine.execIMbType23 sl s
  | .iMbType24 sl => Sys2Proof.Machine.execIMbType24 sl s
  | .iMbType25 sl => Sys2Proof.Machine.execIMbType25 sl s
  | .pMbType0 => Sys2Proof.Machine.execPMbType0 s
  | .pMbType1 => Sys2Proof.Machine.execPMbType1 s
  | .pMbType2 => Sys2Proof.Machine.execPMbType2 s
  | .pMbType3 => Sys2Proof.Machine.execPMbType3 s
  | .pMbType4 => Sys2Proof.Machine.execPMbType4 s
  | .bMbType0 => Sys2Proof.Machine.execBMbType0 s
  | .bMbType1 => Sys2Proof.Machine.execBMbType1 s
  | .bMbType2 => Sys2Proof.Machine.execBMbType2 s
  | .bMbType3 => Sys2Proof.Machine.execBMbType3 s
  | .bMbType4 => Sys2Proof.Machine.execBMbType4 s
  | .bMbType5 => Sys2Proof.Machine.execBMbType5 s
  | .bMbType6 => Sys2Proof.Machine.execBMbType6 s
  | .bMbType7 => Sys2Proof.Machine.execBMbType7 s
  | .bMbType8 => Sys2Proof.Machine.execBMbType8 s
  | .bMbType9 => Sys2Proof.Machine.execBMbType9 s
  | .bMbType10 => Sys2Proof.Machine.execBMbType10 s
  | .bMbType11 => Sys2Proof.Machine.execBMbType11 s
  | .bMbType12 => Sys2Proof.Machine.execBMbType12 s
  | .bMbType13 => Sys2Proof.Machine.execBMbType13 s
  | .bMbType14 => Sys2Proof.Machine.execBMbType14 s
  | .bMbType15 => Sys2Proof.Machine.execBMbType15 s
  | .bMbType16 => Sys2Proof.Machine.execBMbType16 s
  | .bMbType17 => Sys2Proof.Machine.execBMbType17 s
  | .bMbType18 => Sys2Proof.Machine.execBMbType18 s
  | .bMbType19 => Sys2Proof.Machine.execBMbType19 s
  | .bMbType20 => Sys2Proof.Machine.execBMbType20 s
  | .bMbType21 => Sys2Proof.Machine.execBMbType21 s
  | .bMbType22 => Sys2Proof.Machine.execBMbType22 s
  | .pSubMbType0 quadrant => Sys2Proof.Machine.execPSubMbType0 quadrant s
  | .pSubMbType1 quadrant => Sys2Proof.Machine.execPSubMbType1 quadrant s
  | .pSubMbType2 quadrant => Sys2Proof.Machine.execPSubMbType2 quadrant s
  | .pSubMbType3 quadrant => Sys2Proof.Machine.execPSubMbType3 quadrant s
  | .bSubMbType0 quadrant => Sys2Proof.Machine.execBSubMbType0 quadrant s
  | .bSubMbType1 quadrant => Sys2Proof.Machine.execBSubMbType1 quadrant s
  | .bSubMbType2 quadrant => Sys2Proof.Machine.execBSubMbType2 quadrant s
  | .bSubMbType3 quadrant => Sys2Proof.Machine.execBSubMbType3 quadrant s
  | .bSubMbType4 quadrant => Sys2Proof.Machine.execBSubMbType4 quadrant s
  | .bSubMbType5 quadrant => Sys2Proof.Machine.execBSubMbType5 quadrant s
  | .bSubMbType6 quadrant => Sys2Proof.Machine.execBSubMbType6 quadrant s
  | .bSubMbType7 quadrant => Sys2Proof.Machine.execBSubMbType7 quadrant s
  | .bSubMbType8 quadrant => Sys2Proof.Machine.execBSubMbType8 quadrant s
  | .bSubMbType9 quadrant => Sys2Proof.Machine.execBSubMbType9 quadrant s
  | .bSubMbType10 quadrant => Sys2Proof.Machine.execBSubMbType10 quadrant s
  | .bSubMbType11 quadrant => Sys2Proof.Machine.execBSubMbType11 quadrant s
  | .bSubMbType12 quadrant => Sys2Proof.Machine.execBSubMbType12 quadrant s
  | .coeffToken0 t n => Sys2Proof.Machine.execCoeffToken0 t n s
  | .coeffToken1 t n => Sys2Proof.Machine.execCoeffToken1 t n s
  | .coeffToken2 t n => Sys2Proof.Machine.execCoeffToken2 t n s
  | .coeffToken3 t n => Sys2Proof.Machine.execCoeffToken3 t n s
  | .chromaDcCoeffToken t n => Sys2Proof.Machine.execChromaDcCoeffToken t n s
  | .chroma422DcCoeffToken t n => Sys2Proof.Machine.execChroma422DcCoeffToken t n s
  | .totalZeros1 z => Sys2Proof.Machine.execTotalZeros1 z s
  | .totalZeros2 z => Sys2Proof.Machine.execTotalZeros2 z s
  | .totalZeros3 z => Sys2Proof.Machine.execTotalZeros3 z s
  | .totalZeros4 z => Sys2Proof.Machine.execTotalZeros4 z s
  | .totalZeros5 z => Sys2Proof.Machine.execTotalZeros5 z s
  | .totalZeros6 z => Sys2Proof.Machine.execTotalZeros6 z s
  | .totalZeros7 z => Sys2Proof.Machine.execTotalZeros7 z s
  | .totalZeros8 z => Sys2Proof.Machine.execTotalZeros8 z s
  | .totalZeros9 z => Sys2Proof.Machine.execTotalZeros9 z s
  | .totalZeros10 z => Sys2Proof.Machine.execTotalZeros10 z s
  | .totalZeros11 z => Sys2Proof.Machine.execTotalZeros11 z s
  | .totalZeros12 z => Sys2Proof.Machine.execTotalZeros12 z s
  | .totalZeros13 z => Sys2Proof.Machine.execTotalZeros13 z s
  | .totalZeros14 z => Sys2Proof.Machine.execTotalZeros14 z s
  | .totalZeros15 z => Sys2Proof.Machine.execTotalZeros15 z s
  | .chromaDcTotalZeros1 z => Sys2Proof.Machine.execChromaDcTotalZeros1 z s
  | .chromaDcTotalZeros2 z => Sys2Proof.Machine.execChromaDcTotalZeros2 z s
  | .chromaDcTotalZeros3 z => Sys2Proof.Machine.execChromaDcTotalZeros3 z s
  | .chroma422DcTotalZeros1 z => Sys2Proof.Machine.execChroma422DcTotalZeros1 z s
  | .chroma422DcTotalZeros2 z => Sys2Proof.Machine.execChroma422DcTotalZeros2 z s
  | .chroma422DcTotalZeros3 z => Sys2Proof.Machine.execChroma422DcTotalZeros3 z s
  | .chroma422DcTotalZeros4 z => Sys2Proof.Machine.execChroma422DcTotalZeros4 z s
  | .chroma422DcTotalZeros5 z => Sys2Proof.Machine.execChroma422DcTotalZeros5 z s
  | .chroma422DcTotalZeros6 z => Sys2Proof.Machine.execChroma422DcTotalZeros6 z s
  | .chroma422DcTotalZeros7 z => Sys2Proof.Machine.execChroma422DcTotalZeros7 z s
  | .runBefore1 r => Sys2Proof.Machine.execRunBefore1 r s
  | .runBefore2 r => Sys2Proof.Machine.execRunBefore2 r s
  | .runBefore3 r => Sys2Proof.Machine.execRunBefore3 r s
  | .runBefore4 r => Sys2Proof.Machine.execRunBefore4 r s
  | .runBefore5 r => Sys2Proof.Machine.execRunBefore5 r s
  | .runBefore6 r => Sys2Proof.Machine.execRunBefore6 r s
  | .run7 r => Sys2Proof.Machine.execRun7 r s

end Sys2Proof.Machine
end

