-- ==== Sys2Proof/Machine/Port.lean ====
section
/-! DEFINITION. What comes to the engine from outside: the host's requests, and what the platform does to the memories
between and during commands (20_memory.md R83, 60_exceptions.md R483, 70_reset_and_hazards.md R515). -/

namespace Sys2Proof.Machine

/-- The request at the head of the port is done with. -/
def State.consume (s : State) : State := { s with port := s.port.drop 1 }

/-- A producer raises its counter, which never falls (R83). -/
def RefPic.raiseProgress (r : RefPic) (row : Word) : RefPic :=
  { r with progress := if r.progress.toInt < row.toInt then row else r.progress }

/-- A reference that its producer writes while a slice is decoded (20_memory.md R77, R83): the planes and the counter,
which never falls. -/
def RefPic.rewritten (r pic : RefPic) : RefPic := { r.raiseProgress pic.progress with planes := pic.planes }

/-- The picture as the platform prepares it (R515 step 5); a new allocation holds what it holds. -/
def Picture.prepare (gen : Nat) : Picture := ⟨⟨[], [], [], gen⟩, PicArrays.undef, true, false⟩

/-- Power-on (R510): everything as after `RESET`, and `VLC_READY` 0. The memories are not touched. -/
def State.powerOn (s : State) : State := { s.commandReset with vlcReady := false, status := .none }

/-- A new picture (R515 step 5). While a slice is decoded no other agent writes it (20_memory.md R77): nothing happens.
DESIGN CHOICE, log 6. -/
def State.newPicture (s : State) : State :=
  if s.engine = .run then s else { s with pic := Picture.prepare s.freeCtr, freeCtr := s.freeCtr + 1 }

/-- A reference is put in place (R515 step 4). While a slice is decoded only its planes and its counter can be written
(20_memory.md R77), and only of one that is in place. DESIGN CHOICE, log 19. -/
def State.setReference (s : State) (l r : Nat) (pic : RefPic) : State :=
  if s.engine = .run then
    match s.refPic l r with
    | some old => { s with refs := Cells.put s.refs (32 * l + r) (old.rewritten pic) }
    | none => s
  else { s with refs := Cells.put s.refs (32 * l + r) pic }

/-- What the platform does (R515, R83, R510). -/
def State.platformAct (s : State) (act : PlatformAct) : State :=
  match act with
  | .bytes b => { s with hostBuf := b }
  | .newPicture => s.newPicture
  | .reference l r pic => s.setReference l r pic
  | .progress l r row =>
    match s.refPic l r with
    | some pic => { s with refs := Cells.put s.refs (32 * l + r) (pic.raiseProgress row) }
    | none => s
  | .powerOn => s.powerOn

/-- The request that waits, as an act of the platform leaves it: only power-on ends it (R482). -/
def PlatformAct.keepsWaiting (act : PlatformAct) (w : Command) : List Request :=
  match act with
  | .powerOn => []
  | .bytes _ => [.command w]
  | .newPicture => [.command w]
  | .reference _ _ _ => [.command w]
  | .progress _ _ _ => [.command w]

/-- A command or element that ended leaves the port; one that waits stays at its head. -/
def settle (o : Host.Outcome State Fault Refusal) : Host.Outcome State Fault Refusal :=
  match o with
  | .next t => .next (if t.status = .waiting then t else t.consume)
  | .fault f => .fault f
  | .refused r => .refused r

/-- The bits from the cursor to the end of the buffer, at most 64: no element is longer than 63 bits (30_encoding.md
R111). -/
def State.bitsAhead (s : State) : List Bool := s.bsBits s.bitpos (min 64 (s.bsLen - s.bitpos))

/-- Write bits into the bitstream buffer, from bit `pos` on. -/
def putBits (bs : Cells Byte) (pos : Nat) : List Bool → Cells Byte
  | [] => bs
  | b :: rest =>
    let old := (Cells.look bs (pos / 8)).getD 0
    let m := BitVec.twoPow 8 (7 - pos % 8)
    putBits (Cells.put bs (pos / 8) (if b then old ||| m else old &&& ~~~m)) (pos + 1) rest

/-- Put an instruction of spec/opcode_table.json where the engine takes its next one: a command word at the head of the
port, a codeword at the bit cursor with a request for it. -/
def State.placeTableWord (s : State) (nbits w : Nat) : State :=
  if nbits = 64 then { s with port := .command (BitVec.ofNat 64 w) :: s.port, status := .none }
  else
    let bits := tableElementBits w
    { s with
      bs := putBits s.bs s.bitpos bits
      bsLen := max s.bsLen (s.bitpos + bits.length)
      port := .element (.mbType .i) :: s.port
      status := .none }

end Sys2Proof.Machine
end

