-- ==== Sys2Proof/Machine/Run.lean ====
section
/-! DEFINITION. Running the request at the head of the port (00_scope.md R11, 30_encoding.md R101, 60_exceptions.md R483). -/

namespace Sys2Proof.Machine

/-- A command word (30_encoding.md R101): one that does not decode is an `IllegalCommand`. -/
def runCommandWord (w : Command) (s : State) : Host.Outcome State Fault Refusal :=
  match decodeWord w with
  | .error _ => .next (s.reject .illegalCommand)
  | .ok i => exec i s

/-- A request for one element: decode the bits at the cursor and run what they spell. -/
def runElementRequest (ctx : ElemCtx) (s : State) : Host.Outcome State Fault Refusal :=
  match decodeBits ctx s.bitsAhead with
  | .error _ => failElement ctx s
  | .ok (i, _) => exec i s

/-- While a command waits, what the platform does next comes first, and then the command is taken up again
(44_motion_comp.md R372). DESIGN CHOICE, log 1. -/
def runCommand (w : Command) (rest : List Request) (s : State) : Host.Outcome State Fault Refusal :=
  match decide (s.status = .waiting), rest with
  | true, .platform act :: rest' => .next { s.platformAct act with port := act.keepsWaiting w ++ rest', status := .none }
  | _, _ => settle (runCommandWord w s)

/-- The request at the head of the port. With nothing requested the engine does nothing (70_reset_and_hazards.md
R510). -/
def runRequest (s : State) : Host.Outcome State Fault Refusal :=
  match s.port with
  | [] => .next s
  | .platform act :: rest => .next { s.platformAct act with port := rest }
  | .element ctx :: _ => settle (runElementRequest ctx s)
  | .command w :: rest => runCommand w rest s

end Sys2Proof.Machine
end

