-- ==== Sys2Proof/Machine/Step.lean ====
section
/-! DEFINITION. One step: take the request at the head of the port, decode it and run it (00_scope.md R11, 60_exceptions.md
R483). -/

namespace Sys2Proof.Machine

/-- One step. -/
def step (s : State) : Host.Outcome State Fault Refusal := runRequest s

/-- The state with an instruction of the opcode table placed where the next step takes it (DESIGN CHOICE, log 1). -/
def State.withFetchWord (s : State) (nbits w : Nat) : State := s.placeTableWord nbits w

end Sys2Proof.Machine
end

