-- ==== Sys2Proof/Safety.lean ====
section
/-! DEFINITION. What a good state is, in the terms claims use: every memory in its canonical form, the registers within the
bounds the spec gives them, and the configuration a slice runs with. -/

namespace Sys2Proof.Machine

/-- The canonical form of the neighbor caches. -/
def Caches.wf (c : Caches) : Bool := Cells.wf c.nnz && Cells.wf c.mv && Cells.wf c.ref && Cells.wf c.i4

/-- The canonical form of the table RAMs. -/
def Tables.wf (t : Tables) : Bool :=
  Cells.wf t.scan && Cells.wf t.dequant4 && Cells.wf t.dequant8 && Cells.wf t.chromaQp && Cells.wf t.lumaWeight
    && Cells.wf t.chromaWeight && Cells.wf t.refPoc && Cells.wf t.refLong && Cells.wf t.implicitWeight

/-- The canonical form of the coefficient buffers, whose unlisted elements are 0. -/
def Coefs.wf (c : Coefs) : Bool := Cells.wfZero c.coef && Cells.wfZero c.lumaDc && Cells.wfZero c.chromaDc

/-- The canonical form of three planes. -/
def Planes.wf (p : Planes) : Bool := Cells.wf p.y && Cells.wf p.cb && Cells.wf p.cr

/-- The canonical form of the per-macroblock arrays. -/
def PicArrays.wf (a : PicArrays) : Bool :=
  Cells.wf a.slice && Cells.wf a.mbType && Cells.wf a.qscale && Cells.wf a.cbp && Cells.wf a.nnz && Cells.wf a.mv
    && Cells.wf a.ref && Cells.wf a.i4

/-- The canonical form of the indexed macroblock registers. -/
def Mb.wf (m : Mb) : Bool := Cells.wf m.dir && Cells.wf m.sub && Cells.wf m.i4Mode && Cells.wf m.nnzSum

/-- The canonical form of the memories an engine reaches (20_memory.md R70): bitstream buffer, current picture, reference
store, table RAMs, coefficient buffers; and of its caches, scratch buffers, indexed
registers and latches. -/
def State.memWf (s : State) : Bool :=
  Cells.wf s.bs && s.pic.planes.wf && s.pic.arrays.wf && Cells.wf s.refs && s.tabs.wf && s.coefs.wf && s.cache.wf
    && Cells.wf s.tmp && Cells.wf s.pcm && s.mb.wf && Cells.wf s.level && Cells.wf s.chromaQp && Cells.wf s.nbAvail
    && Cells.wf s.nbIntra

/-- The bit cursor stays inside the buffer (10_state.md R24). -/
def State.cursorOk (s : State) : Bool := decide (s.bitpos ≤ s.bsLen)

/-- Unnamed bits of the control registers read 0 (10_state.md section 5). -/
def State.regsOk (s : State) : Bool :=
  decide (s.cr0.extractLsb' 11 21 = 0 ∧ s.cr3.extractLsb' 7 25 = 0 ∧ s.cr9.extractLsb' 6 26 = 0)

/-- In `RUN` the tables are ready, the configuration is one `SLICE_START` accepts, and the macroblock address lies in the
picture (43_mb_type_motion.md R300, 10_state.md R25). -/
def State.runOk (s : State) : Bool :=
  !s.isRun || (s.vlcReady && s.configSupported && s.sliceLegal
    && decide (s.mbX.toNat < s.picW ∧ s.mbY.toNat < s.picH))

end Sys2Proof.Machine
end

