-- ==== Sys2Proof/Certificates/Slice0/Obligations.lean ====
section
/-! DEFINITION. The statements for the provers, from the numbered rules of spec/. First the words they are said in: each is
written again from the spec's own text where it can be, and says nothing by itself. -/

namespace Sys2Proof.Stated

open Sys2Proof.Machine

/-! ### Words about commands -/

/-- The states a command is accepted in, from the column "state" of 30_encoding.md R102. An element is no command. -/
def accepts (i : Instr) (e : EngState) : Bool :=
  match i with
  | .reset => true
  | .crRead _ => true
  | .vlcInit => decide (e = .idle)
  | .crWrite _ _ => decide (e = .idle)
  | .tabWrite _ _ _ _ => decide (e = .idle)
  | .bsLoad _ => decide (e = .idle)
  | .bsSeek _ => decide (e = .idle)
  | .peek _ => decide (e = .idle ∨ e = .run)
  | .skip _ => decide (e = .idle ∨ e = .run)
  | .read _ => decide (e = .idle ∨ e = .run)
  | .readUe => decide (e = .idle ∨ e = .run)
  | .readSe => decide (e = .idle ∨ e = .run)
  | .readTe _ => decide (e = .idle ∨ e = .run)
  | .align => decide (e = .idle ∨ e = .run)
  | .bitsLeft => decide (e = .idle ∨ e = .run)
  | .readCoeffToken _ => decide (e = .idle ∨ e = .run)
  | .readTrailingSigns => decide (e = .idle ∨ e = .run)
  | .readLevel => decide (e = .idle ∨ e = .run)
  | .readTotalZeros => decide (e = .idle ∨ e = .run)
  | .readRunBefore => decide (e = .idle ∨ e = .run)
  | .decodeResidual _ _ _ _ => decide (e = .idle ∨ e = .run)
  | .implicitWeight => decide (e = .idle ∨ e = .run)
  | .sliceStart _ => decide (e ≠ .run)
  | .sliceEnd => decide (e ≠ .idle)
  | _ => decide (e = .run)

/-- The bits of a command word its opcode does not use (30_encoding.md R100, R102); `none`: a reserved opcode (R104). -/
def unusedBits (op : Nat) : Option Command :=
  if op ∈ [0x01, 0x02, 0x0B, 0x0C, 0x0E, 0x0F, 0x11, 0x12, 0x13, 0x14, 0x20, 0x25, 0x27, 0x31, 0x32, 0x33, 0x55] then
    some 0x00FFFFFFFFFFFFFF#64
  else if 0x40 ≤ op ∧ op ≤ 0x4F then some 0x00FFFFFFFFFFFFFF#64
  else if op ∈ [0x04, 0x08, 0x09, 0x0A, 0x0D, 0x10, 0x21, 0x26, 0x50, 0x60, 0x61, 0x62, 0x63] then
    some 0x0000FFFFFFFFFFFF#64
  else if op ∈ [0x03, 0x38, 0x65, 0x66] then some 0x0000FFFF00000000#64
  else if op ∈ [0x06, 0x07, 0x30, 0x64] then some 0x00FFFFFF00000000#64
  else if op ∈ [0x05, 0x18, 0x22] then some 0
  else if op ∈ [0x23, 0x24] then some 0x0000FF0000000000#64
  else if op ∈ [0x51, 0x52, 0x54] then some 0x00000000FFFFFFFF#64
  else if op = 0x56 then some 0x000000FF00000000#64
  else if op = 0x67 then some 0x000000FFFFFFFFFF#64
  else none

/-- `op` is one of the reserved opcodes R104 lists. -/
def reservedOpcode (op : Nat) : Bool :=
  decide (op = 0x00 ∨ (0x15 ≤ op ∧ op ≤ 0x17) ∨ (0x19 ≤ op ∧ op ≤ 0x1F) ∨ (0x28 ≤ op ∧ op ≤ 0x2F)
    ∨ (0x34 ≤ op ∧ op ≤ 0x37) ∨ (0x39 ≤ op ∧ op ≤ 0x3F) ∨ op = 0x53 ∨ (0x57 ≤ op ∧ op ≤ 0x5F) ∨ 0x68 ≤ op)

/-- The commands that use a VLC table or the level table and are issued on their own (10_state.md R26), and
`SLICE_START`, which R300 lets run only with the tables built. -/
def usesTables (i : Instr) : Bool :=
  match i with
  | .readCoeffToken _ => true
  | .readLevel => true
  | .readTotalZeros => true
  | .readRunBefore => true
  | .decodeResidual _ _ _ _ => true
  | .sliceStart _ => true
  | _ => false

/-- `s` turned away with `IllegalCommand`: the status the host reads, and nothing else (60_exceptions.md R475). -/
def refusedBy (s : State) : State := { s with status := .ended .illegalCommand }

/-- `t` with what `raise k` writes (60_exceptions.md R472). -/
def raised (t : State) (k : ErrKind) : State :=
  { t with
    errKind := k, errMbX := t.mbX, errMbY := t.mbY, errBitpos := BitVec.ofNat 32 t.bitpos
    engine := if t.engine = .run then .error else t.engine
    pic := if t.engine = .run then { t.pic with corrupt := true } else t.pic
    status := .ended k }

/-- `s` with what every ending of a command may write, as `t` has it (60_exceptions.md R470, R472): the status, the error
registers, the engine state and the corrupt flag. -/
def endedAs (s t : State) : State :=
  { s with
    status := t.status, errKind := t.errKind, errMbX := t.errMbX, errMbY := t.errMbY, errBitpos := t.errBitpos
    engine := t.engine, pic := { s.pic with corrupt := t.pic.corrupt } }

/-! ### Words about commands issued one after another -/

/-- Steps that all complete: from a state, a value and the state after them. -/
abbrev Steps := StateT State Option

/-- A value of the state. -/
def view {α : Type} (f : State → α) : Steps α := fun s => some (f s, s)

/-- A value the state holds; `undef` ends the steps. -/
def held {α : Type} (f : State → Option α) : Steps α := fun s => (f s).map fun a => (a, s)

/-- Registers or memories take values. -/
def change (f : State → State) : Steps Unit := fun s => some ((), f s)

/-- Only where the condition holds. -/
def only (c : Bool) : Steps Unit := fun s => if c then some ((), s) else none

/-- One command, issued and completed. Its status is for the host alone. -/
def issue (i : Instr) : Steps Unit := fun s =>
  match exec i s with
  | .next t => if t.status = .ended .ok then some ((), { t with status := s.status }) else none
  | .fault _ => none
  | .refused _ => none

/-- What a reading command gives, taken by its caller: `RES` is as before. -/
def answer (i : Instr) : Steps Word := do
  let old ← view fun s => s.res
  issue i
  let v ← held fun s => s.res
  change fun s => { s with res := old }
  pure v

/-- `ReadBits(n)` (40_bitreader_vlc.md R174). -/
def bitsOf (n : Nat) : Steps Nat := do
  let v ← answer (.read (BitVec.ofNat 8 n))
  pure v.toNat

/-- `ReadUE()` (40_bitreader_vlc.md R175). -/
def ueOf : Steps Nat := do
  let v ← answer .readUe
  pure v.toNat

/-- `ReadSE()` (40_bitreader_vlc.md R176). -/
def seOf : Steps Int := do
  let v ← answer .readSe
  pure v.toInt

/-- `ReadTE(n)` (40_bitreader_vlc.md R177). -/
def teOf (n : Nat) : Steps Nat := do
  let v ← answer (.readTe (BitVec.ofNat 8 n))
  pure v.toNat

/-- The same steps for each element of a list, first first. -/
def forEach {α : Type} : List α → (α → Steps Unit) → Steps Unit
  | [], _ => pure ()
  | a :: rest, f => do
    f a
    forEach rest f

/-- What the steps give for each element of a list, first first. -/
def gather {α β : Type} : List α → (α → Steps β) → Steps (List β)
  | [], _ => pure []
  | a :: rest, f => do
    let b ← f a
    let bs ← gather rest f
    pure (b :: bs)

/-- The steps, where the condition holds. -/
def onlyIf (c : Bool) (p : Steps Unit) : Steps Unit := if c then p else pure ()

/-- The state after the steps, if all of them complete. -/
def afterSteps (p : Steps Unit) (s : State) : Option State := (p.run s).map Prod.snd

end Sys2Proof.Stated

open Sys2Proof Sys2Proof.Machine Sys2Proof.Stated

/-! ### Encoding and decoding -/

/-- Every command whose operands are legal has a word, and the decoder reads that word as it (30_encoding.md R100 to R103).
Marked by the spec as its decision: R100, R101, R102, R103. -/
def Obligations.CommandRoundTrip : Prop :=
  ∀ i : Instr, i.element = none → i.wellFormed = true → ∃ w, encodeWord i = some w ∧ decodeWord w = .ok i

/-- Every bitstream element that a code can spell has a codeword, and where its context expects it the decoder reads the
codeword as it and leaves the bits after it (30_encoding.md R110 to R117).
Marked by the spec as from general knowledge, in whole or in part: R111, R112, R113; derived: R117. -/
def Obligations.ElementRoundTrip : Prop :=
  ∀ (i : Instr) (el : Element) (rest : List Bool), i.element = some el → i.wellFormed = true →
    decodeBits el.ctx (el.bits ++ rest) = .ok (i, rest)

/-- A command word has one meaning: what it decodes to is legal and is encoded by that word alone. -/
def Obligations.DecodedWordIsItsEncoding : Prop :=
  ∀ (w : Command) (i : Instr), decodeWord w = .ok i → i.wellFormed = true ∧ encodeWord i = some w

/-- Words that are no command (30_encoding.md R100, R101, R104): a reserved opcode is turned away with `IllegalCommand`, and nothing
else changes; an opcode of no row decodes to nothing, and neither does a word with a bit set in a field its opcode does
not use. The request leaves the port (log 1).
Marked by the spec as its decision: R100, R101, R104. -/
def Obligations.WordsOfNoCommand : Prop :=
  (∀ (s : State) (w : Command) (rest : List Request), reservedOpcode (opOf w).toNat = true →
    s.port = .command w :: rest → s.status ≠ .waiting →
      step s = .next { refusedBy s with port := rest })
    ∧ ∀ w : Command,
        match unusedBits (opOf w).toNat with
        | some m => w &&& m ≠ 0 → decodeWord w = .error .unusedField
        | none => decodeWord w = .error .unknownOpcode

/-- Words written out from the encoding tables of the spec (30_encoding.md R100 to R103, R111, R141, R145, R149; 43_mb_type_motion.md
R306) decode to what they stand for.
Marked by the spec as from general knowledge, in whole or in part: R111, R141, R145, R149, R306; its decision: R100,
R101, R102, R103. -/
def Obligations.SpecWordsDecode : Prop :=
  decodeWord 0x0100000000000000#64 = .ok .vlcInit
    ∧ decodeWord 0x051A00000000340A#64 = .error .operand
    ∧ decodeWord 0x05011A0000003400#64 = .ok (.tabWrite 1 0x1A 0 13312)
    ∧ decodeWord 0x1801000F80010000#64 = .ok (.decodeResidual 1 0 15 0x80010000#32)
    ∧ decodeWord 0x2208040100000003#64 = .ok (.predMv 8 4 1 3)
    ∧ decodeWord 0x3000000000020003#64 = .ok (.sliceStart 0x00020003#32)
    ∧ decodeWord 0x4B00000000000000#64 = .ok .qpelMc32
    ∧ decodeWord 0x5400101000000000#64 = .ok (.mcPart 0 16 16)
    ∧ decodeWord 0x6703100000000000#64 = .ok (.intraPred 3 16)
    ∧ decodeBits .ue [false, false, true, false, true] = .ok (.elemUe 4, [])
    ∧ decodeBits .se [false, false, true, false, true] = .ok (.elemSe (-2), [])
    ∧ decodeBits (.token 0) [false, false, false, false, true, false, false, true] = .ok (.coeffToken0 3 5, [true])
    ∧ decodeBits (.token 4) [false, true] = .ok (.chromaDcCoeffToken 0 0, [])
    ∧ decodeBits (.zeros 5) [true, true, true] = .ok (.totalZeros5 3, [])
    ∧ decodeBits (.run 3) [true, false] = .ok (.runBefore3 1, [])
    ∧ decodeBits (.mbType .i) [false, false, false, true, false, false, true] = .ok (.iMbType8 .i, [])
    ∧ decodeBits (.mbType .p) [false, false, true, true, false] = .ok (.iMbType0 .p, [])

/-! ### The step -/

/-- A step runs the request at the head of the port (00_scope.md R11, 60_exceptions.md R483): a command word that decodes is
its instruction, one that does not is an `IllegalCommand` (30_encoding.md R101), bits that spell the element asked for
are its instruction; a request that ends leaves the port and one that waits stays. With nothing
requested nothing happens (70_reset_and_hazards.md R510).
The port is the model's (log 1), and so is a request for an element (log 3).
Marked by the spec as its decision: R101, R483, R510. -/
def Obligations.StepRunsTheRequest : Prop :=
  (∀ s : State, s.port = [] → step s = .next s)
    ∧ (∀ (s : State) (w : Command) (i : Instr) (rest : List Request),
        s.port = .command w :: rest → s.status ≠ .waiting → decodeWord w = .ok i →
        step s = match exec i s with
          | .next t => .next (if t.status = .waiting then t else { t with port := t.port.drop 1 })
          | .fault f => .fault f
          | .refused r => .refused r)
    ∧ (∀ (s : State) (w : Command) (e : DecodeError) (rest : List Request),
        s.port = .command w :: rest → s.status ≠ .waiting → decodeWord w = .error e →
        step s = .next { refusedBy s with port := rest })
    ∧ (∀ (s : State) (ctx : ElemCtx) (i : Instr) (r : List Bool) (rest : List Request),
        s.port = .element ctx :: rest → decodeBits ctx s.bitsAhead = .ok (i, r) →
        step s = match exec i s with
          | .next t => .next (if t.status = .waiting then t else { t with port := t.port.drop 1 })
          | .fault f => .fault f
          | .refused r => .refused r)

/-- While a command waits (44_motion_comp.md R372, 60_exceptions.md R482), what the platform does next comes first and the command is
taken up again after it; only power-on ends it. With no act of the platform next the command is tried again. A
producer raises its row counter, which never falls (20_memory.md R83); while a slice is decoded the platform writes
nothing but its own buffer, a reference's samples and its row counter (20_memory.md R77).
When platform and command come is the model's choice (log 1, log 23), and so is what becomes of a new picture and of a
reference put in place during a slice (log 6, log 19).
Marked by the spec as its decision: R77, R482. -/
def Obligations.WaitingCommandIsTakenUpAgain : Prop :=
  (∀ (s : State) (w : Command) (act : PlatformAct) (rest : List Request),
      s.port = .command w :: .platform act :: rest → s.status = .waiting → act ≠ .powerOn →
      step s = .next { s.platformAct act with port := .command w :: rest, status := .none })
    ∧ (∀ (s : State) (w : Command) (rest : List Request),
        s.port = .command w :: .platform .powerOn :: rest → s.status = .waiting →
        step s = .next { s.platformAct .powerOn with port := rest, status := .none })
    ∧ (∀ (s : State) (w : Command) (i : Instr) (rest : List Request), s.port = .command w :: rest →
        (∀ act more, rest ≠ .platform act :: more) → s.status = .waiting → decodeWord w = .ok i →
        step s = match exec i s with
          | .next t => .next (if t.status = .waiting then t else { t with port := t.port.drop 1 })
          | .fault f => .fault f
          | .refused r => .refused r)
    ∧ (∀ (s : State) (l r : Nat) (row : Word) (ref : RefPic), s.refPic l r = some ref →
        ∃ n : Word, n.toInt = max ref.progress.toInt row.toInt
          ∧ (s.platformAct (.progress l r row)).refPic l r = some { ref with progress := n })
    ∧ ∀ (s : State) (act : PlatformAct), s.engine = .run → act ≠ .powerOn →
        s.platformAct act = { s with hostBuf := (s.platformAct act).hostBuf, refs := (s.platformAct act).refs }
        ∧ ∀ l r, match s.refPic l r with
          | none => (s.platformAct act).refPic l r = none
          | some ref => ∃ new, (s.platformAct act).refPic l r = some new ∧ new.arrays = ref.arrays
              ∧ ref.progress.toInt ≤ new.progress.toInt

/-! ### How a command is turned away and how it ends -/

/-- A command in a state that does not accept it ends with `IllegalCommand` and changes nothing (30_encoding.md R102;
in `ERROR` and `DONE` only `RESET`, `CR_READ`, `SLICE_END` and `SLICE_START` are accepted, 60_exceptions.md R478).
Marked by the spec as its decision: R102. -/
def Obligations.AcceptedStates : Prop :=
  ∀ (i : Instr) (s : State), i.element = none → accepts i s.engine = false → exec i s = .next (refusedBy s)

/-- A command with an operand outside its legal set, and a command that uses a table while the tables are not built, ends with
`IllegalCommand` and changes nothing (30_encoding.md R101, R102, R103; 10_state.md R26; 60_exceptions.md R474, R475).
For the bits of the selector that R103 does not name it is the model's choice (log 14). That `READ_LEVEL` is among the
users of a table is read from R26 (log 15).
Marked by the spec as its decision: R101, R102, R103, R475; derived: R474. -/
def Obligations.OperandsAndTablesChecked : Prop :=
  (∀ (i : Instr) (s : State), i.element = none → i.wellFormed = false → exec i s = .next (refusedBy s))
    ∧ ∀ (i : Instr) (s : State), usesTables i = true → s.vlcReady = false → exec i s = .next (refusedBy s)

/-- Every command and every element that gives a next state has ended in one of the ways of 60_exceptions.md R470: it
completed, with status 0; it was turned away, and nothing but the status changed (R475, R476); it raised an error kind, and the
registers R472 names hold where it stood; or it has not ended and waits. The free-value counter of a command that waits is
as before (log 4).
How a command that waits is held is the model's choice (log 23).
Marked by the spec as its decision: R472, R475, R476. -/
def Obligations.EveryEnding : Prop :=
  ∀ (i : Instr) (s t : State), exec i s = .next t →
    t.status = .ended .ok
      ∨ (∃ k, (k = .illegalCommand ∨ k = .unsupported) ∧ t = { s with status := .ended k })
      ∨ (∃ u k, k ≠ .ok ∧ u.engine = s.engine ∧ t = raised u k)
      ∨ (t.status = .waiting ∧ t.engine = s.engine ∧ t.freeCtr = s.freeCtr)

/-! ### Invariants -/

/-- Every memory, cache and table keeps its canonical form in every step. The form, an element listed once and in order, is the
model's own (log 27). -/
def Obligations.StepKeepsCanonicalForm : Prop :=
  ∀ s t : State, s.memWf = true → step s = .next t → t.memWf = true

/-- In every step the bit cursor stays inside the buffer (10_state.md R24), the unnamed bits of the control registers read 0
(10_state.md section 5: R30 to R33, R37; 70_reset_and_hazards.md R512), and while a slice is decoded the tables are ready,
the configuration is one `SLICE_START` accepts and the macroblock address lies in the picture (43_mb_type_motion.md R300,
10_state.md R25).
Marked by the spec as from general knowledge, in whole or in part: R30, R37; its decision: R24, R25, R31, R300, R512. -/
def Obligations.StepKeepsRegistersLegal : Prop :=
  ∀ s t : State, step s = .next t →
    (s.cursorOk = true → t.cursorOk = true) ∧ (s.regsOk = true → t.regsOk = true) ∧ (s.runOk = true → t.runOk = true)

/-- The invariants hold at reset (10_state.md R53). The canonical form of the memories is the model's own (log 27).
Marked by the spec as its decision: R53. -/
def Obligations.ResetMeetsInvariants : Prop :=
  State.reset.memWf = true ∧ State.reset.cursorOk = true ∧ State.reset.regsOk = true ∧ State.reset.runOk = true

/-- The parameters of a run are written by their own commands only (10_state.md R20, 20_memory.md R72, R85): the bitstream by
`BS_LOAD`; the host's control registers by `CR_WRITE` and `RESET`; the table RAMs by `TAB_WRITE`, `IMPLICIT_WEIGHT` and `RESET`;
the reference pictures, what the host sends and the place of the picture's planes by no instruction.
That `IMPLICIT_WEIGHT` writes its table during a slice too is read from 44_motion_comp.md R405 against R85 (log 34).
Marked by the spec as from general knowledge, in whole or in part: R72, R405; its decision: R85. -/
def Obligations.ParametersOnlyByTheirCommands : Prop :=
  ∀ (i : Instr) (s t : State), exec i s = .next t →
    t.refs = s.refs ∧ t.port = s.port ∧ t.hostBuf = s.hostBuf ∧ t.pic.prepared = s.pic.prepared
      ∧ t.pic.planes.gen = s.pic.planes.gen
      ∧ ((∀ len, i ≠ .bsLoad len) → t.bs = s.bs ∧ t.bsGen = s.bsGen ∧ (i ≠ .reset → t.bsLen = s.bsLen))
      ∧ ((∀ r v, i ≠ .crWrite r v) → i ≠ .reset →
          t.cr0 = s.cr0 ∧ t.cr1 = s.cr1 ∧ t.cr2 = s.cr2 ∧ t.cr9 = s.cr9 ∧ t.cr10 = s.cr10 ∧ t.cr11 = s.cr11)
      ∧ ((∀ a b c d, i ≠ .tabWrite a b c d) → i ≠ .implicitWeight → i ≠ .reset → t.tabs = s.tabs)

/-- `VLC_READY` and `PIC_CORRUPT` are never cleared by an instruction (10_state.md R26, R28), `VLC_READY` is set by `VLC_INIT` only,
`PIC_CORRUPT` only by an error in `RUN`. The error registers (R27) change in two ways only: an error that is raised writes them, and
`SLICE_START` and `RESET` clear them. A command that completes, waits or is turned away leaves them. -/
def Obligations.StickyFlags : Prop :=
  ∀ (i : Instr) (s t : State), exec i s = .next t →
    (s.vlcReady = true → t.vlcReady = true) ∧ (i ≠ .vlcInit → t.vlcReady = s.vlcReady)
      ∧ (s.pic.corrupt = true → t.pic.corrupt = true)
      ∧ (t.pic.corrupt = s.pic.corrupt ∨ (s.engine = .run ∧ t.engine = .error ∧ ∃ k, k ≠ .ok ∧ t.status = .ended k))
      ∧ ((t.errKind = s.errKind ∧ t.errMbX = s.errMbX ∧ t.errMbY = s.errMbY ∧ t.errBitpos = s.errBitpos)
        ∨ (∃ k, k ≠ .ok ∧ t.status = .ended k ∧ t.errKind = k ∧ t.errMbX = t.mbX ∧ t.errMbY = t.mbY
          ∧ t.errBitpos = BitVec.ofNat 32 t.bitpos)
        ∨ ((i = .reset ∨ ∃ d, i = .sliceStart d) ∧ t.status = .ended .ok
          ∧ t.errKind = .ok ∧ t.errMbX = 0 ∧ t.errMbY = 0 ∧ t.errBitpos = 0))
      ∧ ((t.status = .ended .ok ∨ t.status = .waiting ∨ t = { s with status := t.status }) →
        i ≠ .reset → (∀ d, i ≠ .sliceStart d) →
          t.errKind = s.errKind ∧ t.errMbX = s.errMbX ∧ t.errMbY = s.errMbY ∧ t.errBitpos = s.errBitpos)

/-! ### Reset and the host's commands -/

/-- Power-on (10_state.md R53, 70_reset_and_hazards.md R510).
`undef` is an absent value (log 11).
Marked by the spec as its decision: R53, R510. -/
def Obligations.PowerOnValues : Prop :=
  let r := State.reset
  r.vlcReady = false ∧ r.engine = .idle ∧ r.errKind = .ok ∧ r.errMbX = 0 ∧ r.errMbY = 0 ∧ r.errBitpos = 0
    ∧ r.bitpos = 0 ∧ r.bsLen = 0 ∧ r.mbX = 0 ∧ r.mbY = 0
    ∧ r.cr0 = 0x00000421#32 ∧ r.cr1 = 0x00010001#32 ∧ r.cr2 = 0x00000002#32 ∧ r.cr3 = 0 ∧ r.skipRun.toInt = -1
    ∧ r.cr9 = 0 ∧ r.cr10 = 0 ∧ r.cr11 = 0
    ∧ (∀ k, r.coefAt k = 0) ∧ (∀ k, r.lumaDcAt k = 0) ∧ (∀ c k, r.chromaDcAt c k = 0)
    ∧ r.totalCoeff = none ∧ r.trailingOnes = none ∧ r.level = [] ∧ r.levelIdx = none ∧ r.suffixLength = none
    ∧ r.zerosLeft = none ∧ r.runBefore = none ∧ r.maxCoeff = none ∧ r.blk = none
    ∧ r.mb = Mb.undef ∧ r.pmx = none ∧ r.pmy = none ∧ r.pnnz = none ∧ r.pmode = none ∧ r.res = none
    ∧ r.mc = McRegs.undef ∧ r.tmp = [] ∧ r.pcm = [] ∧ r.nbAvail = [] ∧ r.nbIntra = [] ∧ r.chromaQp = []
    ∧ r.cache = Caches.undef ∧ r.tabs = Tables.undef

/-- `RESET` (70_reset_and_hazards.md R511), in every state of the engine: the state of power-on, but `VLC_READY`, the memories, the
picture with its corrupt flag, and what the model adds are as before. `VLC_INIT` in `IDLE` sets `VLC_READY`, and a second one
does nothing; in every other state it is turned away (40_bitreader_vlc.md R170).
What happens to the fields the model adds is its choice (log 29), and so are constant tables (log 30).
Marked by the spec as its decision: R511. -/
def Obligations.ResetAndVlcInit : Prop :=
  ∀ s : State,
    exec .reset s = .next
      { State.reset with
        vlcReady := s.vlcReady, bs := s.bs, bsGen := s.bsGen, pic := s.pic, refs := s.refs
        port := s.port, hostBuf := s.hostBuf, freeCtr := s.freeCtr, status := .ended .ok }
    ∧ exec .vlcInit s = .next
        (if s.engine = .idle then { s with vlcReady := true, status := .ended .ok } else refusedBy s)

/-- `BS_LOAD` and `BS_SEEK` in `IDLE` (40_bitreader_vlc.md R171, 20_memory.md R72): the length and the cursor, and bit `k` of the bitstream
is bit 7 - k mod 8 of byte k div 8 of the host's buffer; a seek past the end is turned away.
The host's buffer and the counter are the model's (log 4, log 5).
Marked by the spec as from general knowledge, in whole or in part: R72; its decision: R171. -/
def Obligations.BitstreamLoadAndSeek : Prop :=
  ∀ (s : State) (d : Word), s.engine = .idle →
    (d.toNat < 2 ^ 31 → ∃ t, exec (.bsLoad d) s = .next t
      ∧ t = { s with
          bs := t.bs, bsGen := t.bsGen, freeCtr := s.freeCtr + 1, bsLen := d.toNat, bitpos := 0, status := .ended .ok }
      ∧ ∀ k (h : k / 8 < s.hostBuf.length), k < d.toNat → t.bsBit k = s.hostBuf[k / 8].getLsbD (7 - k % 8))
    ∧ exec (.bsSeek d) s = .next
        (if d.toNat ≤ s.bsLen then { s with bitpos := d.toNat, status := .ended .ok } else refusedBy s)

/-- `CR_WRITE` (70_reset_and_hazards.md R512): in `IDLE` the register takes the value, its unnamed bits forced to 0; every other
register number, and every other state, is turned away.
Marked by the spec as its decision: R512. -/
def Obligations.ControlRegisterWrite : Prop :=
  ∀ (s : State) (a : BitVec 8) (d : Word), exec (.crWrite a d) s = .next (
    if s.engine ≠ .idle then refusedBy s else match a.toNat with
    | 0 => { s with cr0 := 0#21 ++ d.extractLsb' 0 11, status := .ended .ok }
    | 1 => { s with cr1 := d, status := .ended .ok }
    | 2 => { s with cr2 := d, status := .ended .ok }
    | 3 => { s with cr3 := 0#25 ++ d.extractLsb' 0 7, status := .ended .ok }
    | 9 => { s with cr9 := 0#26 ++ d.extractLsb' 0 6, status := .ended .ok }
    | 10 => { s with cr10 := d, status := .ended .ok }
    | 11 => { s with cr11 := d, status := .ended .ok }
    | _ => refusedBy s)

/-- `CR_READ` in every state (70_reset_and_hazards.md R513): `RES` takes the register, and a read has no other effect; a
number above 13 is turned away. Registers 4, 6 and 7 are put together from their fields (10_state.md R34, R36).
Marked by the spec as its decision: R513. -/
def Obligations.ControlRegisterRead : Prop :=
  ∀ (s : State) (a : BitVec 8),
    (13 < a.toNat → exec (.crRead a) s = .next (refusedBy s))
    ∧ (a.toNat ≤ 13 → ∃ v : Word, exec (.crRead a) s = .next { s with res := some v, status := .ended .ok }
      ∧ match a.toNat with
        | 0 => v = s.cr0
        | 1 => v = s.cr1
        | 2 => v = s.cr2
        | 3 => v = s.cr3
        | 4 => v.extractLsb' 0 16 = s.mbX ∧ v.extractLsb' 16 16 = s.mbY
        | 5 => v = s.skipRun
        | 6 => v.extractLsb' 0 2 = s.engine.code ∧ v.extractLsb' 4 4 = s.errKind.code ∧ v.getLsbD 8 = s.vlcReady
            ∧ v.getLsbD 9 = s.pic.corrupt ∧ v.extractLsb' 2 2 = 0 ∧ v.extractLsb' 10 22 = 0
        | 7 => v.extractLsb' 0 16 = s.errMbX ∧ v.extractLsb' 16 16 = s.errMbY
        | 8 => v = s.errBitpos
        | 9 => v = s.cr9
        | 10 => v = s.cr10
        | 11 => v = s.cr11
        | 12 => v = BitVec.ofNat 32 s.bsLen
        | _ => v = BitVec.ofNat 32 s.bitpos)

/-- `TAB_WRITE` in `IDLE` (70_reset_and_hazards.md R514): one element of one table takes the value, in the table's own width, and every
other element of every table is as before. An index outside the table or a value outside its range is turned away.
The index formula against the rule's example, `qp` above `MAX_QP` and the low bits of a signed value are read into
the rule (log 13).
Marked by the spec as its decision: R514. -/
def Obligations.TableWrite : Prop :=
  ∀ (s : State) (a b c : BitVec 8) (d : Word), s.engine = .idle → s.bitDepthLegal = true →
    let n := 256 * b.toNat + c.toNat
    exec (.tabWrite a b c d) s = .next (
      match a.toNat with
      | 0 => if n < 8 * 64 ∧ d.toNat ≤ 63 then
          { s with tabs := { s.tabs with scan := Cells.put s.tabs.scan n (d.setWidth 6) }, status := .ended .ok }
        else refusedBy s
      | 1 => if n < 6 * 128 * 16 ∧ n / 16 % 128 ≤ s.maxQp then
          { s with tabs := { s.tabs with dequant4 := Cells.put s.tabs.dequant4 n d }, status := .ended .ok }
        else refusedBy s
      | 2 => if n < 6 * 128 * 64 ∧ n / 64 % 128 ≤ s.maxQp then
          { s with tabs := { s.tabs with dequant8 := Cells.put s.tabs.dequant8 n d }, status := .ended .ok }
        else refusedBy s
      | 3 => if n < 2 * 128 ∧ n % 128 ≤ s.maxQp ∧ d.toNat ≤ s.maxQp then
          { s with tabs := { s.tabs with chromaQp := Cells.put s.tabs.chromaQp n (d.setWidth 7) }, status := .ended .ok }
        else refusedBy s
      | 4 => if n < 2 * 32 * 2 then
          { s with tabs := { s.tabs with lumaWeight := Cells.put s.tabs.lumaWeight n (d.setWidth 16) }, status := .ended .ok }
        else refusedBy s
      | 5 => if n < 2 * 32 * 2 * 2 then
          { s with tabs := { s.tabs with chromaWeight := Cells.put s.tabs.chromaWeight n (d.setWidth 16) }, status := .ended .ok }
        else refusedBy s
      | 6 => if n < 2 * 32 then
          { s with tabs := { s.tabs with refPoc := Cells.put s.tabs.refPoc n d }, status := .ended .ok }
        else refusedBy s
      | 7 => if n < 2 * 32 ∧ d.toNat ≤ 1 then
          { s with tabs := { s.tabs with refLong := Cells.put s.tabs.refLong n (decide (d = 1)) }, status := .ended .ok }
        else refusedBy s
      | 8 => if n < 32 * 32 then
          { s with
            tabs := { s.tabs with
              implicitWeight := Cells.put s.tabs.implicitWeight n (d.extractLsb' 0 8) }
            status := .ended .ok }
        else refusedBy s
      | _ => refusedBy s)

/-! ### The bit reader -/

/-- The engine accepts a bit reader or residual command: it is in `IDLE` or in `RUN`. -/
def Sys2Proof.Stated.reading (s : State) : Bool := decide (s.engine = .idle ∨ s.engine = .run)

/-- `x` is the number the `n` bits of the bitstream from `pos` on spell, first bit most significant (30_encoding.md R110). -/
def Sys2Proof.Stated.spells (s : State) (pos n x : Nat) : Prop :=
  x < 2 ^ n ∧ ∀ j, j < n → x.testBit (n - 1 - j) = s.bsBit (pos + j)

/-- `k` zero bits from the cursor on, then a one bit, all inside the buffer (30_encoding.md R111, R115). -/
def Sys2Proof.Stated.zerosThenOne (s : State) (k : Nat) : Bool :=
  (List.range k).all (fun j => !s.bsBit (s.bitpos + j)) && s.bsBit (s.bitpos + k)

/-- The `n` bits from the cursor on are zeros inside the buffer. -/
def Sys2Proof.Stated.zerosAhead (s : State) (n : Nat) : Bool :=
  (List.range n).all (fun j => !s.bsBit (s.bitpos + j)) && decide (s.bitpos + n ≤ s.bsLen)

/-- `PEEK n`, `SKIP n`, `ALIGN` (40_bitreader_vlc.md R172, R173, R178): `RES` takes the next `n` bits, first bit most significant, and 0
for bits past the end; the cursor moves by `n`, or, where fewer bits remain, stays with `InsufficientBits`; `ALIGN` moves it to the next
multiple of 8 at or after it, or to the end if that is nearer.
Marked by the spec as from general knowledge, in whole or in part: R178; its decision: R172, R173. -/
def Obligations.PeekSkipAndAlign : Prop :=
  ∀ (s : State) (n : BitVec 8), reading s = true →
    (n.toNat ≤ 32 →
      (∃ v : Word, spells s s.bitpos n.toNat v.toNat ∧ exec (.peek n) s = .next { s with res := some v, status := .ended .ok })
      ∧ exec (.skip n) s = .next
          (if s.bitpos + n.toNat ≤ s.bsLen then { s with bitpos := s.bitpos + n.toNat, status := .ended .ok }
          else raised s .insufficientBits))
    ∧ (∀ k, s.bsLen ≤ k → s.bsBit k = false)
    ∧ exec .align s = .next { s with
        bitpos := if s.bsLen < (s.bitpos + 7) / 8 * 8 then s.bsLen else (s.bitpos + 7) / 8 * 8, status := .ended .ok }

/-- `READ n` (40_bitreader_vlc.md R174): the next `n` bits, first bit most significant, and the cursor moves by `n`; where fewer remain,
`InsufficientBits`, nothing taken. `READ_TE` (R177): nothing read and 0 for one candidate, one bit inverted for two, else `READ_UE`.
`BITS_LEFT` (R179): the bits between cursor and end. -/
def Obligations.ReadAndBitsLeft : Prop :=
  ∀ s : State, reading s = true →
    (∀ (n : BitVec 8) (v : Word), n.toNat ≤ 32 →
      (s.bitpos + n.toNat ≤ s.bsLen → spells s s.bitpos n.toNat v.toNat →
        exec (.read n) s = .next { s with bitpos := s.bitpos + n.toNat, res := some v, status := .ended .ok })
      ∧ (s.bsLen < s.bitpos + n.toNat → exec (.read n) s = .next (raised s .insufficientBits)))
    ∧ exec (.readTe 1) s = .next { s with res := some 0, status := .ended .ok }
    ∧ exec (.readTe 2) s = .next
        (if s.bitpos + 1 ≤ s.bsLen then
          { s with bitpos := s.bitpos + 1, res := some (if s.bsBit s.bitpos then 0 else 1), status := .ended .ok }
        else raised s .insufficientBits)
    ∧ (∀ range : BitVec 8, 3 ≤ range.toNat → range.toNat ≤ 32 → exec (.readTe range) s = exec .readUe s)
    ∧ exec .bitsLeft s = .next { s with res := some (BitVec.ofNat 32 (s.bsLen - s.bitpos)), status := .ended .ok }

/-- `READ_UE` (40_bitreader_vlc.md R175): `k` zeros, a one and `k` more bits `x` give 2^k - 1 + x; 32 zeros are `CorruptedSyntax`
with the cursor after them; where the bits end before the one, or inside the `k` bits, `InsufficientBits` with the
cursor where the failing read stood (60_exceptions.md R473). `READ_SE` (R176): the same, and the value `v` stands for (v + 1) / 2 if
odd, -(v / 2) if even.
Marked by the spec as from general knowledge, in whole or in part: R175, R176; its decision: R473. -/
def Obligations.ExpGolomb : Prop :=
  ∀ s : State, reading s = true →
    (∀ k x v, k ≤ 31 → zerosThenOne s k = true → s.bitpos + 2 * k + 1 ≤ s.bsLen → spells s (s.bitpos + k + 1) k x →
      v = 2 ^ k - 1 + x →
      exec .readUe s = .next
        { s with bitpos := s.bitpos + 2 * k + 1, res := some (BitVec.ofNat 32 v), status := .ended .ok }
      ∧ exec .readSe s = .next
        { s with
          bitpos := s.bitpos + 2 * k + 1
          res := some (BitVec.ofInt 32 (if v % 2 = 1 then ((v : Int) + 1) / 2 else -((v : Int) / 2))), status := .ended .ok })
    ∧ (zerosAhead s 32 = true → exec .readUe s = .next (raised { s with bitpos := s.bitpos + 32 } .corruptedSyntax))
    ∧ (∀ k, k ≤ 31 → s.bitpos + k = s.bsLen → zerosAhead s k = true →
      exec .readUe s = .next (raised { s with bitpos := s.bsLen } .insufficientBits))
    ∧ (∀ k, k ≤ 31 → zerosThenOne s k = true → s.bsLen < s.bitpos + 2 * k + 1 →
      exec .readUe s = .next (raised { s with bitpos := s.bitpos + k + 1 } .insufficientBits))
    ∧ ∀ u, exec .readUe s = .next u → u.status ≠ .ended .ok → exec .readSe s = .next u

/-! ### The residual block decoder -/

/-- The bits from the cursor on, padded with zeros, begin with codeword `c` (40_bitreader_vlc.md R180). -/
def Sys2Proof.Stated.codeNext (s : State) (c : Vlc.Code) : Bool :=
  (List.range c.len).all fun j => c.bits.testBit (c.len - 1 - j) == s.bsBit (s.bitpos + j)

/-- `MAX_COEFF` of a selector (41_cavlc_residual.md R206). -/
def Sys2Proof.Stated.classSize (sel : Nat) : Nat := if sel ≤ 3 then 16 else if sel = 4 then 4 else 8

/-- `READ_COEFF_TOKEN` (41_cavlc_residual.md R206, 40_bitreader_vlc.md R180): the codeword that the next bits spell gives the
two counts, `RES`, and moves the cursor by its length; a codeword that runs past the end is `InsufficientBits`, bits that
spell none are `CorruptedSyntax`, and neither consumes a bit. Issued alone it latches `MAX_COEFF` and leaves `BLK` `undef`.
That both are set before a look-up that fails is the model's choice (log 15).
Marked by the spec as its decision: R180. -/
def Obligations.CoeffToken : Prop :=
  ∀ (s : State) (sel : BitVec 8), reading s = true → s.vlcReady = true → sel.toNat ≤ 5 →
    (∀ c ∈ Vlc.token sel.toNat, codeNext s c = true →
      exec (.readCoeffToken sel) s = .next (
        let u := { s with maxCoeff := some (BitVec.ofNat 5 (classSize sel.toNat)), blk := none }
        if s.bitpos + c.len ≤ s.bsLen then
          { u with
            bitpos := s.bitpos + c.len
            trailingOnes := some (BitVec.ofNat 2 (c.sym % 4)), totalCoeff := some (BitVec.ofNat 5 (c.sym / 4))
            res := some (BitVec.ofNat 32 c.sym), status := .ended .ok }
        else raised u .insufficientBits))
    ∧ ((∀ c ∈ Vlc.token sel.toNat, codeNext s c = false) →
      exec (.readCoeffToken sel) s = .next
        (raised { s with maxCoeff := some (BitVec.ofNat 5 (classSize sel.toNat)), blk := none } .corruptedSyntax))

/-- `READ_TRAILING_SIGNS` (41_cavlc_residual.md R208): one sign bit per trailing one, 0 for +1 and 1 for -1, the level index and the
first suffix length. Without 1 ≤ `TOTAL_COEFF` ≤ `MAX_COEFF` it is turned away.
Marked by the spec as from general knowledge, in whole or in part: R208. -/
def Obligations.TrailingSigns : Prop :=
  ∀ (s : State) (total mc : BitVec 5) (n : BitVec 2), reading s = true →
    s.totalCoeff = some total → s.maxCoeff = some mc →
    (s.trailingOnes = some n → 1 ≤ total.toNat → total.toNat ≤ mc.toNat → s.bitpos + n.toNat ≤ s.bsLen →
      ∃ levels : Cells Word,
        exec .readTrailingSigns s = .next { s with
          bitpos := s.bitpos + n.toNat, level := levels, levelIdx := some (BitVec.ofNat 5 n.toNat)
          suffixLength := some (if 10 < total.toNat ∧ n.toNat < 3 then 1 else 0)
          res := some (BitVec.ofNat 32 n.toNat), status := .ended .ok }
        ∧ ∀ k, Cells.look levels k =
            if k < n.toNat then some (if s.bsBit (s.bitpos + k) then -1 else 1) else Cells.look s.level k)
    ∧ (total.toNat = 0 ∨ mc.toNat < total.toNat → exec .readTrailingSigns s = .next (refusedBy s))

/-- What a prefix `p` stands for at suffix length `sl` (41_cavlc_residual.md R213): the base and the number of suffix bits. -/
def Sys2Proof.Stated.levelCode (sl p : Nat) : Nat × Nat :=
  if p < 14 then (p * 2 ^ sl, sl)
  else if p = 14 then (if sl = 0 then (14, 4) else (14 * 2 ^ sl, sl))
  else if p = 15 then (if sl = 0 then (30, 12) else (15 * 2 ^ sl, 12))
  else (15 * 2 ^ sl + (if sl = 0 then 15 else 0) + 2 ^ (p - 3) - 4096, p - 3)

/-- The level of a code (41_cavlc_residual.md R211): even codes 1, 2, 3, …, odd ones -1, -2, -3, …. -/
def Sys2Proof.Stated.signedLevel (code : Nat) : Int :=
  if code % 2 = 0 then (code / 2 + 1 : Nat) else -((code / 2 + 1 : Nat) : Int)

/-- The suffix length after a level (41_cavlc_residual.md R210, 10_state.md R48). -/
def Sys2Proof.Stated.suffixAfter (sl magnitude : Nat) : Nat :=
  match sl with
  | 0 => if 3 < magnitude then 2 else 1
  | 1 => if 3 < magnitude then 2 else 1
  | 2 => if 6 < magnitude then 3 else 2
  | 3 => if 12 < magnitude then 4 else 3
  | 4 => if 24 < magnitude then 5 else 4
  | 5 => if 48 < magnitude then 6 else 5
  | n => n

/-- `READ_LEVEL` (41_cavlc_residual.md R210, R211, R213): the level that prefix and suffix spell, two codes further for the first
level after fewer than three trailing ones; the level takes its place, the index advances and the suffix length follows
the level's magnitude. A prefix of more than 28 zeros is `InvalidLevelPrefix`, the prefix consumed and no suffix
bit (R213, 40_bitreader_vlc.md R181); the command is turned away when `LEVEL_IDX` has reached `TOTAL_COEFF`.
Marked by the spec as from general knowledge, in whole or in part: R210, R211, R213. -/
def Obligations.ReadLevelValue : Prop :=
  ∀ (s : State) (idx total : BitVec 5) (n : BitVec 2) (sl : BitVec 3),
    reading s = true → s.vlcReady = true → s.levelIdx = some idx → s.totalCoeff = some total →
    s.trailingOnes = some n → s.suffixLength = some sl → total.toNat ≤ 16 → sl.toNat ≤ 6 →
    (∀ (p x : Nat) (v : Int), idx.toNat < total.toNat → p ≤ 28 → zerosThenOne s p = true →
      s.bitpos + p + 1 + (levelCode sl.toNat p).2 ≤ s.bsLen →
      spells s (s.bitpos + p + 1) (levelCode sl.toNat p).2 x →
      v = signedLevel ((levelCode sl.toNat p).1 + x + if idx.toNat = n.toNat ∧ n.toNat < 3 then 2 else 0) →
      exec .readLevel s = .next { s with
        bitpos := s.bitpos + p + 1 + (levelCode sl.toNat p).2
        level := Cells.put s.level idx.toNat (BitVec.ofInt 32 v)
        levelIdx := some (BitVec.ofNat 5 (idx.toNat + 1))
        suffixLength := some (BitVec.ofNat 3 (suffixAfter sl.toNat v.natAbs))
        res := some (BitVec.ofInt 32 v), status := .ended .ok })
    ∧ (∀ p, idx.toNat < total.toNat → 29 ≤ p → p ≤ 31 → zerosThenOne s p = true → s.bitpos + p + 1 ≤ s.bsLen →
      exec .readLevel s = .next (raised { s with bitpos := s.bitpos + p + 1 } .invalidLevelPrefix))
    ∧ (idx.toNat < total.toNat → zerosAhead s 32 = true →
      exec .readLevel s = .next (raised { s with bitpos := s.bitpos + 32 } .invalidLevelPrefix))
    ∧ (total.toNat ≤ idx.toNat → exec .readLevel s = .next (refusedBy s))

/-- The table of `READ_TOTAL_ZEROS` (41_cavlc_residual.md R218). -/
def Sys2Proof.Stated.zerosTable (mc total : Nat) : List Vlc.Code :=
  if mc = 4 then Vlc.chromaDcZeros total else if mc = 8 then Vlc.chroma422DcZeros total else Vlc.zeros total

/-- `READ_TOTAL_ZEROS` (41_cavlc_residual.md R218): with no coefficient missing 0 and no bit read, else the codeword of the table of
`TOTAL_COEFF` and the block class; no codeword is `CorruptedSyntax`, one that runs past the end `InsufficientBits`.
That it is turned away without 1 ≤ `TOTAL_COEFF` ≤ `MAX_COEFF` is the model's choice (log 15). -/
def Obligations.TotalZeros : Prop :=
  ∀ (s : State) (total mc : BitVec 5), reading s = true → s.vlcReady = true →
    s.totalCoeff = some total → s.maxCoeff = some mc →
    (1 ≤ total.toNat → total = mc → exec .readTotalZeros s = .next
      { s with zerosLeft := some 0, res := some 0, status := .ended .ok })
    ∧ (∀ c ∈ zerosTable mc.toNat total.toNat, 1 ≤ total.toNat → total.toNat < mc.toNat → mc.toNat ≤ 16 →
      codeNext s c = true → exec .readTotalZeros s = .next
        (if s.bitpos + c.len ≤ s.bsLen then
          { s with
            bitpos := s.bitpos + c.len, zerosLeft := some (BitVec.ofNat 6 c.sym)
            res := some (BitVec.ofNat 32 c.sym), status := .ended .ok }
        else raised s .insufficientBits))
    ∧ ((∀ c ∈ zerosTable mc.toNat total.toNat, codeNext s c = false) → 1 ≤ total.toNat → total.toNat < mc.toNat →
      mc.toNat ≤ 16 → exec .readTotalZeros s = .next (raised s .corruptedSyntax))
    ∧ (total.toNat = 0 ∨ mc.toNat < total.toNat → exec .readTotalZeros s = .next (refusedBy s))

/-- `READ_RUN_BEFORE` (41_cavlc_residual.md R220, R224): the codeword of the table of `ZEROS_LEFT` is taken off it; below 0 it is
`NegativeZerosLeft`, the run and the negative count written and `RES` not. No codeword is `CorruptedSyntax`, one that runs past the end
`InsufficientBits`. It is turned away when no zero is left. -/
def Obligations.RunBefore : Prop :=
  ∀ (s : State) (z : BitVec 6), reading s = true → s.vlcReady = true → s.zerosLeft = some z →
    (∀ c ∈ Vlc.run (if z.toInt < 7 then z.toInt.toNat else 7), 0 < z.toInt → codeNext s c = true →
      exec .readRunBefore s = .next (
        let u := { s with
          bitpos := s.bitpos + c.len, runBefore := some (BitVec.ofNat 4 c.sym)
          zerosLeft := some (BitVec.ofInt 6 (z.toInt - c.sym)) }
        if s.bsLen < s.bitpos + c.len then raised s .insufficientBits
        else if (c.sym : Int) ≤ z.toInt then { u with res := some (BitVec.ofNat 32 c.sym), status := .ended .ok }
        else raised u .negativeZerosLeft))
    ∧ ((∀ c ∈ Vlc.run (if z.toInt < 7 then z.toInt.toNat else 7), codeNext s c = false) → 0 < z.toInt →
      exec .readRunBefore s = .next (raised s .corruptedSyntax))
    ∧ (z.toInt ≤ 0 → exec .readRunBefore s = .next (refusedBy s))

/-- The table of a block's coefficient token (41_cavlc_residual.md R205): by class, or by the count predicted from the left and
top slots (42_neighbor_cache.md R264), which must be counts a cache holds. -/
def Sys2Proof.Stated.tokenTable (s : State) (blk mc : Nat) : Option (List Vlc.Code) :=
  if mc = 4 then some (Vlc.token 4)
  else if mc = 8 then some (Vlc.token 5)
  else
    let n := if blk = 24 then 0 else blk
    match Cells.look s.cache.nnz (scan8 n - 1), Cells.look s.cache.nnz (scan8 n - 8) with
    | some l, some t =>
      let p := (if l.toNat + t.toNat < 64 then (l.toNat + t.toNat + 1) / 2 else l.toNat + t.toNat) % 32
      if p ≤ 1 then some (Vlc.token 0) else if p ≤ 3 then some (Vlc.token 1)
      else if p ≤ 7 then some (Vlc.token 2) else if p ≤ 16 then some (Vlc.token 3) else none
    | _, _ => none

/-- The state after a block of `n` coefficients, but for the coefficient buffers, the cursor and `PNNZ`: the count in its slot and in
`RES`, and the block's registers `undef` (41_cavlc_residual.md R200, R204). -/
def Sys2Proof.Stated.blockDone (s : State) (blk n : Nat) : State :=
  { s with
    cache := { s.cache with nnz := Cells.put s.cache.nnz (scan8 blk) (BitVec.ofNat 8 n) }
    totalCoeff := none, trailingOnes := none, level := [], levelIdx := none, suffixLength := none
    zerosLeft := none, runBefore := none, maxCoeff := none, blk := none
    res := some (BitVec.ofNat 32 n), status := .ended .ok }

/-- `DECODE_RESIDUAL` of a block with no coefficient (41_cavlc_residual.md R200, R204, R205): only the token is consumed, the count 0
goes to the block's slot and to `RES`, the coefficients stay as they are and the block's registers are `undef`.
Marked by the spec as from general knowledge, in whole or in part: R205. -/
def Obligations.ResidualOfEmptyBlock : Prop :=
  ∀ (s : State) (blk scan mc : BitVec 8) (d : Word) (table : List Vlc.Code) (c : Vlc.Code),
    reading s = true → s.vlcReady = true → s.bitDepthLegal = true →
    Instr.wellFormed (.decodeResidual blk scan mc d) = true → (d.extractLsb' 0 7).toNat ≤ s.maxQp →
    tokenTable s blk.toNat mc.toNat = some table → c ∈ table → c.sym = 0 → codeNext s c = true →
    s.bitpos + c.len ≤ s.bsLen → ∃ p : Option (BitVec 5),
      exec (.decodeResidual blk scan mc d) s = .next { blockDone s blk.toNat 0 with bitpos := s.bitpos + c.len, pnnz := p }
      ∧ (mc.toNat ≤ 8 → p = s.pnnz)

/-- `DECODE_RESIDUAL` of a luma block with one coefficient ±1 and a quantizer (41_cavlc_residual.md R222, R223; 30_encoding.md R103): the
stored value is the level times the factor at its raster index, plus 32, shifted right by 6.
Marked by the spec as from general knowledge, in whole or in part: R223; its decision: R103. -/
def Obligations.ResidualDequantizes : Prop :=
  ∀ (s : State) (blk scan : BitVec 8) (m qp off k : Nat) (d : Word) (token c : Vlc.Code) (table : List Vlc.Code)
      (idx : BitVec 6) (factor : Word),
    reading s = true → s.vlcReady = true → s.bitDepthLegal = true → blk.toNat ≤ 15 → scan.toNat ≤ 7 →
    m ≤ 5 → qp ≤ s.maxQp → off ≤ 48 → d = BitVec.ofNat 32 (2 ^ 31 + 2 ^ 24 * m + 2 ^ 16 * off + qp) →
    tokenTable s blk.toNat 16 = some table → token ∈ table → token.sym = 5 → codeNext s token = true →
    c ∈ Vlc.zeros 1 → s.bitpos + token.len + 1 + c.len ≤ s.bsLen →
    codeNext { s with bitpos := s.bitpos + token.len + 1 } c = true → k = scan.toNat * 64 + off + c.sym →
    Cells.look s.tabs.scan k = some idx → idx.toNat ≤ 15 →
    Cells.look s.tabs.dequant4 ((m * 128 + qp) * 16 + idx.toNat) = some factor → factor.toNat < 2 ^ 30 →
    ∃ p, exec (.decodeResidual blk scan 16 d) s = .next
      { blockDone s blk.toNat 1 with
        bitpos := s.bitpos + token.len + 1 + c.len, pnnz := p
        coefs := { s.coefs with
          coef := Cells.putZero s.coefs.coef (16 * blk.toNat + idx.toNat)
            (s.wrapCoef (((if s.bsBit (s.bitpos + token.len) then -(factor.toNat : Int) else factor.toNat) + 32) / 64)) } }

/-- The operands of a `DECODE_RESIDUAL` (41_cavlc_residual.md R200), its selector field by field (30_encoding.md R103). -/
structure Sys2Proof.Stated.ResidualOperands where
  blk : Nat
  scan : Nat
  mc : Nat
  valid : Bool
  is8 : Bool
  dest8 : Bool
  m : Nat
  off : Nat
  qp : Nat

/-- The operands of a command word. -/
def Sys2Proof.Stated.residualOperands (blk scan mc : BitVec 8) (d : Word) : ResidualOperands :=
  ⟨blk.toNat, scan.toNat, mc.toNat, d.getLsbD 31, d.getLsbD 30, d.getLsbD 29, (d.extractLsb' 24 3).toNat,
    (d.extractLsb' 16 6).toNat, (d.extractLsb' 0 7).toNat⟩

/-- The index range of a scan entry (41_cavlc_residual.md R200). -/
def Sys2Proof.Stated.ResidualOperands.size (r : ResidualOperands) : Nat :=
  if r.dest8 then 64 else if r.blk ≤ 24 then 16 else r.mc

/-- `qmul[idx]` (30_encoding.md R103). -/
def Sys2Proof.Stated.ResidualOperands.factor (r : ResidualOperands) (idx : Nat) : Steps Nat :=
  held fun s => Option.map BitVec.toNat (
    if r.is8 then Cells.look s.tabs.dequant8 ((r.m * 128 + r.qp) * 64 + idx)
    else if idx ≤ 15 then Cells.look s.tabs.dequant4 ((r.m * 128 + r.qp) * 16 + idx)
    else none)

/-- `dest[idx] <- v` (41_cavlc_residual.md R200, R223). -/
def Sys2Proof.Stated.ResidualOperands.put (r : ResidualOperands) (idx : Nat) (v : Int) : Steps Unit :=
  change fun s =>
    if r.blk = 24 then { s with coefs := { s.coefs with lumaDc := Cells.putZero s.coefs.lumaDc idx (s.wrapCoef v) } }
    else if 25 ≤ r.blk then
      { s with coefs := { s.coefs with
        chromaDc := Cells.putZero s.coefs.chromaDc (8 * (r.blk - 25) + idx) (s.wrapCoef v) } }
    else
      { s with coefs := { s.coefs with
        coef := Cells.putZero s.coefs.coef ((if r.dest8 then 64 * (r.blk / 4) else 16 * r.blk) + idx) (s.wrapCoef v) } }

/-- `Store(pos, v)` (41_cavlc_residual.md R223). -/
def Sys2Proof.Stated.ResidualOperands.store (r : ResidualOperands) (pos : Nat) (v : Int) : Steps Unit := do
  let idx ← held fun s => (Cells.look s.tabs.scan (64 * r.scan + (r.off + pos))).map BitVec.toNat
  only (idx < r.size)
  if r.valid then do
    let f ← r.factor idx
    r.put idx ((BitVec.ofInt 32 (v * f + 32)).toInt / 64)
  else r.put idx v

/-- `LEVEL[i]`. -/
def Sys2Proof.Stated.levelOf (i : Nat) : Steps Int := held fun s => (Cells.look s.level i).map BitVec.toInt

/-- The run of zeros before the next level: `READ_RUN_BEFORE` while zeros are left, else none (41_cavlc_residual.md R222). -/
def Sys2Proof.Stated.runOf : Steps Nat := do
  let zeros ← held fun s => s.zerosLeft.map BitVec.toInt
  if 0 < zeros then do
    issue .readRunBefore
    held fun s => s.runBefore.map BitVec.toNat
  else pure 0

/-- The loops of 41_cavlc_residual.md R222: the `n` levels from `LEVEL[i]` on, below scan position `pos`. -/
def Sys2Proof.Stated.ResidualOperands.place (r : ResidualOperands) : (n i pos : Nat) → Steps Unit
  | 0, _, _ => pure ()
  | n + 1, i, pos => do
    let run ← runOf
    let v ← levelOf i
    r.store (pos - 1 - run) v
    r.place n (i + 1) (pos - 1 - run)

/-- The scatter (41_cavlc_residual.md R222), where the zeros fit. -/
def Sys2Proof.Stated.ResidualOperands.scatter (r : ResidualOperands) : Steps Unit := do
  let total ← held fun s => s.totalCoeff.map BitVec.toNat
  let zeros ← held fun s => s.zerosLeft.map BitVec.toInt
  only (zeros + total - 1 < r.mc)
  let v ← levelOf 0
  r.store (zeros + total - 1).toNat v
  r.place (total - 1) 1 (zeros + total - 1).toNat

/-- `while LEVEL_IDX < TOTAL_COEFF: READ_LEVEL` (41_cavlc_residual.md R200), at most `n` times; 16 are enough. -/
def Sys2Proof.Stated.levelSteps : Nat → Steps Unit
  | 0 => pure ()
  | n + 1 => do
    let idx ← held fun s => s.levelIdx.map BitVec.toNat
    let total ← held fun s => s.totalCoeff.map BitVec.toNat
    if idx < total then do
      issue .readLevel
      levelSteps n
    else pure ()

/-- The selector of a block's coefficient token, with what it leaves in `PNNZ` (41_cavlc_residual.md R205, 42_neighbor_cache.md R264). -/
def Sys2Proof.Stated.tokenSelector (blk mc : Nat) : Steps Nat :=
  if mc = 4 then pure 4
  else if mc = 8 then pure 5
  else do
    let n := if blk = 24 then 0 else blk
    let l ← held fun s => Cells.look s.cache.nnz (scan8 n - 1)
    let t ← held fun s => Cells.look s.cache.nnz (scan8 n - 8)
    let p := (if l.toNat + t.toNat < 64 then (l.toNat + t.toNat + 1) / 2 else l.toNat + t.toNat) % 32
    change fun s => { s with pnnz := some (BitVec.ofNat 5 p) }
    only (p ≤ 16)
    pure (if p ≤ 1 then 0 else if p ≤ 3 then 1 else if p ≤ 7 then 2 else 3)

/-- `DECODE_RESIDUAL` as the commands it is made of (41_cavlc_residual.md R200). -/
def Sys2Proof.Stated.ResidualOperands.steps (r : ResidualOperands) : Steps Unit := do
  let sel ← tokenSelector r.blk r.mc
  issue (.readCoeffToken (BitVec.ofNat 8 sel))
  change fun s => { s with maxCoeff := some (BitVec.ofNat 5 r.mc), blk := some (BitVec.ofNat 5 r.blk) }
  let total ← held fun s => s.totalCoeff.map BitVec.toNat
  change fun s =>
    { s with cache := { s.cache with nnz := Cells.put s.cache.nnz (scan8 r.blk) (BitVec.ofNat 8 total) } }
  onlyIf (decide (0 < total)) do
    only (total ≤ r.mc)
    issue .readTrailingSigns
    levelSteps 16
    issue .readTotalZeros
    r.scatter
  change fun s =>
    { s with
      totalCoeff := none, trailingOnes := none, level := [], levelIdx := none, suffixLength := none
      zerosLeft := none, runBefore := none, maxCoeff := none, blk := none, res := some (BitVec.ofNat 32 total) }

/-- `DECODE_RESIDUAL` of any block does what its commands do one after another (41_cavlc_residual.md R200, R204, R205, R222, R223;
30_encoding.md R103): the token, the count into the block's slot, the signs, the levels, the total of zeros, and the scatter, which stores
each level, dequantized by `DEQUANT4` or `DEQUANT8` or as it is, at the raster index of its scan position, with a run
of zeros read before each while zeros are left. At the end the block's registers are `undef` and `RES` is the count.
Marked by the spec as from general knowledge, in whole or in part: R205, R223; its decision: R103. -/
def Obligations.ResidualBySteps : Prop :=
  ∀ (s u : State) (blk scan mc : BitVec 8) (d : Word),
    reading s = true → s.vlcReady = true → s.bitDepthLegal = true →
    Instr.wellFormed (.decodeResidual blk scan mc d) = true → (d.extractLsb' 0 7).toNat ≤ s.maxQp →
    afterSteps (residualOperands blk scan mc d).steps s = some u →
      exec (.decodeResidual blk scan mc d) s = .next { u with status := .ended .ok }

/-- `DECODE_RESIDUAL` whose token counts more coefficients than the block has (41_cavlc_residual.md R204, R207): `CorruptedSyntax`
after the token, with the count already in the block's slot. -/
def Obligations.TooManyCoefficients : Prop :=
  ∀ (s : State) (blk scan mc : BitVec 8) (d : Word) (table : List Vlc.Code) (c : Vlc.Code),
    reading s = true → s.vlcReady = true → s.bitDepthLegal = true →
    Instr.wellFormed (.decodeResidual blk scan mc d) = true → (d.extractLsb' 0 7).toNat ≤ s.maxQp →
    tokenTable s blk.toNat mc.toNat = some table → c ∈ table → mc.toNat < c.sym / 4 → codeNext s c = true →
    s.bitpos + c.len ≤ s.bsLen → ∃ t : State,
      exec (.decodeResidual blk scan mc d) s = .next (raised t .corruptedSyntax)
      ∧ t = { s with
          bitpos := s.bitpos + c.len, pnnz := t.pnnz, res := some (BitVec.ofNat 32 c.sym)
          totalCoeff := some (BitVec.ofNat 5 (c.sym / 4)), trailingOnes := some (BitVec.ofNat 2 (c.sym % 4))
          maxCoeff := some (BitVec.ofNat 5 mc.toNat), blk := some (BitVec.ofNat 5 blk.toNat)
          cache := { s.cache with nnz := Cells.put s.cache.nnz (scan8 blk.toNat) (BitVec.ofNat 8 (c.sym / 4)) } }

/-- The commands of the bit reader and of the residual decoder (40_bitreader_vlc.md, 41_cavlc_residual.md). -/
def Sys2Proof.Stated.readsBits (i : Instr) : Bool :=
  match i with
  | .peek _ => true
  | .skip _ => true
  | .read _ => true
  | .readUe => true
  | .readSe => true
  | .readTe _ => true
  | .align => true
  | .bitsLeft => true
  | .readCoeffToken _ => true
  | .readTrailingSigns => true
  | .readLevel => true
  | .readTotalZeros => true
  | .readRunBefore => true
  | .decodeResidual _ _ _ _ => true
  | _ => false

/-- What the bit reader and the residual decoder leave unchanged, however they end: everything but the cursor, `RES`, `PNNZ`, the
block's registers, the counts of the cache, the coefficient buffers and what an ending writes; only
`DECODE_RESIDUAL` writes coefficients and counts, and of the counts only its own block's slot. No memory is written. -/
def Obligations.ReadingFrame : Prop :=
  ∀ (i : Instr) (s t : State), readsBits i = true → exec i s = .next t →
    t = { endedAs s t with
        bitpos := t.bitpos, res := t.res, pnnz := t.pnnz
        totalCoeff := t.totalCoeff, trailingOnes := t.trailingOnes, level := t.level, levelIdx := t.levelIdx
        suffixLength := t.suffixLength, zerosLeft := t.zerosLeft, runBefore := t.runBefore
        maxCoeff := t.maxCoeff, blk := t.blk
        cache := { s.cache with nnz := t.cache.nnz }, coefs := t.coefs }
      ∧ ((∀ a b c d, i ≠ .decodeResidual a b c d) → t.cache.nnz = s.cache.nnz ∧ t.coefs = s.coefs ∧ t.pnnz = s.pnnz)
      ∧ ∀ a b c d slot, i = .decodeResidual a b c d → slot ≠ scan8 a.toNat →
          Cells.look t.cache.nnz slot = Cells.look s.cache.nnz slot

/-- `DECODE_RESIDUAL` writes no coefficient outside its destination (41_cavlc_residual.md R200): its block or quadrant of `COEF`, or its
DC buffer; every other coefficient reads as before, however it ends. -/
def Obligations.ResidualStaysInItsBlock : Prop :=
  ∀ (s t : State) (blk scan mc : BitVec 8) (d : Word), exec (.decodeResidual blk scan mc d) s = .next t →
    (∀ k, (23 < blk.toNat ∨
        (if d.getLsbD 29 then k / 64 ≠ blk.toNat / 4 else k / 16 ≠ blk.toNat)) → t.coefAt k = s.coefAt k)
    ∧ (∀ k, blk.toNat ≠ 24 → t.lumaDcAt k = s.lumaDcAt k)
    ∧ (∀ c k, k < 8 → blk.toNat ≠ 25 + c → t.chromaDcAt c k = s.chromaDcAt c k)

/-! ### Slice framing -/

/-- The configuration `SLICE_START` supports (43_mb_type_motion.md R300), from the bits of `CR0` (10_state.md R30): monochrome or
4:2:0, 8 to 14 bits, no transform bypass, frame macroblocks only. -/
def Sys2Proof.Stated.configOk (s : State) : Bool :=
  decide ((s.cr0.extractLsb' 0 2).toNat ≤ 1 ∧ 8 ≤ (s.cr0.extractLsb' 2 4).toNat ∧ (s.cr0.extractLsb' 2 4).toNat ≤ 14)
    && !s.cr0.getLsbD 7 && s.cr0.getLsbD 10

/-- The first address `SLICE_START` accepts (43_mb_type_motion.md R300; 10_state.md R25, R31). -/
def Sys2Proof.Stated.firstOk (s : State) (d : Word) : Bool :=
  decide ((d.extractLsb' 0 16).toNat < (s.cr1.extractLsb' 0 16).toNat
    ∧ (d.extractLsb' 16 16).toNat < (s.cr1.extractLsb' 16 16).toNat)

/-- The slice configuration `SLICE_START` accepts (43_mb_type_motion.md R300; 10_state.md R32, R33). -/
def Sys2Proof.Stated.sliceOk (s : State) : Bool :=
  let kind := (s.cr2.extractLsb' 0 2).toNat
  let n0 := (s.cr2.extractLsb' 18 6).toNat
  let n1 := (s.cr2.extractLsb' 24 6).toNat
  decide (kind ≠ 3 ∧ (s.cr3.extractLsb' 0 7).toNat ≤ 51 + 6 * ((s.cr0.extractLsb' 2 4).toNat - 8)
    ∧ (kind = 0 → 1 ≤ n0 ∧ n0 ≤ 32) ∧ (kind = 1 → 1 ≤ n0 ∧ n0 ≤ 32 ∧ 1 ≤ n1 ∧ n1 ≤ 32)
    ∧ (s.cr2.extractLsb' 30 2).toNat ≠ 3)

/-- `s` with everything that lives for one slice `undef` (43_mb_type_motion.md R300, R360; 10_state.md R45). -/
def Sys2Proof.Stated.sliceForgotten (s : State) : State :=
  { s with
    totalCoeff := none, trailingOnes := none, level := [], levelIdx := none, suffixLength := none
    zerosLeft := none, runBefore := none, maxCoeff := none, blk := none, mb := Mb.undef
    pmx := none, pmy := none, pnnz := none, pmode := none, res := none, cache := Caches.undef }

/-- `SLICE_START` (43_mb_type_motion.md R300): outside `RUN`, with the tables built and a configuration it accepts, a new slice: the
address, `RUN`, the error registers cleared, no skip run, everything of the last slice `undef`, the coefficient buffers zero, and the
cursor where it was. A configuration it does not support is `Unsupported`, an inconsistent one `IllegalCommand`, and nothing
changes. `SLICE_END` (R360): back to `IDLE`, the error registers and the picture as they are.
The first address is checked first, as an operand (60_exceptions.md R474); in which order the other refusals come is the
model's choice (log 18).
Marked by the spec as its decision: R300, R360; derived: R474. -/
def Obligations.SliceFraming : Prop :=
  ∀ (s : State) (d : Word),
    (s.engine ≠ .run → s.vlcReady = true →
      exec (.sliceStart d) s = .next (
        if !firstOk s d then refusedBy s
        else if !configOk s then { s with status := .ended .unsupported }
        else if !sliceOk s then refusedBy s
        else { sliceForgotten s with
          mbX := d.extractLsb' 0 16, mbY := d.extractLsb' 16 16, engine := .run
          errKind := .ok, errMbX := 0, errMbY := 0, errBitpos := 0, skipRun := -1
          nbAvail := [], nbIntra := [], chromaQp := [], mc := McRegs.undef, tmp := [], coefs := Coefs.zero
          status := .ended .ok }))
    ∧ (s.engine ≠ .idle →
      exec .sliceEnd s = .next { sliceForgotten s with engine := .idle, status := .ended .ok })

/-! ### The neighbour context -/

/-- The macroblock at offset (dx, dy) from the current one, if it lies in the picture (42_neighbor_cache.md R250). -/
def Sys2Proof.Stated.existing (s : State) (dx dy : Int) : Option Nat :=
  let x := (s.mbX.toNat : Int) + dx
  let y := (s.mbY.toNat : Int) + dy
  if 0 ≤ x ∧ x < s.picW ∧ 0 ≤ y ∧ y < s.picH then some (x.toNat + y.toNat * s.picW) else none

/-- The neighbour at offset (dx, dy), if it is available: it exists and belongs to this slice (42_neighbor_cache.md R254). -/
def Sys2Proof.Stated.neighbour (s : State) (dx dy : Int) : Option Nat :=
  match existing s dx dy with
  | none => none
  | some mb => if s.picSlice mb = some s.sliceNum then some mb else none

/-- The kind of a macroblock as the picture's arrays hold it. -/
def Sys2Proof.Stated.kindOf (s : State) (mb : Nat) : Option MbKind :=
  match Cells.look s.pic.arrays.mbType mb with
  | none => none
  | some m => m.kind

/-- The neighbour is available for intra prediction (42_neighbor_cache.md R254). -/
def Sys2Proof.Stated.intraOk (s : State) (x : Option Nat) : Bool :=
  match x with
  | none => false
  | some mb =>
    !s.constrainedIntraPred || decide (kindOf s mb = some .intra4x4 ∨ kindOf s mb = some .intra16x16
      ∨ kindOf s mb = some .intraPcm)

/-- The arrays' entries of a macroblock of this slice are written, as its write-back leaves them (42_neighbor_cache.md R278). -/
def Sys2Proof.Stated.entriesWritten (s : State) (mb : Nat) : Bool :=
  (kindOf s mb).isSome
    && (List.range 24).all (fun n => (Cells.look s.pic.arrays.nnz (24 * mb + n)).isSome)
    && (decide (kindOf s mb ≠ some .intra4x4)
      || (List.range 16).all fun n => (Cells.look s.pic.arrays.i4 (16 * mb + n)).isSome)
    && (List.range s.listCount).all fun l =>
      (List.range 4).all (fun q => (Cells.look s.pic.arrays.ref (4 * (2 * mb + l) + q)).isSome)
        && (List.range 16).all fun n => (Cells.look s.pic.arrays.mv (16 * (2 * mb + l) + n)).isSome

/-- Every neighbour's slice number is known, and an available neighbour's entries are written: the picture was prepared and the
slice decoded in order (70_reset_and_hazards.md R515, 20_memory.md R81). -/
def Sys2Proof.Stated.neighboursKnown (s : State) : Bool :=
  [((-1 : Int), (0 : Int)), (0, -1), (-1, -1), (1, -1)].all fun d =>
    match existing s d.1 d.2 with
    | none => true
    | some mb => (s.picSlice mb).isSome && (decide (s.picSlice mb ≠ some s.sliceNum) || entriesWritten s mb)

/-- A border count (42_neighbor_cache.md R255, R256). -/
def Sys2Proof.Stated.borderCount (s : State) (x : Option Nat) (n : Nat) : Option (BitVec 8) :=
  match x with
  | none => some 64
  | some mb => Cells.look s.pic.arrays.nnz (24 * mb + n)

/-- A border intra mode (42_neighbor_cache.md R257). -/
def Sys2Proof.Stated.borderMode (s : State) (x : Option Nat) (n : Nat) : Option (BitVec 8) :=
  match x with
  | none => some (-1)
  | some mb =>
    if intraOk s x then
      if kindOf s mb = some .intra4x4 then Cells.look s.pic.arrays.i4 (16 * mb + n) else some 2
    else some (-1)

/-- A border reference: -2 where the neighbour is not available (42_neighbor_cache.md R259). -/
def Sys2Proof.Stated.borderRef (s : State) (l : Nat) (x : Option Nat) (q : Nat) : Option (BitVec 8) :=
  match x with
  | none => some (-2)
  | some mb => Cells.look s.pic.arrays.ref (4 * (2 * mb + l) + q)

/-- A border vector: (0, 0) where there is no reference (42_neighbor_cache.md R259). -/
def Sys2Proof.Stated.borderMv (s : State) (l : Nat) (x : Option Nat) (q n : Nat) : Option Mv :=
  match x with
  | none => some ⟨0, 0⟩
  | some mb =>
    match Cells.look s.pic.arrays.ref (4 * (2 * mb + l) + q) with
    | none => none
    | some r => if r.toInt < 0 then some ⟨0, 0⟩ else Cells.look s.pic.arrays.mv (16 * (2 * mb + l) + n)

/-- `CACHE_FILL` (42_neighbor_cache.md R252 to R260, R262): the availability latches, the border slots of the four caches from the
four neighbours' entries, and the motion of the macroblock's own slots and of those right of it preset to "not available"; no
other slot and nothing else changes.
Marked by the spec as from general knowledge, in whole or in part: R254, R255, R256, R257, R258, R259, R260. -/
def Obligations.CacheFillLoadsTheBorders : Prop :=
  ∀ s : State, s.engine = .run → neighboursKnown s = true → ∃ t, exec .cacheFill s = .next t
    ∧ (let left := neighbour s (-1) 0
       let top := neighbour s 0 (-1)
       let topLeft := neighbour s (-1) (-1)
       let topRight := neighbour s 1 (-1)
       t = { s with nbAvail := t.nbAvail, nbIntra := t.nbIntra, cache := t.cache, status := .ended .ok }
       ∧ t.nbAvail = [(0, left.isSome), (1, top.isSome), (2, topLeft.isSome), (3, topRight.isSome)]
       ∧ t.nbIntra = [(0, intraOk s left), (1, intraOk s top), (2, intraOk s topLeft), (3, intraOk s topRight)]
       ∧ (∀ p ∈ [(4, 10), (5, 11), (6, 14), (7, 15)], Cells.look t.cache.nnz p.1 = borderCount s top p.2
          ∧ Cells.look t.cache.i4 p.1 = borderMode s top p.2)
       ∧ (∀ p ∈ [(11, 5), (19, 7), (27, 13), (35, 15)], Cells.look t.cache.nnz p.1 = borderCount s left p.2
          ∧ Cells.look t.cache.i4 p.1 = borderMode s left p.2)
       ∧ (s.chromaFormat = 1 →
          (∀ p ∈ [(1, 18), (2, 19), (25, 22), (26, 23)], Cells.look t.cache.nnz p.1 = borderCount s top p.2)
          ∧ ∀ p ∈ [(8, 17), (16, 19), (32, 21), (40, 23)], Cells.look t.cache.nnz p.1 = borderCount s left p.2)
       ∧ (∀ l, l < s.listCount →
          (∀ p ∈ [(4, 2, 10), (5, 2, 11), (6, 3, 14), (7, 3, 15)],
            Cells.look t.cache.ref (75 * l + p.1) = borderRef s l top p.2.1
            ∧ Cells.look t.cache.mv (75 * l + p.1) = borderMv s l top p.2.1 p.2.2)
          ∧ (∀ p ∈ [(11, 1, 5), (19, 1, 7), (27, 3, 13), (35, 3, 15)],
            Cells.look t.cache.ref (75 * l + p.1) = borderRef s l left p.2.1
            ∧ Cells.look t.cache.mv (75 * l + p.1) = borderMv s l left p.2.1 p.2.2)
          ∧ Cells.look t.cache.ref (75 * l + 8) = borderRef s l topRight 2
          ∧ Cells.look t.cache.mv (75 * l + 8) = borderMv s l topRight 2 10
          ∧ Cells.look t.cache.ref (75 * l + 3) = borderRef s l topLeft 3
          ∧ Cells.look t.cache.mv (75 * l + 3) = borderMv s l topLeft 3 15
          ∧ ∀ k ∈ [16, 24, 32, 12, 13, 20, 21, 14, 15, 22, 23, 28, 29, 36, 37, 30, 31, 38, 39],
            Cells.look t.cache.ref (75 * l + k) = some (-2) ∧ Cells.look t.cache.mv (75 * l + k) = some ⟨0, 0⟩)
       ∧ (∀ k, k ∉ [4, 5, 6, 7, 11, 19, 27, 35] →
          (s.chromaFormat ≠ 1 ∨ k ∉ [1, 2, 8, 16, 25, 26, 32, 40]) → Cells.look t.cache.nnz k = Cells.look s.cache.nnz k)
       ∧ (∀ k, k ∉ [4, 5, 6, 7, 11, 19, 27, 35] → Cells.look t.cache.i4 k = Cells.look s.cache.i4 k)
       ∧ ∀ k, (∀ l, l < s.listCount → ∀ j ∈ [3, 4, 5, 6, 7, 8, 11, 12, 13, 14, 15, 16, 19, 20, 21, 22, 23, 24, 27, 28,
            29, 30, 31, 32, 35, 36, 37, 38, 39], k ≠ 75 * l + j) →
          Cells.look t.cache.ref k = Cells.look s.cache.ref k ∧ Cells.look t.cache.mv k = Cells.look s.cache.mv k)

/-- `PRED_NNZ` (42_neighbor_cache.md R264): left plus top, halved with rounding up if below 64, the low five bits. `PRED_I4MODE` (R274): the
lesser of left and top, or 2 if that is negative. Both results go to `RES` too. A slot that is `undef` is a model fault and a block
number that is none is turned away. -/
def Obligations.CountAndModePredictors : Prop :=
  ∀ (s : State) (n left top : BitVec 8), s.engine = .run →
    (n.toNat ≤ 23 → Cells.look s.cache.nnz (scan8 n.toNat - 1) = some left →
      Cells.look s.cache.nnz (scan8 n.toNat - 8) = some top →
      exec (.predNnz n) s = .next (
        let sum := left.toNat + top.toNat
        let p := if sum < 64 then (sum + 1) / 2 else sum
        { s with
          pnnz := some (BitVec.ofNat 5 p), res := some (BitVec.ofNat 32 (p % 32)), status := .ended .ok }))
    ∧ (n.toNat ≤ 23 → (Cells.look s.cache.nnz (scan8 n.toNat - 1) = none ∨ Cells.look s.cache.nnz (scan8 n.toNat - 8) = none) →
      exec (.predNnz n) s = .fault .uninitialisedRead)
    ∧ (23 < n.toNat → exec (.predNnz n) s = .next (refusedBy s))
    ∧ (n.toNat ≤ 15 → Cells.look s.cache.i4 (scan8 n.toNat - 1) = some left →
      Cells.look s.cache.i4 (scan8 n.toNat - 8) = some top →
      exec (.predI4Mode n) s = .next (
        let m := min left.toInt top.toInt
        { s with
          pmode := some (BitVec.ofInt 4 (if m < 0 then 2 else m)), res := some (BitVec.ofInt 32 (if m < 0 then 2 else m))
          status := .ended .ok }))
    ∧ (n.toNat ≤ 15 → (Cells.look s.cache.i4 (scan8 n.toNat - 1) = none ∨ Cells.look s.cache.i4 (scan8 n.toNat - 8) = none) →
      exec (.predI4Mode n) s = .fault .uninitialisedRead)
    ∧ (15 < n.toNat → exec (.predI4Mode n) s = .next (refusedBy s))

/-- The median of three numbers (42_neighbor_cache.md R265). -/
def Sys2Proof.Stated.middle (a b c : Int) : Int := a + b + c - min a (min b c) - max a (max b c)

/-- The predicted vector from left, top and diagonal neighbour, each with its reference (42_neighbor_cache.md R266). -/
def Sys2Proof.Stated.predicted (ref : BitVec 8) (a b c : BitVec 8 × Mv) : Mv :=
  let m : Mv := ⟨BitVec.ofInt 16 (middle a.2.x.toInt b.2.x.toInt c.2.x.toInt),
    BitVec.ofInt 16 (middle a.2.y.toInt b.2.y.toInt c.2.y.toInt)⟩
  match decide (a.1 = ref), decide (b.1 = ref), decide (c.1 = ref) with
  | true, false, false => a.2
  | false, true, false => b.2
  | false, false, true => c.2
  | false, false, false => if b.1 = -2 ∧ c.1 = -2 ∧ a.1 ≠ -2 then a.2 else m
  | _, _, _ => m

/-- The reference and the vector in a slot of list `l`. -/
def Sys2Proof.Stated.slotMotion (s : State) (l slot : Nat) : Option (BitVec 8 × Mv) :=
  match Cells.look s.cache.ref (75 * l + slot), Cells.look s.cache.mv (75 * l + slot) with
  | some r, some v => some (r, v)
  | _, _ => none

/-- The diagonal neighbour of a partition at `slot`, `w` blocks wide (42_neighbor_cache.md R267): top-right, or top-left where that is not
available. -/
def Sys2Proof.Stated.diagonalMotion (s : State) (l slot w : Nat) : Option (BitVec 8 × Mv) :=
  match Cells.look s.cache.ref (75 * l + slot - 8 + w) with
  | none => none
  | some r => if r = -2 then slotMotion s l (slot - 9) else slotMotion s l (slot - 8 + w)

/-- `PRED_MV` (42_neighbor_cache.md R265, R266, R267).
Marked by the spec as from general knowledge, in whole or in part: R266, R267. -/
def Obligations.VectorPredictor : Prop :=
  ∀ (s : State) (n w l : BitVec 8) (ref : Word) (a b c : BitVec 8 × Mv),
    s.engine = .run → n.toNat ≤ 15 → (w.toNat = 1 ∨ w.toNat = 2 ∨ w.toNat = 4) → l.toNat < s.listCount →
    ref.toNat ≤ 31 → slotMotion s l.toNat (scan8 n.toNat - 1) = some a →
    slotMotion s l.toNat (scan8 n.toNat - 8) = some b → diagonalMotion s l.toNat (scan8 n.toNat) w.toNat = some c →
      exec (.predMv n w l ref) s = .next
        { s with
          pmx := some (predicted (ref.setWidth 8) a b c).x, pmy := some (predicted (ref.setWidth 8) a b c).y
          status := .ended .ok }

/-- The directional predictors: `PRED_MV_16x8` (42_neighbor_cache.md R270) and `PRED_MV_8x16` (R271) take the vector of one neighbour where its
reference is the partition's own, and else predict as `PRED_MV` does; `PRED_MV_PSKIP` (R272) is (0, 0) where left or top is not
available or has reference 0 and vector (0, 0), and else predicts for reference 0 of list 0.
Marked by the spec as from general knowledge, in whole or in part: R270, R271, R272. -/
def Obligations.DirectionalVectorPredictors : Prop :=
  ∀ (s : State) (n l : BitVec 8) (ref : Word), s.engine = .run → l.toNat < s.listCount → ref.toNat ≤ 31 →
    (∀ near, (n.toNat = 0 ∧ slotMotion s l.toNat 4 = some near) ∨ (n.toNat = 8 ∧ slotMotion s l.toNat 27 = some near) →
      exec (.predMv16x8 n l ref) s =
        if near.1 = ref.setWidth 8 then
          .next { s with pmx := some near.2.x, pmy := some near.2.y, status := .ended .ok }
        else exec (.predMv n 4 l ref) s)
    ∧ (∀ near, (n.toNat = 0 ∧ slotMotion s l.toNat 11 = some near)
          ∨ (n.toNat = 4 ∧ diagonalMotion s l.toNat 14 2 = some near) →
      exec (.predMv8x16 n l ref) s =
        if near.1 = ref.setWidth 8 then
          .next { s with pmx := some near.2.x, pmy := some near.2.y, status := .ended .ok }
        else exec (.predMv n 2 l ref) s)
    ∧ ∀ a b, slotMotion s 0 11 = some a → slotMotion s 0 4 = some b →
      exec .predMvPskip s =
        if a.1 = -2 ∨ b.1 = -2 ∨ a = (0, ⟨0, 0⟩) ∨ b = (0, ⟨0, 0⟩) then
          .next { s with pmx := some 0, pmy := some 0, status := .ended .ok }
        else exec (.predMv 0 4 0 0) s

/-- The cache slots that write-back reads for a macroblock of this kind are written (42_neighbor_cache.md R278, 43_mb_type_motion.md
R350). -/
def Sys2Proof.Stated.ownSlotsWritten (s : State) (kind : MbKind) : Bool :=
  (List.range 24).all (fun n => (Cells.look s.cache.nnz (scan8 n)).isSome)
    && (decide (kind ≠ .intra4x4) || (List.range 16).all fun n => (Cells.look s.cache.i4 (scan8 n)).isSome)
    && (kind.intra || (List.range s.listCount).all fun l =>
      (List.range 16).all fun n => (slotMotion s l (scan8 n)).isSome)

/-- What write-back leaves in the arrays `a'` of the current picture, from the state `s` before it (42_neighbor_cache.md R278): the
entries of macroblock `mb`, and every other entry as it was. -/
def Sys2Proof.Stated.writtenBack (s : State) (kind : MbKind) (mb : Nat) (a' : PicArrays) : Prop :=
  let a := s.pic.arrays
  Cells.look a'.slice mb = some s.sliceNum
    ∧ Cells.look a'.mbType mb = some { s.mb with i4Mode := [] }
    ∧ Cells.look a'.qscale mb = some (if kind = .intraPcm then 0 else s.cr3.extractLsb' 0 7)
    ∧ (kind = .intraPcm → Cells.look a'.cbp mb = some 47)
    ∧ (∀ c, kind ≠ .intraPcm → s.mb.cbp = some c → Cells.look a'.cbp mb = some (c.setWidth 16))
    ∧ (∀ n, n < 24 → Cells.look a'.nnz (24 * mb + n) = Cells.look s.cache.nnz (scan8 n))
    ∧ (kind = .intra4x4 → ∀ n, n < 16 → Cells.look a'.i4 (16 * mb + n) = Cells.look s.cache.i4 (scan8 n))
    ∧ (∀ l, l < s.listCount →
        (∀ q, q < 4 → Cells.look a'.ref (4 * (2 * mb + l) + q) =
          if kind.intra then some (-1) else Cells.look s.cache.ref (75 * l + scan8 (4 * q)))
        ∧ ∀ n, n < 16 → Cells.look a'.mv (16 * (2 * mb + l) + n) =
          if kind.intra then some ⟨0, 0⟩ else Cells.look s.cache.mv (75 * l + scan8 n))
    ∧ (∀ k, k ≠ mb → Cells.look a'.slice k = Cells.look a.slice k ∧ Cells.look a'.mbType k = Cells.look a.mbType k
        ∧ Cells.look a'.qscale k = Cells.look a.qscale k ∧ Cells.look a'.cbp k = Cells.look a.cbp k)
    ∧ (∀ k, k / 24 ≠ mb → Cells.look a'.nnz k = Cells.look a.nnz k)
    ∧ (∀ k, k / 16 ≠ mb ∨ kind ≠ .intra4x4 → Cells.look a'.i4 k = Cells.look a.i4 k)
    ∧ (∀ k, k / 8 ≠ mb ∨ s.listCount ≤ k / 4 % 2 → Cells.look a'.ref k = Cells.look a.ref k)
    ∧ ∀ k, k / 32 ≠ mb ∨ s.listCount ≤ k / 16 % 2 → Cells.look a'.mv k = Cells.look a.mv k

/-- `CACHE_WRITEBACK` (42_neighbor_cache.md R278): the entries of the current macroblock are written, no other entry and nothing else
changes.
What of the macroblock registers is kept is the model's choice (log 26).
Marked by the spec as from general knowledge, in whole or in part: R278. -/
def Obligations.WriteBack : Prop :=
  ∀ (s : State) (kind : MbKind), s.engine = .run → s.mb.kind = some kind → (s.mb.cbp.isSome ∨ kind = .intraPcm) →
    s.mbX.toNat < s.picW → s.mbY.toNat < s.picH → ownSlotsWritten s kind = true →
    ∃ a', exec .cacheWriteback s = .next { s with pic := { s.pic with arrays := a' }, status := .ended .ok }
      ∧ writtenBack s kind (s.mbX.toNat + s.mbY.toNat * s.picW) a'

/-! ### Decoding a macroblock -/

/-- The macroblocks of the picture from the current one on (10_state.md R25). -/
def Sys2Proof.Stated.macroblocksLeft (s : State) : Nat := s.picW * s.picH - (s.mbX.toNat + s.mbY.toNat * s.picW)

/-- A skipped macroblock of a P slice, with a skip run held (43_mb_type_motion.md R302, R303): no bit is read, the run is one less, the macroblock is
`Inter16x16` with reference 0 and the vector `PRED_MV_PSKIP` predicts after `CACHE_FILL`, and every count is 0. With none held the run
is read, and the macroblock goes on as with that run held; one longer than the picture is `CorruptedSyntax`, the run
read and held; of one longer than the macroblocks left only (60_exceptions.md R471) it is either.
That R302 and R471 leave that case open is the model's reading (log 25).
That `RES` stays is read from the `return` of R301 (log 24).
Marked by the spec as from general knowledge, in whole or in part: R302; its decision: R471. -/
def Obligations.SkippedMacroblock : Prop :=
  (∀ s : State, s.engine = .run → s.sliceType = .p → 0 < s.skipRun.toInt → neighboursKnown s = true →
    ∃ u w t x y, exec .cacheFill s = .next u ∧ exec .predMvPskip u = .next w ∧ exec .mbDecode s = .next t
      ∧ w.pmx = some x ∧ w.pmy = some y
      ∧ t = { w with skipRun := s.skipRun - 1, mb := t.mb, cache := t.cache, status := .ended .ok }
      ∧ t.mb = { Mb.undef with
          kind := some .inter16x16, skip := some true, dct8x8 := some false, partCount := some 1
          dir := [(0, true), (1, false)], cbp := some 0 }
      ∧ (∀ n, n < 16 → Cells.look t.cache.ref (scan8 n) = some 0 ∧ Cells.look t.cache.mv (scan8 n) = some ⟨x, y⟩)
      ∧ (∀ n, n < 24 → Cells.look t.cache.nnz (scan8 n) = some 0)
      ∧ (∀ k, (∀ n, n < 24 → k ≠ scan8 n) → Cells.look t.cache.nnz k = Cells.look u.cache.nnz k)
      ∧ (∀ k, (∀ n, n < 16 → k ≠ scan8 n) → Cells.look t.cache.ref k = Cells.look u.cache.ref k
          ∧ Cells.look t.cache.mv k = Cells.look u.cache.mv k)
      ∧ t.cache.i4 = u.cache.i4)
    ∧ ∀ (s t : State) (k : Word), s.engine = .run → s.sliceType ≠ .i → s.skipRun = -1 →
        exec .readUe s = .next t → t.status = .ended .ok → t.res = some k →
        let u := { s with bitpos := t.bitpos, skipRun := k }
        (s.picW * s.picH < k.toNat → exec .mbDecode s = .next (raised u .corruptedSyntax))
        ∧ (k.toNat ≤ s.picW * s.picH → 0 ≤ k.toInt → exec .mbDecode s = exec .mbDecode u
            ∨ (macroblocksLeft s < k.toNat ∧ exec .mbDecode s = .next (raised u .corruptedSyntax)))

/-- An IntraPCM macroblock of an I slice (43_mb_type_motion.md R301, R305, R306, R318): after `mb_type` 25 (000011010) the cursor goes to a byte
boundary, the samples follow in the picture's bit depth, every count is 16 and the coded block pattern 47; the
quantizer is unchanged.
That `RES` stays is read from the `return` of R301 (log 24). That no other macroblock register keeps a value is the model's
choice (log 26).
Marked by the spec as from general knowledge, in whole or in part: R306, R318. -/
def Obligations.PcmMacroblock : Prop :=
  ∀ s : State, s.engine = .run → s.sliceType = .i → s.bitDepthLegal = true → neighboursKnown s = true →
    codeNext s ⟨25, 9, 0b000011010⟩ = true → s.bitpos + 9 ≤ s.bsLen →
    let start := (s.bitpos + 9 + 7) / 8 * 8
    let count := if s.chromaFormat = 1 then 384 else 256
    start + count * s.bitDepth ≤ s.bsLen →
    ∃ u t, exec .cacheFill s = .next u ∧ exec .mbDecode s = .next t
      ∧ t = { u with bitpos := start + count * s.bitDepth, mb := t.mb, pcm := t.pcm, cache := t.cache }
      ∧ t.mb = { Mb.undef with
          kind := some .intraPcm, skip := some false, dct8x8 := some false, partCount := some 0, cbp := some 47 }
      ∧ (∀ k, k < count → ∃ v : Sample, Cells.look t.pcm k = some v
          ∧ spells s (start + k * s.bitDepth) s.bitDepth v.toNat)
      ∧ (∀ k, count ≤ k → Cells.look t.pcm k = Cells.look s.pcm k)
      ∧ t.cache = { u.cache with nnz := t.cache.nnz }
      ∧ (∀ n, n < 24 → Cells.look t.cache.nnz (scan8 n) = some 16)
      ∧ ∀ k, (∀ n, n < 24 → k ≠ scan8 n) → Cells.look t.cache.nnz k = Cells.look u.cache.nnz k

/-- The slots of "fill `w` by `h` at block `n`" (43_mb_type_motion.md, head). -/
def Sys2Proof.Stated.slotsOf (n w h : Nat) : List Nat :=
  (List.range h).flatMap fun j => (List.range w).map fun i => scan8 n + i + 8 * j

/-- Slots of `NNZ_CACHE` take a count. -/
def Sys2Proof.Stated.fillCounts (slots : List Nat) (v : BitVec 8) : Steps Unit :=
  change fun s => { s with cache := { s.cache with nnz := Cells.putAll s.cache.nnz v slots } }

/-- Slots of `REF_CACHE[l]` take a reference. -/
def Sys2Proof.Stated.fillRefs (l : Nat) (slots : List Nat) (v : BitVec 8) : Steps Unit :=
  change fun s => { s with cache := { s.cache with ref := Cells.putAll s.cache.ref v (slots.map (75 * l + ·)) } }

/-- Slots of `MV_CACHE[l]` take a vector. -/
def Sys2Proof.Stated.fillVectors (l : Nat) (slots : List Nat) (v : Mv) : Steps Unit :=
  change fun s => { s with cache := { s.cache with mv := Cells.putAll s.cache.mv v (slots.map (75 * l + ·)) } }

/-- Macroblock registers take values. -/
def Sys2Proof.Stated.changeMb (f : Mb → Mb) : Steps Unit := change fun s => { s with mb := f s.mb }

/-- The skip-run step (43_mb_type_motion.md R302, 60_exceptions.md R471): is the macroblock skipped? -/
def Sys2Proof.Stated.skipRunSteps : Steps Bool := do
  let run ← view fun s => s.skipRun
  onlyIf (decide (run = -1)) do
    let k ← ueOf
    let most ← view fun s => s.picW * s.picH
    let rest ← view macroblocksLeft
    only (k ≤ most ∧ (k ≤ rest ∨ Config.skipRunPastEnd k rest = false))
    change fun s => { s with skipRun := BitVec.ofNat 32 k }
  let left ← view fun s => s.skipRun
  if 0 < left.toInt then do
    change fun s => { s with skipRun := left - 1 }
    pure true
  else do
    change fun s => { s with skipRun := -1 }
    pure false

/-- The motion `DirectPredict` gives a block goes to its slot of both lists, for `n` in a list of blocks (43_mb_type_motion.md R303). -/
def Sys2Proof.Stated.directSteps (motion : Nat → DirectBlock) (l : Nat) (ns : List Nat) : Steps Unit :=
  forEach ns fun n => do
    fillRefs l [scan8 n] ((motion n).refOf l)
    fillVectors l [scan8 n] ((motion n).mvOf l)

/-- The motion of a whole macroblock from `DirectPredict` (43_mb_type_motion.md R303, R339; 10_state.md R52). -/
def Sys2Proof.Stated.directMacroblock : Steps Unit := do
  let motion ← view fun s n => Config.directPredict (s.directArgs none) n
  forEach [0, 1] fun l => directSteps motion l (List.range 16)

/-- A skipped macroblock (43_mb_type_motion.md R303). -/
def Sys2Proof.Stated.skippedSteps : Steps Unit := do
  let b ← view fun s => decide (s.sliceType = .b)
  changeMb fun _ =>
    if b then { Mb.undef with
      kind := some .direct, skip := some true, dct8x8 := some false, partCount := some 0, cbp := some 0 }
    else { Mb.undef with
      kind := some .inter16x16, skip := some true, dct8x8 := some false, partCount := some 1
      dir := [(0, true), (1, false)], cbp := some 0 }
  issue .cacheFill
  if b then directMacroblock
  else do
    issue .predMvPskip
    let x ← held fun s => s.pmx
    let y ← held fun s => s.pmy
    fillRefs 0 (slotsOf 0 4 4) 0
    fillVectors 0 (slotsOf 0 4 4) ⟨x, y⟩
  fillCounts ((List.range 24).map scan8) 0

/-- A macroblock as its type is mapped, before anything else is known of it (43_mb_type_motion.md R305). -/
def Sys2Proof.Stated.typedMb (kind : MbKind) (parts : BitVec 3) : Mb :=
  { Mb.undef with kind := some kind, skip := some false, dct8x8 := some false, partCount := some parts }

/-- `I_MB_TYPE[t]` (43_mb_type_motion.md R306). -/
def Sys2Proof.Stated.intraType (t : Nat) : Option Mb :=
  if t = 0 then some (typedMb .intra4x4 0)
  else if t ≤ 24 then some { typedMb .intra16x16 0 with
    i16Mode := some (BitVec.ofNat 2 (t - 1)), cbp := some ([0, 16, 32, 15, 31, 47].getD ((t - 1) / 4) 0) }
  else if t = 25 then some (typedMb .intraPcm 0) else none

/-- The lists the partitions of an inter macroblock use, as `MB.dir` holds them (10_state.md R22): `L0`, `L1`, `Bi`. -/
def Sys2Proof.Stated.listsUsed (parts : List (Bool × Bool)) : Cells Bool :=
  parts.zipIdx.flatMap fun c => [(2 * c.2, c.1.1), (2 * c.2 + 1, c.1.2)]

/-- `P_MB_TYPE[t]` (43_mb_type_motion.md R307). -/
def Sys2Proof.Stated.pType (t : Nat) : Option Mb :=
  let l0 := (true, false)
  match t with
  | 0 => some { typedMb .inter16x16 1 with dir := listsUsed [l0], ref0 := some false }
  | 1 => some { typedMb .inter16x8 2 with dir := listsUsed [l0, l0], ref0 := some false }
  | 2 => some { typedMb .inter8x16 2 with dir := listsUsed [l0, l0], ref0 := some false }
  | 3 => some { typedMb .inter8x8 4 with ref0 := some false }
  | 4 => some { typedMb .inter8x8 4 with ref0 := some true }
  | _ => none

/-- `B_MB_TYPE[t]` (43_mb_type_motion.md R308): from 4 on, 16x8 for an even number and 8x16 for an odd one. -/
def Sys2Proof.Stated.bType (t : Nat) : Option Mb :=
  let l0 := (true, false)
  let l1 := (false, true)
  let bi := (true, true)
  if t = 0 then some { typedMb .direct 0 with ref0 := some false }
  else if t ≤ 3 then
    some { typedMb .inter16x16 1 with dir := listsUsed [[l0, l1, bi].getD (t - 1) bi], ref0 := some false }
  else if t ≤ 21 then
    some { typedMb (if t % 2 = 0 then .inter16x8 else .inter8x16) 2 with
      dir := listsUsed ([[l0, l0], [l1, l1], [l0, l1], [l1, l0], [l0, bi], [l1, bi], [bi, l0], [bi, l1], [bi, bi]].getD
        ((t - 4) / 2) [])
      ref0 := some false }
  else if t = 22 then some { typedMb .inter8x8 4 with ref0 := some false } else none

/-- `mb_type` mapped by slice type (43_mb_type_motion.md R305). -/
def Sys2Proof.Stated.typeOf (sl : SliceType) (t : Nat) : Option Mb :=
  match sl with
  | .b => if t < 23 then bType t else intraType (t - 23)
  | .p => if t < 5 then pType t else intraType (t - 5)
  | .i => intraType t

/-- A sub-type mapped (43_mb_type_motion.md R309, R322). -/
def Sys2Proof.Stated.subTypeOf (b : Bool) (t : Nat) : Option SubMb :=
  if b then
    [⟨none, false, false⟩, ⟨some .s8x8, true, false⟩, ⟨some .s8x8, false, true⟩, ⟨some .s8x8, true, true⟩,
      ⟨some .s8x4, true, false⟩, ⟨some .s4x8, true, false⟩, ⟨some .s8x4, false, true⟩, ⟨some .s4x8, false, true⟩,
      ⟨some .s8x4, true, true⟩, ⟨some .s4x8, true, true⟩, ⟨some .s4x4, true, false⟩, ⟨some .s4x4, false, true⟩,
      ⟨some .s4x4, true, true⟩][t]?
  else [⟨some .s8x8, true, false⟩, ⟨some .s8x4, true, false⟩, ⟨some .s4x8, true, false⟩, ⟨some .s4x4, true, false⟩][t]?

/-- The mode of block `n`, with the 8x8 transform of its quadrant (43_mb_type_motion.md R314). -/
def Sys2Proof.Stated.modeSteps (big : Bool) (n : Nat) : Steps Unit := do
  issue (.predI4Mode (BitVec.ofNat 8 n))
  let pred ← held fun s => s.res.map BitVec.toNat
  let flag ← bitsOf 1
  let mode ← if flag = 1 then pure pred else do
    let rem ← bitsOf 3
    pure (if rem < pred then rem else rem + 1)
  let slots := if big then slotsOf n 2 2 else [scan8 n]
  change fun s => { s with cache := { s.cache with i4 := Cells.putAll s.cache.i4 (BitVec.ofNat 8 mode) slots } }
  changeMb fun m =>
    { m with i4Mode := Cells.putAll m.i4Mode (BitVec.ofNat 4 mode) (if big then [n, n + 1, n + 2, n + 3] else [n]) }

/-- The intra chroma mode (43_mb_type_motion.md R316). -/
def Sys2Proof.Stated.chromaModeSteps : Steps Unit := do
  let format ← view fun s => s.chromaFormat
  onlyIf (decide (format = 1 ∨ format = 2)) do
    let m ← ueOf
    only (m ≤ 3)
    changeMb fun mb => { mb with chromaMode := some (BitVec.ofNat 2 m) }

/-- Transform size, modes and chroma mode of an `Intra4x4` macroblock (43_mb_type_motion.md R312, R314, R316). -/
def Sys2Proof.Stated.intra4x4Steps : Steps Unit := do
  let mode ← view fun s => s.transform8x8Mode
  let flag ← if mode then bitsOf 1 else pure 0
  changeMb fun m => { m with dct8x8 := some (decide (flag = 1)) }
  forEach (if flag = 1 then [0, 4, 8, 12] else List.range 16) (modeSteps (decide (flag = 1)))
  chromaModeSteps

/-- `IntraPCM` (43_mb_type_motion.md R318). -/
def Sys2Proof.Stated.pcmSteps : Steps Unit := do
  issue .align
  let depth ← view fun s => s.bitDepth
  let count ← view fun s => if s.chromaFormat = 1 then 384 else 256
  let ahead ← view fun s => s.bsLen - s.bitpos
  only (count * depth ≤ ahead)
  forEach (List.range count) fun i => do
    let v ← bitsOf depth
    change fun s => { s with pcm := Cells.put s.pcm i (BitVec.ofNat 14 v) }
  fillCounts ((List.range 24).map scan8) 16
  changeMb fun m => { m with cbp := some 47 }

/-- `ReadRef(l)` (43_mb_type_motion.md R331), for a partition that uses list `l`, else `LIST_NOT_USED`. -/
def Sys2Proof.Stated.refSteps (uses : Bool) (l : Nat) : Steps (BitVec 8) :=
  if uses then do
    let zero ← held fun s => s.mb.ref0
    let n ← view fun s => if zero then 1 else s.refCount l
    let r ← teOf n
    only (r < n)
    pure (BitVec.ofNat 8 r)
  else pure (-1)

/-- The predicted vector and two deltas, each sum wrapped to 16 bits (43_mb_type_motion.md R338). -/
def Sys2Proof.Stated.vectorSteps (predictor : Instr) : Steps Mv := do
  issue predictor
  let px ← held fun s => s.pmx
  let py ← held fun s => s.pmy
  let dx ← seOf
  let dy ← seOf
  pure ⟨BitVec.ofInt 16 (px.toInt + dx), BitVec.ofInt 16 (py.toInt + dy)⟩

/-- A partition (43_mb_type_motion.md R334, R336, R337): its number, its first block, its width and height in blocks. -/
structure Sys2Proof.Stated.Partition where
  p : Nat
  block : Nat
  w : Nat
  h : Nat

/-- The partitions of a macroblock of one or two. -/
def Sys2Proof.Stated.partitionsOf (kind : MbKind) : List Partition :=
  match kind with
  | .inter16x16 => [⟨0, 0, 4, 4⟩]
  | .inter16x8 => [⟨0, 0, 4, 2⟩, ⟨1, 8, 4, 2⟩]
  | .inter8x16 => [⟨0, 0, 2, 4⟩, ⟨1, 4, 2, 4⟩]
  | _ => []

/-- The predictor of a partition. -/
def Sys2Proof.Stated.Partition.predictor (q : Partition) (kind : MbKind) (l : Nat) (ref : BitVec 8) : Instr :=
  match kind with
  | .inter16x8 => .predMv16x8 (BitVec.ofNat 8 q.block) (BitVec.ofNat 8 l) (ref.setWidth 32)
  | .inter8x16 => .predMv8x16 (BitVec.ofNat 8 q.block) (BitVec.ofNat 8 l) (ref.setWidth 32)
  | _ => .predMv 0 4 (BitVec.ofNat 8 l) (ref.setWidth 32)

/-- Every list in use with every element, lists outermost. -/
def Sys2Proof.Stated.byList {α : Type} (lists : Nat) (xs : List α) : List (Nat × α) :=
  (List.range lists).flatMap fun l => xs.map fun x => (l, x)

/-- All references, then all vectors, of a macroblock of one or two partitions (43_mb_type_motion.md R334, R336, R337). -/
def Sys2Proof.Stated.partitionSteps (kind : MbKind) : Steps Unit := do
  let lists ← view fun s => s.listCount
  let refs ← gather (byList lists (partitionsOf kind)) fun c => do
    let uses ← held fun s => Cells.look s.mb.dir (2 * c.2.p + c.1)
    let r ← refSteps uses c.1
    fillRefs c.1 (slotsOf c.2.block c.2.w c.2.h) r
    pure (c, uses, r)
  forEach refs fun c => do
    let mv ← if c.2.1 then vectorSteps (c.1.2.predictor kind c.1.1 c.2.2) else pure ⟨0, 0⟩
    fillVectors c.1.1 (slotsOf c.1.2.block c.1.2.w c.1.2.h) mv

/-- How many pieces a shape has, their width in blocks, and the slots of a piece from its first on (43_mb_type_motion.md R309). -/
def Sys2Proof.Stated.piecesOf (shape : SubShape) : Nat × Nat × List Nat :=
  match shape with
  | .s8x8 => (1, 2, [0, 1, 8, 9])
  | .s8x4 => (2, 2, [0, 1])
  | .s4x8 => (2, 1, [0, 8])
  | .s4x4 => (4, 1, [0])

/-- The vectors of one quadrant in one list (43_mb_type_motion.md R332). -/
def Sys2Proof.Stated.quadrantSteps (l i : Nat) (motion : Nat → DirectBlock) (uses : Bool) (ref : BitVec 8) : Steps Unit := do
  let sub ← held fun s => Cells.look s.mb.sub i
  match sub.shape with
  | none => directSteps motion l [4 * i, 4 * i + 1, 4 * i + 2, 4 * i + 3]
  | some shape => do
    fillRefs l (slotsOf (4 * i) 2 2) ref
    if uses then
      forEach (List.range (piecesOf shape).1) fun j => do
        let n := 4 * i + (piecesOf shape).2.1 * j
        let mv ← vectorSteps (.predMv (BitVec.ofNat 8 n) (BitVec.ofNat 8 (piecesOf shape).2.1) (BitVec.ofNat 8 l)
          (ref.setWidth 32))
        fillVectors l ((piecesOf shape).2.2.map (scan8 n + ·)) mv
    else fillVectors l (slotsOf (4 * i) 2 2) ⟨0, 0⟩

/-- `Inter8x8` (43_mb_type_motion.md R320, R322, R332): four sub-types, all references, all vectors. -/
def Sys2Proof.Stated.inter8x8Steps : Steps Unit := do
  forEach (List.range 4) fun i => do
    let t ← ueOf
    let b ← view fun s => decide (s.sliceType = .b)
    let sub ← held fun _ => subTypeOf b t
    changeMb fun m => { m with sub := Cells.put m.sub i sub }
  let motions ← gather (List.range 4) fun i => view fun s n => Config.directPredict (s.directArgs (some i)) n
  let lists ← view fun s => s.listCount
  let refs ← gather (byList lists (List.range 4)) fun c => do
    let motion := motions.getD c.2 fun _ => default
    let sub ← held fun s => Cells.look s.mb.sub c.2
    let uses := if c.1 = 0 then sub.dir0 else sub.dir1
    let r ← if sub.shape.isNone then pure ((motion (4 * c.2)).refOf c.1) else refSteps uses c.1
    pure (c, motion, uses, r)
  forEach refs fun c => quadrantSteps c.1.1 c.1.2 c.2.1 c.2.2.1 c.2.2.2

/-- The coded block pattern (43_mb_type_motion.md R340, R341). -/
def Sys2Proof.Stated.patternSteps (kind : MbKind) : Steps Unit := do
  let c ← ueOf
  let format ← view fun s => s.chromaFormat
  let cbp ← held fun _ =>
    if format = 1 ∨ format = 2 then (if kind = .intra4x4 then golombToIntraCbp[c]? else golombToInterCbp[c]?)
    else if kind = .intra4x4 then golombToIntraCbpGray[c]? else golombToInterCbpGray[c]?
  changeMb fun m => { m with cbp := some (BitVec.ofNat 6 cbp) }

/-- The inter transform-size flag (43_mb_type_motion.md R343). -/
def Sys2Proof.Stated.transformFlagSteps (kind : MbKind) : Steps Unit := do
  let mode ← view fun s => s.transform8x8Mode
  let inference ← view fun s => s.direct8x8Inference
  let subs ← if kind = .inter8x8 then gather (List.range 4) fun i => held fun s => Cells.look s.mb.sub i else pure []
  let fits := subs.all fun m => if m.shape.isNone then inference else decide (m.shape = some .s8x8)
  let cbp ← held fun s => s.mb.cbp.map BitVec.toNat
  onlyIf (mode && fits && (decide (kind ≠ .direct) || inference) && !kind.intra && decide (cbp % 16 ≠ 0)) do
    let b ← bitsOf 1
    changeMb fun m => { m with dct8x8 := some (decide (b = 1)) }

/-- The quantizer delta (43_mb_type_motion.md R346), where it stays in range. -/
def Sys2Proof.Stated.quantizerSteps : Steps Unit := do
  let dq ← seOf
  let top ← view fun s => (s.maxQp : Int)
  let q ← view fun s => (s.qscale : Int) + dq
  let q := if q < 0 then q + top + 1 else if top < q then q - (top + 1) else q
  only (0 ≤ q ∧ q ≤ top)
  change fun s => { s with cr3 := BitVec.ofInt 32 q }
  forEach [0, 1] fun c => do
    let v ← held fun s => Cells.look s.tabs.chromaQp (128 * c + q.toNat)
    only (v.toNat ≤ top)
    change fun s => { s with chromaQp := Cells.put s.chromaQp c v }

/-- `DECODE_RESIDUAL` of each block, in order (43_mb_type_motion.md R348, R349): the blocks, the scan table, the count and a selector for
each. -/
def Sys2Proof.Stated.residualSteps (scan mc : BitVec 8) (blocks : List (Nat × Word)) : Steps Unit :=
  forEach blocks fun c => issue (.decodeResidual (BitVec.ofNat 8 c.1) scan mc c.2)

/-- The selector `D4(m, qp)` with its offset (30_encoding.md R103, R135). -/
def Sys2Proof.Stated.selectorD4 (m qp off : Nat) : Word := BitVec.ofNat 32 (2 ^ 31 + 2 ^ 24 * m + 2 ^ 16 * off + qp)

/-- The selector `D8(m, qp)` into an 8x8 quadrant with its offset (30_encoding.md R103, R135). -/
def Sys2Proof.Stated.selectorD8 (m qp off : Nat) : Word :=
  BitVec.ofNat 32 (2 ^ 31 + 2 ^ 30 + 2 ^ 29 + 2 ^ 24 * m + 2 ^ 16 * off + qp)

/-- `MB.nnz_sum[q]` takes a sum. -/
def Sys2Proof.Stated.sumSteps (q v : Nat) : Steps Unit :=
  changeMb fun m => { m with nnzSum := Cells.put m.nnzSum q (BitVec.ofNat 7 v) }

/-- The luma residual (43_mb_type_motion.md R348, R352). -/
def Sys2Proof.Stated.lumaSteps (kind : MbKind) (cbp : Nat) : Steps Unit := do
  let qp ← view fun s => s.qscale
  if kind = .intra16x16 then do
    residualSteps 0 16 [(24, 0)]
    if cbp % 16 = 0 then fillCounts (slotsOf 0 4 4) 0
    else residualSteps 0 15 ((List.range 16).map fun n => (n, selectorD4 0 qp 1))
  else do
    let big ← held fun s => s.mb.dct8x8
    forEach (List.range 4) fun q =>
      if cbp / 2 ^ q % 2 = 0 then do
        fillCounts (slotsOf (4 * q) 2 2) 0
        sumSteps q 0
      else if big then do
        residualSteps 2 16 ((List.range 4).map fun k => (4 * q + k, selectorD8 (if kind.intra then 0 else 1) qp (16 * k)))
        let counts ← gather (slotsOf (4 * q) 2 2) fun k => held fun s => Cells.look s.cache.nnz k
        sumSteps q (counts.map BitVec.toNat).sum
      else residualSteps 0 16 ((List.range 4).map fun k => (4 * q + k, selectorD4 (if kind.intra then 0 else 3) qp 0))

/-- The chroma residual (43_mb_type_motion.md R349). -/
def Sys2Proof.Stated.chromaSteps (kind : MbKind) (cbp : Nat) : Steps Unit := do
  let format ← view fun s => s.chromaFormat
  onlyIf (decide (format = 1 ∧ cbp / 16 % 4 ≠ 0)) (residualSteps 4 4 [(25, 0), (26, 0)])
  if format = 1 ∧ cbp / 32 % 2 = 1 then
    forEach [0, 1] fun c => do
      let qp ← held fun s => (Cells.look s.chromaQp c).map BitVec.toNat
      residualSteps 0 15
        ((List.range 4).map fun k => (16 + 4 * c + k, selectorD4 (c + 1 + if kind.intra then 0 else 3) qp 1))
  else fillCounts ((List.range 8).map fun k => scan8 (16 + k)) 0

/-- A macroblock that is not skipped (43_mb_type_motion.md R301, R305). -/
def Sys2Proof.Stated.codedSteps : Steps Unit := do
  let t ← ueOf
  let sl ← view fun s => s.sliceType
  let m ← held fun _ => typeOf sl t
  changeMb fun _ => m
  issue .cacheFill
  let kind ← held fun s => s.mb.kind
  if kind = .intraPcm then pcmSteps
  else do
    match kind with
    | .intra4x4 => intra4x4Steps
    | .intra16x16 => chromaModeSteps
    | .inter8x8 => inter8x8Steps
    | .direct => directMacroblock
    | _ => partitionSteps kind
    onlyIf (decide (kind ≠ .intra16x16)) (patternSteps kind)
    transformFlagSteps kind
    let cbp ← held fun s => s.mb.cbp.map BitVec.toNat
    if 0 < cbp ∨ kind = .intra16x16 then do
      quantizerSteps
      lumaSteps kind cbp
      chromaSteps kind cbp
    else do
      fillCounts ((List.range 24).map scan8) 0
      forEach (List.range 4) fun q => sumSteps q 0
    change fun s => { s with res := some 0 }

/-- `MB_DECODE` as the commands it is made of (43_mb_type_motion.md R301). -/
def Sys2Proof.Stated.decodeSteps : Steps Unit := do
  let sl ← view fun s => s.sliceType
  let skipped ← if sl = .i then pure false else skipRunSteps
  if skipped then skippedSteps else codedSteps

/-- `MB_DECODE` of any macroblock does what its steps do one after another (43_mb_type_motion.md R301 to R303, R305 to R309, R312, R314,
R316, R318, R320, R322, R331, R332, R334, R336 to R341, R343, R346, R348, R349, R352; 30_encoding.md R135): the skip run, the type,
`CACHE_FILL`, the prediction modes or the references and vectors by their predictors, the coded block pattern, the
transform size, the quantizer and the residual blocks, each read and each command as issued on its own.
That `nnz_sum` is 0 with no residual (log 10), when `DirectPredict` is asked (log 21), that `RES` stays where R301 returns
(log 24), what else of `MB` is `undef` (log 26), when a long skip run is an error (log 25) and which registers `DirectPredict` is
given (log 7) are the model's choice; `DirectPredict` itself is a free value (log 7).
Marked by the spec as from general knowledge, in whole or in part: R302, R306, R307, R308, R309, R312, R314, R316, R318,
R332, R338, R341, R343, R348, R349, R352; its decision: R135. -/
def Obligations.MacroblockDecodesBySteps : Prop :=
  ∀ s u : State, s.engine = .run → afterSteps decodeSteps s = some u →
    exec .mbDecode s = .next { u with status := .ended .ok }

/-! ### Motion compensation -/

/-- A reference sample with edge emulation (44_motion_comp.md R374). -/
def Sys2Proof.Stated.refAt (s : State) (r : RefPic) (p : Nat) (x y : Int) : Int :=
  let cx := (min (max x 0) ((s.planeW p : Int) - 1)).toNat
  let cy := (min (max y 0) ((s.planeH p : Int) - 1)).toNat
  (r.planes.sample s.bitDepth p (2 ^ 20 * cy + cx) : Nat)

/-- `Clip` (44_motion_comp.md R370). -/
def Sys2Proof.Stated.clip (s : State) (v : Int) : Int := min (max v 0) (2 ^ s.bitDepth - 1)

/-- `tap` (44_motion_comp.md R375). -/
def Sys2Proof.Stated.taps (a b c d e f : Int) : Int := a - 5 * b + 20 * c + 20 * d - 5 * e + f

/-- `b1` (44_motion_comp.md R375). -/
def Sys2Proof.Stated.b1 (R : Int → Int → Int) (x y : Int) : Int :=
  taps (R (x - 2) y) (R (x - 1) y) (R x y) (R (x + 1) y) (R (x + 2) y) (R (x + 3) y)

/-- `h1` (44_motion_comp.md R375). -/
def Sys2Proof.Stated.h1 (R : Int → Int → Int) (x y : Int) : Int :=
  taps (R x (y - 2)) (R x (y - 1)) (R x y) (R x (y + 1)) (R x (y + 2)) (R x (y + 3))

/-- `j1` (44_motion_comp.md R375). -/
def Sys2Proof.Stated.j1 (R : Int → Int → Int) (x y : Int) : Int :=
  taps (b1 R x (y - 2)) (b1 R x (y - 1)) (b1 R x y) (b1 R x (y + 1)) (b1 R x (y + 2)) (b1 R x (y + 3))

/-- `A2` (44_motion_comp.md R375). -/
def Sys2Proof.Stated.average (u v : Int) : Int := (u + v + 1) / 2

/-- The luma sample of phase (mx, my) (44_motion_comp.md R376 to R391): `clip` rounds the half samples. -/
def Sys2Proof.Stated.lumaPhase (R : Int → Int → Int) (clip : Int → Int) (mx my : Nat) (x y : Int) : Int :=
  let b := fun x y => clip ((b1 R x y + 16) / 32)
  let h := fun x y => clip ((h1 R x y + 16) / 32)
  let j := fun x y => clip ((j1 R x y + 512) / 1024)
  match mx, my with
  | 0, 0 => R x y
  | 1, 0 => average (R x y) (b x y)
  | 2, 0 => b x y
  | 3, 0 => average (R (x + 1) y) (b x y)
  | 0, 1 => average (R x y) (h x y)
  | 1, 1 => average (b x y) (h x y)
  | 2, 1 => average (b x y) (j x y)
  | 3, 1 => average (b x y) (h (x + 1) y)
  | 0, 2 => h x y
  | 1, 2 => average (h x y) (j x y)
  | 2, 2 => j x y
  | 3, 2 => average (j x y) (h (x + 1) y)
  | 0, 3 => average (R x (y + 1)) (h x y)
  | 1, 3 => average (h x y) (b x (y + 1))
  | 2, 3 => average (j x y) (b x (y + 1))
  | _, _ => average (h (x + 1) y) (b x (y + 1))

/-- The chroma sample at a fraction in eighths (44_motion_comp.md R394). -/
def Sys2Proof.Stated.chromaSample (R : Int → Int → Int) (fx fy : Nat) (x y : Int) : Int :=
  ((8 - fx) * (8 - fy) * R x y + fx * (8 - fy) * R (x + 1) y + (8 - fx) * fy * R x (y + 1)
    + fx * fy * R (x + 1) (y + 1) + 32) / 64

/-- The phase of a `QPEL_MCxy` (44_motion_comp.md R376 to R391). -/
def Sys2Proof.Stated.phaseOf (i : Instr) : Option (Nat × Nat) :=
  match i with
  | .qpelMc00 => some (0, 0)
  | .qpelMc10 => some (1, 0)
  | .qpelMc20 => some (2, 0)
  | .qpelMc30 => some (3, 0)
  | .qpelMc01 => some (0, 1)
  | .qpelMc11 => some (1, 1)
  | .qpelMc21 => some (2, 1)
  | .qpelMc31 => some (3, 1)
  | .qpelMc02 => some (0, 2)
  | .qpelMc12 => some (1, 2)
  | .qpelMc22 => some (2, 2)
  | .qpelMc32 => some (3, 2)
  | .qpelMc03 => some (0, 3)
  | .qpelMc13 => some (1, 3)
  | .qpelMc23 => some (2, 3)
  | .qpelMc33 => some (3, 3)
  | _ => none

/-- A block of a plane: its top-left sample and its size. -/
structure Sys2Proof.Stated.Block where
  x : Nat
  y : Nat
  w : Nat
  h : Nat

/-- The sample (x, y) lies in the block. -/
def Sys2Proof.Stated.Block.has (b : Block) (x y : Nat) : Bool :=
  decide (b.x ≤ x ∧ x < b.x + b.w ∧ b.y ≤ y ∧ y < b.y + b.h)

/-- In plane `p` the block of `t` holds `f`, every other sample of the plane is as in `s`, and so is every sample of the other
planes: the planes of `t` are those of `s` but for the block. -/
def Sys2Proof.Stated.blockWritten (s t : State) (p : Nat) (b : Block) (f : Nat → Nat → Int) : Prop :=
  (∀ x y, x < s.planeW p → (t.sample p x y : Int) = if b.has x y then f x y else (s.sample p x y : Nat))
    ∧ (∀ k, (∀ x y, b.has x y = true → k ≠ 2 ^ 20 * y + x) →
        Cells.look (t.pic.planes.plane p) k = Cells.look (s.pic.planes.plane p) k)
    ∧ ∀ q, q ≤ 2 → q ≠ p → t.pic.planes.plane q = s.pic.planes.plane q

/-- The block lies in plane `p`. -/
def Sys2Proof.Stated.inPlane (s : State) (p : Nat) (b : Block) : Bool :=
  decide (b.x + b.w ≤ s.planeW p ∧ b.y + b.h ≤ s.planeH p)

/-- The destination and source the operand registers hold (44_motion_comp.md R371). -/
structure Sys2Proof.Stated.Operands where
  b : Block
  sx : Int
  sy : Int
  l : Nat
  r : Nat

/-- The operand registers hold these operands, and `avg` and `buf`. -/
def Sys2Proof.Stated.operandsAre (m : McRegs) (o : Operands) (avg buf : BitVec 1) : Prop :=
  m.dstX.map BitVec.toNat = some o.b.x ∧ m.dstY.map BitVec.toNat = some o.b.y
    ∧ m.w.map BitVec.toNat = some o.b.w ∧ m.h.map BitVec.toNat = some o.b.h
    ∧ m.srcX.map BitVec.toInt = some o.sx ∧ m.srcY.map BitVec.toInt = some o.sy
    ∧ m.list.map BitVec.toNat = some o.l ∧ m.ref.map BitVec.toNat = some o.r ∧ m.avg = some avg ∧ m.buf = some buf

/-- The rows of plane `p` of the reference that the taps touch, down to `below` rows under the block, are published (20_memory.md R83,
44_motion_comp.md R374). -/
def Sys2Proof.Stated.rowsReady (s : State) (r : RefPic) (p : Nat) (o : Operands) (below : Int) : Bool :=
  let last := min (max (o.sy + o.b.h - 1 + below) 0) ((s.planeH p : Int) - 1)
  decide ((if p ≠ 0 ∧ s.chromaFormat = 1 then 2 * last else last) ≤ r.progress.toInt ∧ 0 ≤ r.progress.toInt)

/-- The element of `TMP` that stands for sample (x, y) of plane `p` (10_state.md R55). -/
def Sys2Proof.Stated.scratch (p x y : Nat) : Nat := 256 * p + 16 * (y % 16) + x % 16

/-- A sample operation of plane `p` (44_motion_comp.md R375) whose formula at sample (dx, dy) of the block is `v`, where `ready` says
that the reference's rows are published. Into the picture: each sample of the block is `v`, or its average with what
stands there. Into the scratch buffer: the same in `TMP`, and an element averaged with must hold a value. Nothing else
changes but the free-value counter. Where a row is not published what the block takes is free, and only the block changes.
A block that leaves the plane is turned away. -/
def Sys2Proof.Stated.sampleOperation (i : Instr) (s : State) (p : Nat) (o : Operands) (ready : Bool)
    (v : Nat → Nat → Int) : Prop :=
  ∀ avg : BitVec 1,
    (operandsAre s.mc o avg 0 → inPlane s p o.b = true → ∃ (t : State) (f : Nat → Nat → Int), exec i s = .next t
      ∧ t = { s with pic := { s.pic with planes := t.pic.planes }, freeCtr := s.freeCtr + 1, status := .ended .ok }
      ∧ t.pic.planes.gen = s.pic.planes.gen ∧ blockWritten s t p o.b f
      ∧ (ready = true → ∀ x y, o.b.has x y = true → f x y =
          if avg = 1 then average (s.sample p x y : Nat) (v (x - o.b.x) (y - o.b.y)) else v (x - o.b.x) (y - o.b.y)))
    ∧ (operandsAre s.mc o avg 0 → inPlane s p o.b = false → exec i s = .next (refusedBy s))
    ∧ (operandsAre s.mc o avg 1 →
      (∀ dx dy, dx < o.b.w → dy < o.b.h → avg = 1 → (Cells.look s.tmp (scratch p (o.b.x + dx) (o.b.y + dy))).isSome = true) →
      ∃ t, exec i s = .next t
        ∧ t = { s with tmp := t.tmp, freeCtr := s.freeCtr + 1, status := .ended .ok }
        ∧ (ready = true → ∀ dx dy, dx < o.b.w → dy < o.b.h → Cells.look t.tmp (scratch p (o.b.x + dx) (o.b.y + dy)) =
            some (BitVec.ofInt 14 (
              if avg = 1 then average (((Cells.look s.tmp (scratch p (o.b.x + dx) (o.b.y + dy))).getD 0).toNat : Nat) (v dx dy)
              else v dx dy)))
        ∧ ∀ k, (∀ dx dy, dx < o.b.w → dy < o.b.h → k ≠ scratch p (o.b.x + dx) (o.b.y + dy)) →
            Cells.look t.tmp k = Cells.look s.tmp k)
    ∧ (operandsAre s.mc o 1 1 →
      (∃ dx dy, dx < o.b.w ∧ dy < o.b.h ∧ Cells.look s.tmp (scratch p (o.b.x + dx) (o.b.y + dy)) = none) →
      exec i s = .fault .uninitialisedRead)

/-- `MC_SET` (44_motion_comp.md R371, 10_state.md R54): the register named takes the value, and the others keep theirs; a number above 11 or
a value outside its set is turned away.
That a destination is legal inside the luma plane is the model's choice (log 17).
Marked by the spec as its decision: R54, R371. -/
def Obligations.McRegisterWrite : Prop :=
  ∀ (s : State) (a : BitVec 8) (d : Word), s.engine = .run → exec (.mcSet a d) s = .next (
    match a.toNat with
    | 0 => if d.toNat < 2 ^ 16 ∧ d.toNat < s.planeW 0 then { s with mc := { s.mc with dstX := some (d.extractLsb' 0 16) }, status := .ended .ok }
      else refusedBy s
    | 1 => if d.toNat < 2 ^ 16 ∧ d.toNat < s.planeH 0 then { s with mc := { s.mc with dstY := some (d.extractLsb' 0 16) }, status := .ended .ok }
      else refusedBy s
    | 2 => { s with mc := { s.mc with srcX := some d }, status := .ended .ok }
    | 3 => { s with mc := { s.mc with srcY := some d }, status := .ended .ok }
    | 4 => if d.toNat ∈ [2, 4, 8, 16] then { s with mc := { s.mc with w := some (d.extractLsb' 0 5) }, status := .ended .ok }
      else refusedBy s
    | 5 => if d.toNat ∈ [2, 4, 8, 16] then { s with mc := { s.mc with h := some (d.extractLsb' 0 5) }, status := .ended .ok }
      else refusedBy s
    | 6 => if d.toNat ≤ 1 then { s with mc := { s.mc with list := some (d.extractLsb' 0 1) }, status := .ended .ok }
      else refusedBy s
    | 7 => if d.toNat ≤ 31 then { s with mc := { s.mc with ref := some (d.extractLsb' 0 5) }, status := .ended .ok }
      else refusedBy s
    | 8 => if d.toNat ≤ 1 then { s with mc := { s.mc with avg := some (d.extractLsb' 0 1) }, status := .ended .ok }
      else refusedBy s
    | 9 => if d.toNat ≤ 7 then { s with mc := { s.mc with fx := some (d.extractLsb' 0 3) }, status := .ended .ok }
      else refusedBy s
    | 10 => if d.toNat ≤ 7 then { s with mc := { s.mc with fy := some (d.extractLsb' 0 3) }, status := .ended .ok }
      else refusedBy s
    | 11 => if d.toNat ≤ 1 then { s with mc := { s.mc with buf := some (d.extractLsb' 0 1) }, status := .ended .ok }
      else refusedBy s
    | _ => refusedBy s)

/-- The sixteen luma phases, `QPEL_MCxy` (44_motion_comp.md R374 to R391): into the picture or into the scratch buffer, each sample of
the destination block is the phase's, or its average with what stands there, where the reference's rows are published, and
nothing else changes but the free-value counter (log 4). A block that leaves the plane is turned away.
That a block written into `TMP` leaves no plane is the model's choice (log 33).
Marked by the spec as from general knowledge, in whole or in part: R374, R375. -/
def Obligations.LumaPhases : Prop :=
  ∀ (i : Instr) (s : State) (mx my : Nat) (o : Operands) (ref : RefPic),
    phaseOf i = some (mx, my) → s.engine = .run → s.bitDepthLegal = true →
    s.refPic o.l o.r = some ref → o.b.w ≤ 16 → o.b.h ≤ 16 →
      sampleOperation i s 0 o (rowsReady s ref 0 o 3) fun dx dy =>
        lumaPhase (refAt s ref 0) (clip s) mx my (o.sx + dx) (o.sy + dy)

/-- `MC_CHROMA` (44_motion_comp.md R374, R375, R394): in plane Cb or Cr, or in the scratch buffer, each sample of the destination block is
the bilinear one at the fraction in eighths, or its average with what stands there, where the reference's rows are
published, and nothing else changes but the free-value counter (log 4). A block that leaves the plane is turned away, and so is
the command with no chroma.
That a block written into `TMP` leaves no plane is the model's choice (log 33), and so is which rows of chroma are
published (log 20).
Marked by the spec as from general knowledge, in whole or in part: R374, R375, R394. -/
def Obligations.ChromaInterpolation : Prop :=
  ∀ (s : State) (a : BitVec 8), s.engine = .run → s.bitDepthLegal = true → (a.toNat = 1 ∨ a.toNat = 2) →
    (∀ (o : Operands) (fx fy : BitVec 3) (ref : RefPic), s.chromaFormat ≠ 0 → s.mc.fx = some fx → s.mc.fy = some fy →
      s.refPic o.l o.r = some ref → o.b.w ≤ 16 → o.b.h ≤ 16 →
        sampleOperation (.mcChroma a) s a.toNat o (rowsReady s ref a.toNat o 1) fun dx dy =>
          chromaSample (refAt s ref a.toNat) fx.toNat fy.toNat (o.sx + dx) (o.sy + dy))
    ∧ (s.chromaFormat = 0 → exec (.mcChroma a) s = .next (refusedBy s))

/-- The explicit weight (`k = 0`) or offset (`k = 1`) of a reference, for a plane (44_motion_comp.md R400; 70_reset_and_hazards.md R514). -/
def Sys2Proof.Stated.weightOf (s : State) (p l r k : Nat) : Option (BitVec 16) :=
  if p = 0 then Cells.look s.tabs.lumaWeight ((l * 32 + r) * 2 + k)
  else Cells.look s.tabs.chromaWeight (((l * 32 + r) * 2 + (p - 1)) * 2 + k)

/-- `log2_weight_denom` of a plane (10_state.md R37). -/
def Sys2Proof.Stated.denomOf (s : State) (p : Nat) : Nat :=
  if p = 0 then (s.cr9.extractLsb' 0 3).toNat else (s.cr9.extractLsb' 3 3).toNat

/-- The destination registers hold this block. -/
def Sys2Proof.Stated.destinationIs (m : McRegs) (b : Block) : Prop :=
  m.dstX.map BitVec.toNat = some b.x ∧ m.dstY.map BitVec.toNat = some b.y
    ∧ m.w.map BitVec.toNat = some b.w ∧ m.h.map BitVec.toNat = some b.h

/-- `WEIGHT_UNI` and `WEIGHT_BI` (44_motion_comp.md R400, R401): each sample of the destination block is weighted in place, or blended
with the scratch buffer's, by explicit or implicit weights; no other sample and nothing else changes. With no weighting in use
`WEIGHT_BI` is turned away.
Marked by the spec as from general knowledge, in whole or in part: R400, R401. -/
def Obligations.WeightedPrediction : Prop :=
  ∀ (s : State) (p : BitVec 8) (b : Block), s.engine = .run → s.bitDepthLegal = true → p.toNat ≤ 2 →
    destinationIs s.mc b → inPlane s p.toNat b = true →
    (∀ (l r : BitVec 8) (w o : BitVec 16), l.toNat ≤ 1 → r.toNat ≤ 31 → weightOf s p.toNat l.toNat r.toNat 0 = some w →
      weightOf s p.toNat l.toNat r.toNat 1 = some o → ∃ t, exec (.weightUni p l r) s = .next t
        ∧ t = { s with pic := { s.pic with planes := t.pic.planes }, status := .ended .ok }
        ∧ t.pic.planes.gen = s.pic.planes.gen
        ∧ blockWritten s t p.toNat b fun x y =>
            let d : Int := (s.sample p.toNat x y : Nat)
            let ld := denomOf s p.toNat
            clip s ((if 1 ≤ ld then (d * w.toInt + 2 ^ (ld - 1)) / 2 ^ ld else d * w.toInt)
              + o.toInt * 2 ^ (s.bitDepth - 8)))
    ∧ (∀ (r0 r1 : BitVec 8) (w0 w1 os : Int) (ld : Nat), r0.toNat ≤ 31 → r1.toNat ≤ 31 →
      (∀ dx dy, dx < b.w → dy < b.h →
        (Cells.look s.tmp (256 * p.toNat + 16 * ((b.y + dy) % 16) + (b.x + dx) % 16)).isSome = true) →
      ((s.useWeight = 1 ∧ (weightOf s p.toNat 0 r0.toNat 0).map BitVec.toInt = some w0
          ∧ (weightOf s p.toNat 1 r1.toNat 0).map BitVec.toInt = some w1
          ∧ (∃ o0 o1 : BitVec 16, weightOf s p.toNat 0 r0.toNat 1 = some o0 ∧ weightOf s p.toNat 1 r1.toNat 1 = some o1
            ∧ os = o0.toInt + o1.toInt) ∧ ld = denomOf s p.toNat)
        ∨ (s.useWeight = 2
          ∧ (Cells.look s.tabs.implicitWeight (r0.toNat * 32 + r1.toNat)).map BitVec.toInt = some w0
          ∧ w1 = 64 - w0 ∧ os = 0 ∧ ld = 5)) →
      ∃ t, exec (.weightBi p r0 r1) s = .next t
        ∧ t = { s with pic := { s.pic with planes := t.pic.planes }, status := .ended .ok }
        ∧ t.pic.planes.gen = s.pic.planes.gen
        ∧ blockWritten s t p.toNat b fun x y =>
            let d : Int := (s.sample p.toNat x y : Nat)
            let e : Int := (s.tmpAt p.toNat x y : Nat)
            clip s ((d * w0 + e * w1 + 2 ^ ld) / 2 ^ (ld + 1) + (os * 2 ^ (s.bitDepth - 8) + 1) / 2))
    ∧ ∀ r0 r1 : BitVec 8, s.useWeight = 0 → exec (.weightBi p r0 r1) s = .next (refusedBy s)

/-- The list-0 weight from the picture order counts (44_motion_comp.md R405). -/
def Sys2Proof.Stated.implicitOf (cur poc0 poc1 : Int) : Int :=
  let td := min (max (poc1 - poc0) (-128)) 127
  let tb := min (max (cur - poc0) (-128)) 127
  if td = 0 then 32
  else
    let tx := Int.tdiv (16384 + (td.natAbs : Int) / 2) td
    let dsf := (tb * tx + 32) / 256
    if -64 ≤ dsf ∧ dsf ≤ 128 then 64 - dsf else 32

/-- `IMPLICIT_WEIGHT` (44_motion_comp.md R405): every pair of active references gets its weight, 32 where one is long-term; no other
entry and nothing else changes.
What the 8 bits of an element (10_state.md R50) hold of the weight 128 is a free value (log 9). That it is
accepted while a slice is decoded is read from R405 against 20_memory.md R85 (log 34).
Marked by the spec as from general knowledge, in whole or in part: R50, R405; its decision: R85. -/
def Obligations.ImplicitWeights : Prop :=
  ∀ s : State, reading s = true → s.refCount 0 ≤ 32 → s.refCount 1 ≤ 32 →
    (∀ l r, l ≤ 1 → r < s.refCount l → (Cells.look s.tabs.refLong (l * 32 + r)).isSome = true
      ∧ (Cells.look s.tabs.refPoc (l * 32 + r)).isSome = true) →
    ∃ t, exec .implicitWeight s = .next t
      ∧ t = { s with tabs := { s.tabs with implicitWeight := t.tabs.implicitWeight }, status := .ended .ok }
      ∧ (∀ r0 r1 long0 long1 poc0 poc1, r0 < s.refCount 0 → r1 < s.refCount 1 →
          Cells.look s.tabs.refLong r0 = some long0 → Cells.look s.tabs.refLong (32 + r1) = some long1 →
          Cells.look s.tabs.refPoc r0 = some poc0 → Cells.look s.tabs.refPoc (32 + r1) = some poc1 →
          ∃ v : BitVec 8, Cells.look t.tabs.implicitWeight (r0 * 32 + r1) = some v
            ∧ ((long0 || long1) = true → v = 32)
            ∧ ((long0 || long1) = false → implicitOf s.cr10.toInt poc0.toInt poc1.toInt ≤ 127 →
              v.toInt = implicitOf s.cr10.toInt poc0.toInt poc1.toInt))
      ∧ ∀ k, (∀ r0 r1, r0 < s.refCount 0 → r1 < s.refCount 1 → k ≠ r0 * 32 + r1) →
          Cells.look t.tabs.implicitWeight k = Cells.look s.tabs.implicitWeight k

/-- `WAIT_ROW` (44_motion_comp.md R372): it completes once the row is published, it waits and changes nothing until then, and it is turned
away for a list or reference that is not in use or outside `RUN`.
That the row is a signed number is the model's choice (log 16). -/
def Obligations.WaitForRow : Prop :=
  ∀ (s : State) (l r : BitVec 8) (row : Word) (ref : RefPic),
    (s.engine = .run → l.toNat < s.listCount → r.toNat < s.refCount l.toNat → r.toNat ≤ 31 →
      s.refPic l.toNat r.toNat = some ref → exec (.waitRow l r row) s = .next
        { s with status := if row.toInt ≤ ref.progress.toInt then .ended .ok else .waiting })
    ∧ (s.engine ≠ .run ∨ s.listCount ≤ l.toNat ∨ s.refCount l.toNat ≤ r.toNat →
      exec (.waitRow l r row) s = .next (refusedBy s))

/-- The top-left sample of luma block `n` inside its macroblock (00_scope.md R9). -/
def Sys2Proof.Stated.blockX (n : Nat) : Nat := 4 * [0, 1, 0, 1, 2, 3, 2, 3, 0, 1, 0, 1, 2, 3, 2, 3].getD n 0

/-- The same, vertically. -/
def Sys2Proof.Stated.blockY (n : Nat) : Nat := 4 * [0, 0, 1, 1, 0, 0, 1, 1, 2, 2, 3, 3, 2, 2, 3, 3].getD n 0

/-- The operand registers take a destination block and a source position for a plane (44_motion_comp.md R408). -/
def Sys2Proof.Stated.aimAt (b : Block) : Steps Unit := do
  only (b.x < 2 ^ 16 ∧ b.y < 2 ^ 16)
  change fun s => { s with mc := { s.mc with
    dstX := some (BitVec.ofNat 16 b.x), dstY := some (BitVec.ofNat 16 b.y)
    w := some (BitVec.ofNat 5 b.w), h := some (BitVec.ofNat 5 b.h) } }

/-- The source registers take a position (44_motion_comp.md R408). -/
def Sys2Proof.Stated.sourceAt (x y : Int) : Steps Unit :=
  change fun s => { s with mc := { s.mc with srcX := some (BitVec.ofInt 32 x), srcY := some (BitVec.ofInt 32 y) } }

/-- The luma phases in the order of their numbers (44_motion_comp.md R376 to R391). -/
def Sys2Proof.Stated.phases : List Instr :=
  [.qpelMc00, .qpelMc10, .qpelMc20, .qpelMc30, .qpelMc01, .qpelMc11, .qpelMc21, .qpelMc31,
    .qpelMc02, .qpelMc12, .qpelMc22, .qpelMc32, .qpelMc03, .qpelMc13, .qpelMc23, .qpelMc33]

/-- A luma block halved, as its chroma block of 4:2:0. -/
def Sys2Proof.Stated.Block.half (b : Block) : Block := ⟨b.x / 2, b.y / 2, b.w / 2, b.h / 2⟩

/-- The row `MC_PART` waits for (44_motion_comp.md R373): `sy` is the first luma row of the source, `h` the height. -/
def Sys2Proof.Stated.rowNeeded (s : State) (sy : Int) (h : Nat) : Int := min (16 * (s.picH : Int) - 1) (max 0 (sy + h + 2))

/-- The prediction of a partition from reference `r` of list `l`; `buf` and `avg` say where it goes (44_motion_comp.md R408). -/
def Sys2Proof.Stated.predictSteps (b : Block) (slot l r : Nat) (buf avg : Bool) : Steps Unit := do
  let mv ← held fun s => Cells.look s.cache.mv (75 * l + slot)
  let row ← view fun s => rowNeeded s (b.y + mv.y.toInt / 4) b.h
  issue (.waitRow (BitVec.ofNat 8 l) (BitVec.ofNat 8 r) (BitVec.ofInt 32 row))
  change fun s => { s with mc := { s.mc with
    list := some (BitVec.ofNat 1 l), ref := some (BitVec.ofNat 5 r)
    buf := some (BitVec.ofBool buf), avg := some (BitVec.ofBool avg) } }
  aimAt b
  sourceAt (b.x + mv.x.toInt / 4) (b.y + mv.y.toInt / 4)
  issue (phases.getD ((mv.x.toInt % 4).toNat + 4 * (mv.y.toInt % 4).toNat) .qpelMc00)
  let chroma ← view fun s => decide (s.chromaFormat = 1)
  onlyIf chroma do
    forEach [1, 2] fun p => do
      aimAt b.half
      sourceAt (b.half.x + mv.x.toInt / 8) (b.half.y + mv.y.toInt / 8)
      change fun s => { s with mc := { s.mc with
        fx := some (BitVec.ofInt 3 (mv.x.toInt % 8)), fy := some (BitVec.ofInt 3 (mv.y.toInt % 8)) } }
      issue (.mcChroma p)

/-- `MC_PART` as the commands it is made of (44_motion_comp.md R408). -/
def Sys2Proof.Stated.partSteps (n w h : Nat) : Steps Unit := do
  let slot := scan8 n
  let b ← view fun s => (⟨16 * s.mbX.toNat + blockX n, 16 * s.mbY.toNat + blockY n, w, h⟩ : Block)
  let lists ← view fun s => s.listCount
  let refs ← gather (List.range lists) fun l => do
    let r ← held fun s => Cells.look s.cache.ref (75 * l + slot)
    pure (l, r)
  let used := refs.filter fun c => decide (0 ≤ c.2.toInt)
  let mode ← view fun s => s.useWeight
  let weighted := decide (mode = 1 ∨ (mode = 2 ∧ used.length = 2))
  match used with
  | [] => only false
  | c :: more => do
    predictSteps b slot c.1 c.2.toNat false false
    forEach more fun c => predictSteps b slot c.1 c.2.toNat weighted (!weighted)
  onlyIf weighted do
    let chroma ← view fun s => decide (s.chromaFormat = 1)
    forEach ((0 : BitVec 8) :: if chroma then [1, 2] else []) fun p => do
      aimAt (if p = 0 then b else b.half)
      match used with
      | [] => only false
      | [c] => issue (.weightUni p (BitVec.ofNat 8 c.1) c.2)
      | c :: d :: _ => issue (.weightBi p c.2 d.2)

/-- `MC_PART` does what the commands it is made of do one after another (44_motion_comp.md R408, R373): per list used, the wait for the
needed row, the operand registers, the luma phase and for 4:2:0 `MC_CHROMA` of both planes, the second list averaged in
place or put into the scratch buffer; then the weighting.
From one list and unweighted (R374 to R394): it waits until the needed row is published, and then each luma sample is the phase's
of the vector's fraction at the vector's whole offset, each chroma sample of 4:2:0 the bilinear one in eighths, and no
sample outside the partition changes.
What a destination register holds of a coordinate of more than 16 bits is a free value (log 8): the steps and the samples
are stated for coordinates that fit. Which rows of chroma are published is the model's choice (log 20).
Marked by the spec as from general knowledge, in whole or in part: R374, R375, R394; its decision: R373; derived: R392. -/
def Obligations.PartitionPrediction : Prop :=
  (∀ (s u : State) (n w h : BitVec 8), s.engine = .run → Instr.wellFormed (.mcPart n w h) = true →
    afterSteps (partSteps n.toNat w.toNat h.toNat) s = some u →
      exec (.mcPart n w h) s = .next { u with status := .ended .ok })
    ∧ ∀ (s : State) (n w h : BitVec 8) (l : Nat) (r : BitVec 8) (mv : Mv) (ref : RefPic),
    s.engine = .run → s.bitDepthLegal = true → s.chromaFormat ≤ 1 → s.useWeight ≠ 1 →
    Instr.wellFormed (.mcPart n w h) = true → s.mbX.toNat < s.picW → s.mbY.toNat < s.picH →
    s.mbX.toNat < 4096 → s.mbY.toNat < 4096 →
    l < s.listCount → (∀ k, k < s.listCount → ∃ c, Cells.look s.cache.ref (75 * k + scan8 n.toNat) = some c
        ∧ (0 ≤ c.toInt ↔ k = l)) →
    Cells.look s.cache.ref (75 * l + scan8 n.toNat) = some r → r.toNat < s.refCount l → r.toNat ≤ 31 →
    Cells.look s.cache.mv (75 * l + scan8 n.toNat) = some mv → s.refPic l r.toNat = some ref →
    let b : Block := ⟨16 * s.mbX.toNat + blockX n.toNat, 16 * s.mbY.toNat + blockY n.toNat, w.toNat, h.toNat⟩
    let row := rowNeeded s (b.y + mv.y.toInt / 4) b.h
    (ref.progress.toInt < row → exec (.mcPart n w h) s = .next { s with status := .waiting })
    ∧ (row ≤ ref.progress.toInt → ∃ t, exec (.mcPart n w h) s = .next t
        ∧ t = { s with
          pic := { s.pic with planes := t.pic.planes }, mc := t.mc, freeCtr := t.freeCtr, status := .ended .ok }
        ∧ t.pic.planes.gen = s.pic.planes.gen
        ∧ (∀ x y, x < s.planeW 0 → (t.sample 0 x y : Int) = if b.has x y then
          lumaPhase (refAt s ref 0) (clip s) (mv.x.toInt % 4).toNat (mv.y.toInt % 4).toNat
            (x + mv.x.toInt / 4) (y + mv.y.toInt / 4) else (s.sample 0 x y : Nat))
        ∧ ∀ p x y, (p = 1 ∨ p = 2) → x < s.planeW p → (t.sample p x y : Int) = if s.chromaFormat = 1 ∧ b.half.has x y then
          chromaSample (refAt s ref p) (mv.x.toInt % 8).toNat (mv.y.toInt % 8).toNat
            (x + mv.x.toInt / 8) (y + mv.y.toInt / 8) else (s.sample p x y : Nat))

/-! ### Transforms and reconstruction -/

/-- `T4` (45_reconstruction.md R421). -/
def Sys2Proof.Stated.t4 (c0 c1 c2 c3 : Int) : List Int :=
  let e0 := c0 + c2
  let e1 := c0 - c2
  let e2 := c1 / 2 - c3
  let e3 := c1 + c3 / 2
  [e0 + e3, e1 + e2, e1 - e2, e0 - e3]

/-- `T8` (45_reconstruction.md R425). -/
def Sys2Proof.Stated.t8 (c0 c1 c2 c3 c4 c5 c6 c7 : Int) : List Int :=
  let a0 := c0 + c4
  let a2 := c0 - c4
  let a4 := c2 / 2 - c6
  let a6 := c2 + c6 / 2
  let a1 := -c3 + c5 - c7 - c7 / 2
  let a3 := c1 + c7 - c3 - c3 / 2
  let a5 := -c1 + c7 + c5 + c5 / 2
  let a7 := c3 + c5 + c1 + c1 / 2
  let b0 := a0 + a6
  let b2 := a2 + a4
  let b4 := a2 - a4
  let b6 := a0 - a6
  let b1 := a1 + a7 / 4
  let b3 := a3 + a5 / 4
  let b5 := a3 / 4 - a5
  let b7 := a7 - a1 / 4
  [b0 + b7, b2 + b5, b4 + b3, b6 + b1, b6 - b1, b4 - b3, b2 - b5, b0 - b7]

/-- The residual at (x, y) of sixteen coefficients (45_reconstruction.md R422): rows first, then columns. -/
def Sys2Proof.Stated.residual4 (c : Nat → Int) (x y : Nat) : Int :=
  let m := fun y x => (t4 (c (4 * y)) (c (4 * y + 1)) (c (4 * y + 2)) (c (4 * y + 3))).getD x 0
  ((t4 (m 0 x) (m 1 x) (m 2 x) (m 3 x)).getD y 0 + 32) / 64

/-- The residual at (x, y) of sixty-four coefficients (45_reconstruction.md R426). -/
def Sys2Proof.Stated.residual8 (c : Nat → Int) (x y : Nat) : Int :=
  let m := fun y x => (t8 (c (8 * y)) (c (8 * y + 1)) (c (8 * y + 2)) (c (8 * y + 3)) (c (8 * y + 4)) (c (8 * y + 5))
    (c (8 * y + 6)) (c (8 * y + 7))).getD x 0
  ((t8 (m 0 x) (m 1 x) (m 2 x) (m 3 x) (m 4 x) (m 5 x) (m 6 x) (m 7 x)).getD y 0 + 32) / 64

/-- The plane and the block of samples of block `n` in 0..23 (45_reconstruction.md R420). -/
def Sys2Proof.Stated.samplesOf (s : State) (n : Nat) : Nat × Block :=
  if n < 16 then (0, ⟨16 * s.mbX.toNat + blockX n, 16 * s.mbY.toNat + blockY n, 4, 4⟩)
  else (if n < 20 then 1 else 2, ⟨8 * s.mbX.toNat + 4 * (n % 2), 8 * s.mbY.toNat + 4 * (n / 2 % 2), 4, 4⟩)

/-- The block of samples of luma quadrant `q` (45_reconstruction.md R420). -/
def Sys2Proof.Stated.quadrantOf (s : State) (q : Nat) : Block :=
  ⟨16 * s.mbX.toNat + 8 * (q % 2), 16 * s.mbY.toNat + 8 * (q / 2), 8, 8⟩

/-- A transform that adds a residual: `t` has the block of `s` with `f` added and clipped, the coefficients of the indexes in
`used` are 0, and nothing else has changed. -/
def Sys2Proof.Stated.residualAdded (s t : State) (p : Nat) (b : Block) (f : Nat → Nat → Int) (used : Nat → Prop) : Prop :=
  t = { s with
      pic := { s.pic with planes := t.pic.planes }, coefs := { s.coefs with coef := t.coefs.coef }, status := .ended .ok }
    ∧ t.pic.planes.gen = s.pic.planes.gen
    ∧ blockWritten s t p b (fun x y => clip s ((s.sample p x y : Nat) + f (x - b.x) (y - b.y)))
    ∧ (∀ k, used k → t.coefAt k = 0) ∧ ∀ k, ¬ used k → t.coefAt k = s.coefAt k

/-- `IDCT4_ADD`, `IDCT8_ADD` (45_reconstruction.md R420, R421, R422, R425, R426): the transformed residual is added to the block and
clipped, and the coefficients used are 0 afterwards.
Marked by the spec as from general knowledge, in whole or in part: R421, R422, R425; its decision: R420. -/
def Obligations.InverseTransforms : Prop :=
  ∀ (s : State) (n : BitVec 8), s.engine = .run → s.bitDepthLegal = true →
    (n.toNat ≤ 23 → inPlane s (samplesOf s n.toNat).1 (samplesOf s n.toNat).2 = true →
      ∃ t, exec (.idct4Add n) s = .next t
        ∧ residualAdded s t (samplesOf s n.toNat).1 (samplesOf s n.toNat).2
            (residual4 fun k => s.coefAt (16 * n.toNat + k)) (fun k => k / 16 = n.toNat))
    ∧ (n.toNat ≤ 3 → inPlane s 0 (quadrantOf s n.toNat) = true →
      ∃ t, exec (.idct8Add n) s = .next t
        ∧ residualAdded s t 0 (quadrantOf s n.toNat)
            (residual8 fun k => s.coefAt (64 * n.toNat + k)) (fun k => k / 64 = n.toNat))

/-- `IDCT4_DC_ADD` and `IDCT8_DC_ADD` (45_reconstruction.md R424, R428): the rounded first coefficient is added to every sample of the
block and clipped, that coefficient is 0 afterwards, and the others stay. -/
def Obligations.DcOnlyTransforms : Prop :=
  ∀ (s : State) (n : BitVec 8), s.engine = .run → s.bitDepthLegal = true →
    (n.toNat ≤ 23 → inPlane s (samplesOf s n.toNat).1 (samplesOf s n.toNat).2 = true →
      ∃ t, exec (.idct4DcAdd n) s = .next t
        ∧ residualAdded s t (samplesOf s n.toNat).1 (samplesOf s n.toNat).2
            (fun _ _ => (s.coefAt (16 * n.toNat) + 32) / 64) (fun k => k = 16 * n.toNat))
    ∧ (n.toNat ≤ 3 → inPlane s 0 (quadrantOf s n.toNat) = true →
      ∃ t, exec (.idct8DcAdd n) s = .next t
        ∧ residualAdded s t 0 (quadrantOf s n.toNat)
            (fun _ _ => (s.coefAt (64 * n.toNat) + 32) / 64) (fun k => k = 64 * n.toNat))

/-- DC-only equals full (45_reconstruction.md R429): where every coefficient but the first is 0, `IDCT4_ADD` and `IDCT4_DC_ADD` do the
same, and so do `IDCT8_ADD` and `IDCT8_DC_ADD`; where all are 0 the samples stay.
Marked by the spec as derived: R429. -/
def Obligations.DcOnlyEqualsFull : Prop :=
  ∀ (s : State) (n : BitVec 8), s.memWf = true →
    ((∀ k, 1 ≤ k → k < 16 → s.coefAt (16 * n.toNat + k) = 0) → exec (.idct4Add n) s = exec (.idct4DcAdd n) s)
    ∧ ((∀ k, 1 ≤ k → k < 64 → s.coefAt (64 * n.toNat + k) = 0) → exec (.idct8Add n) s = exec (.idct8DcAdd n) s)
    ∧ ∀ t p x y, (∀ x y, s.sample p x y < 2 ^ s.bitDepth) → s.bitDepthLegal = true → x < s.planeW p → p ≤ 2 →
        (((∀ k, k < 16 → s.coefAt (16 * n.toNat + k) = 0) ∧ exec (.idct4Add n) s = .next t)
          ∨ ((∀ k, k < 64 → s.coefAt (64 * n.toNat + k) = 0) ∧ exec (.idct8Add n) s = .next t)) →
        t.sample p x y = s.sample p x y

/-- Wrapping to the width of a coefficient (00_scope.md R5, R8). -/
def Sys2Proof.Stated.wrapped (s : State) (v : Int) : Int :=
  if s.bitDepth = 8 then (BitVec.ofInt 16 v).toInt else (BitVec.ofInt 32 v).toInt

/-- The rows of the Hadamard matrix (45_reconstruction.md R430). -/
def Sys2Proof.Stated.hadamardRow (i : Nat) : List Int :=
  [[1, 1, 1, 1], [1, 1, -1, -1], [1, -1, -1, 1], [1, -1, 1, -1]].getD i []

/-- An entry of the Hadamard matrix. -/
def Sys2Proof.Stated.hadamardAt (i j : Nat) : Int := (hadamardRow i).getD j 0

/-- The sum of `f` at 0 to 3. -/
def Sys2Proof.Stated.sumOfFour (f : Nat → Int) : Int := f 0 + f 1 + f 2 + f 3

/-- The three DC transforms (45_reconstruction.md R430, R432, R434): luma and 4:2:0 chroma put their results into coefficient 0 of the
blocks and clear the DC buffer, 4:2:2 chroma puts them back into its buffer; no other coefficient and nothing else
changes.
Marked by the spec as from general knowledge, in whole or in part: R430, R432, R434. -/
def Obligations.DcTransforms : Prop :=
  ∀ (s : State) (a : BitVec 8) (d : Word), s.engine = .run →
    (∃ t, exec (.lumaDcDequantIdct d) s = .next t ∧ t = { s with coefs := t.coefs, status := .ended .ok }
      ∧ (∀ n, n < 16 → t.coefAt (16 * n) = wrapped s
          ((sumOfFour (fun k => sumOfFour fun j =>
            hadamardAt (blockY n / 4) k * s.lumaDcAt (j + 4 * k) * hadamardAt j (blockX n / 4)) * d.toNat + 128) / 256))
      ∧ (∀ k, (k % 16 ≠ 0 ∨ 256 ≤ k) → t.coefAt k = s.coefAt k) ∧ (∀ k, t.lumaDcAt k = 0)
      ∧ t.coefs.chromaDc = s.coefs.chromaDc)
    ∧ (a.toNat ≤ 1 → ∃ t, exec (.chromaDcDequantIdct a d) s = .next t
      ∧ t = { s with coefs := t.coefs, status := .ended .ok }
      ∧ (let v := fun k => s.chromaDcAt a.toNat k
         let at' := fun k => t.coefAt (16 * (16 + 4 * a.toNat + k))
         let out := fun (f : Int) => wrapped s (f * d.toNat / 128)
         at' 0 = out (v 0 + v 1 + v 2 + v 3) ∧ at' 1 = out (v 0 - v 1 + v 2 - v 3)
         ∧ at' 2 = out (v 0 + v 1 - v 2 - v 3) ∧ at' 3 = out (v 0 - v 1 - v 2 + v 3))
      ∧ (∀ k, (∀ j, j < 4 → k ≠ 16 * (16 + 4 * a.toNat + j)) → t.coefAt k = s.coefAt k)
      ∧ t.coefs.lumaDc = s.coefs.lumaDc
      ∧ (∀ k, k < 4 → t.chromaDcAt a.toNat k = 0)
      ∧ ∀ k, (k < 8 * a.toNat ∨ 8 * a.toNat + 4 ≤ k) → t.chromaDcAt 0 k = s.chromaDcAt 0 k)
    ∧ (a.toNat ≤ 1 → ∃ t, exec (.chroma422DcDequantIdct a d) s = .next t
      ∧ t = { s with coefs := { s.coefs with chromaDc := t.coefs.chromaDc }, status := .ended .ok }
      ∧ (∀ y, y < 4 →
          let row := fun (g : Int → Int → Int) =>
            sumOfFour fun k => hadamardAt y k * g (s.chromaDcAt a.toNat (2 * k)) (s.chromaDcAt a.toNat (2 * k + 1))
          t.chromaDcAt a.toNat (2 * y) = wrapped s ((row (fun u v => u + v) * d.toNat + 128) / 256)
          ∧ t.chromaDcAt a.toNat (2 * y + 1) = wrapped s ((row (fun u v => u - v) * d.toNat + 128) / 256))
      ∧ ∀ k, (k < 8 * a.toNat ∨ 8 * a.toNat + 8 ≤ k) → t.chromaDcAt 0 k = s.chromaDcAt 0 k)

/-- The plane and block an `INTRA_PRED` writes (45_reconstruction.md R440). -/
def Sys2Proof.Stated.intraBlockOf (s : State) (kind n : Nat) : Nat × Block :=
  match kind with
  | 0 => samplesOf s n
  | 1 => (0, quadrantOf s (n / 4))
  | 2 => (0, ⟨16 * s.mbX.toNat, 16 * s.mbY.toNat, 16, 16⟩)
  | _ => (if n < 20 then 1 else 2, ⟨8 * s.mbX.toNat, 8 * s.mbY.toNat, 8, 8⟩)

/-- The mode an `INTRA_PRED` takes (45_reconstruction.md R440). -/
def Sys2Proof.Stated.intraModeOf (s : State) (kind n : Nat) : Option Nat :=
  match kind with
  | 0 => (Cells.look s.cache.i4 (scan8 n)).map BitVec.toNat
  | 1 => (Cells.look s.cache.i4 (scan8 n)).map BitVec.toNat
  | 2 => s.mb.i16Mode.map BitVec.toNat
  | _ => s.mb.chromaMode.map BitVec.toNat

/-- `INTRA_PRED` (45_reconstruction.md R440, 10_state.md R52): each sample of the block of its kind is what `IntraPredict` gives for the
arguments R440 lists, in the picture's bit depth, and no other sample and nothing else changes. A mode that is `undef` is a model
fault. `IntraPredict` itself is external, a free value (log 7).
Marked by the spec as from general knowledge, in whole or in part: R440. -/
def Obligations.IntraPrediction : Prop :=
  ∀ (s : State) (kind n : BitVec 8), s.engine = .run → s.bitDepthLegal = true →
    Instr.wellFormed (.intraPred kind n) = true → (kind.toNat = 3 → s.chromaFormat ≠ 0) →
    (∀ (mode : Nat) (left top topLeft topRight : Bool) (p : Nat) (b : Block),
      intraModeOf s kind.toNat n.toNat = some mode → Cells.look s.nbIntra 0 = some left →
      Cells.look s.nbIntra 1 = some top → Cells.look s.nbIntra 2 = some topLeft →
      Cells.look s.nbIntra 3 = some topRight → intraBlockOf s kind.toNat n.toNat = (p, b) → inPlane s p b = true →
      ∃ t, exec (.intraPred kind n) s = .next t
        ∧ t = { s with pic := { s.pic with planes := t.pic.planes }, status := .ended .ok }
        ∧ t.pic.planes.gen = s.pic.planes.gen
        ∧ blockWritten s t p b fun x y => (Config.intraPredict
            { kind := kind.toNat, mode := mode, plane := p, x0 := b.x, y0 := b.y, block := n.toNat
              avail := [left, top, topLeft, topRight], bitDepth := s.bitDepth
              samples := s.pic.planes.plane p, gen := s.pic.planes.gen } (x - b.x) (y - b.y) % 2 ^ s.bitDepth : Nat))
    ∧ (intraModeOf s kind.toNat n.toNat = none → exec (.intraPred kind n) s = .fault .uninitialisedRead)

/-- `Add4(b)` (45_reconstruction.md R454). -/
def Sys2Proof.Stated.addBlock (kind : MbKind) (b : Nat) : Steps Unit := do
  let k ← held fun s => Cells.look s.cache.nnz (scan8 b)
  let dc ← view fun s => decide (s.coefAt (16 * b) ≠ 0)
  if kind = .intra16x16 ∨ 16 ≤ b then
    if k ≠ 0 then issue (.idct4Add (BitVec.ofNat 8 b))
    else onlyIf dc (issue (.idct4DcAdd (BitVec.ofNat 8 b)))
  else onlyIf (decide (k ≠ 0)) <|
    if k = 1 ∧ dc then issue (.idct4DcAdd (BitVec.ofNat 8 b)) else issue (.idct4Add (BitVec.ofNat 8 b))

/-- `Add8(q)` (45_reconstruction.md R454). -/
def Sys2Proof.Stated.addQuadrant (q : Nat) : Steps Unit := do
  let k ← held fun s => Cells.look s.mb.nnzSum q
  let dc ← view fun s => decide (s.coefAt (64 * q) ≠ 0)
  onlyIf (decide (k ≠ 0)) <|
    if k = 1 ∧ dc then issue (.idct8DcAdd (BitVec.ofNat 8 q)) else issue (.idct8Add (BitVec.ofNat 8 q))

/-- The blocks of quadrant `q` that are compensated, by its shape (45_reconstruction.md R452): block, width, height. -/
def Sys2Proof.Stated.quadrantBlocks (q : Nat) (shape : Option SubShape) : List (Nat × Nat × Nat) :=
  match shape with
  | some .s8x8 => [(4 * q, 8, 8)]
  | some .s8x4 => [(4 * q, 8, 4), (4 * q + 2, 8, 4)]
  | some .s4x8 => [(4 * q, 4, 8), (4 * q + 1, 4, 8)]
  | some .s4x4 => [(4 * q, 4, 4), (4 * q + 1, 4, 4), (4 * q + 2, 4, 4), (4 * q + 3, 4, 4)]
  | none => [(4 * q, 4, 4), (4 * q + 1, 4, 4), (4 * q + 2, 4, 4), (4 * q + 3, 4, 4)]

/-- Inter prediction, one `MC_PART` per partition (45_reconstruction.md R452). -/
def Sys2Proof.Stated.interSteps (kind : MbKind) : Steps Unit := do
  let subs ← if kind = .inter8x8 then gather (List.range 4) fun i => held fun s => Cells.look s.mb.sub i else pure []
  let blocks := match kind with
    | .inter16x16 => [(0, 16, 16)]
    | .inter16x8 => [(0, 16, 8), (8, 16, 8)]
    | .inter8x16 => [(0, 8, 16), (4, 8, 16)]
    | .inter8x8 => subs.zipIdx.flatMap fun c => quadrantBlocks c.2 c.1.shape
    | _ => (List.range 16).map fun n => (n, 4, 4)
  forEach blocks fun c => issue (.mcPart (BitVec.ofNat 8 c.1) (BitVec.ofNat 8 c.2.1) (BitVec.ofNat 8 c.2.2))

/-- Luma: prediction and residual (45_reconstruction.md R450, R453, R454). -/
def Sys2Proof.Stated.lumaReconSteps (kind : MbKind) : Steps Unit := do
  if kind = .intra16x16 then do
    issue (.intraPred 2 0)
    let k ← held fun s => Cells.look s.cache.nnz (scan8 24)
    onlyIf (decide (k ≠ 0)) do
      let f ← held fun s => Cells.look s.tabs.dequant4 (16 * s.qscale)
      issue (.lumaDcDequantIdct f)
    forEach (List.range 16) (addBlock kind)
  else do
    onlyIf (!kind.intra) (interSteps kind)
    let big ← held fun s => s.mb.dct8x8
    if big then
      forEach (List.range 4) fun q => do
        onlyIf kind.intra (issue (.intraPred 1 (BitVec.ofNat 8 (4 * q))))
        addQuadrant q
    else
      forEach (List.range 16) fun n => do
        onlyIf kind.intra (issue (.intraPred 0 (BitVec.ofNat 8 n)))
        addBlock kind n

/-- Chroma (45_reconstruction.md R455). -/
def Sys2Proof.Stated.chromaReconSteps (kind : MbKind) : Steps Unit := do
  let format ← view fun s => s.chromaFormat
  onlyIf (decide (format = 1)) do
    onlyIf kind.intra do
      issue (.intraPred 3 16)
      issue (.intraPred 3 20)
    let cbp ← held fun s => s.mb.cbp.map BitVec.toNat
    onlyIf (decide (cbp / 16 % 4 ≠ 0)) do
      forEach [0, 1] fun c => do
        let k ← held fun s => Cells.look s.cache.nnz (scan8 (25 + c))
        onlyIf (decide (k ≠ 0)) do
          let qp ← held fun s => (Cells.look s.chromaQp c).map BitVec.toNat
          let f ← held fun s => Cells.look s.tabs.dequant4 (((c + 1 + if kind.intra then 0 else 3) * 128 + qp) * 16)
          issue (.chromaDcDequantIdct (BitVec.ofNat 8 c) f)
        forEach (List.range 4) fun k => addBlock kind (16 + 4 * c + k)

/-- `MB_RECON` of any kind but `IntraPCM`, as the commands it is made of (45_reconstruction.md R450). -/
def Sys2Proof.Stated.reconSteps : Steps Unit := do
  let kind ← held fun s => s.mb.kind
  only (kind ≠ .intraPcm)
  lumaReconSteps kind
  chromaReconSteps kind
  change fun s => { s with coefs := Coefs.zero }
  issue .cacheWriteback
  change fun s =>
    let last := s.mbX.toNat + 1 = s.picW
    { s with
      mb := Mb.undef, mbX := if last then 0 else s.mbX + 1, mbY := if last then s.mbY + 1 else s.mbY
      engine := if last ∧ s.mbY.toNat + 1 = s.picH then .done else s.engine
      res := some 0 }

/-- `MB_RECON` of any kind but `IntraPCM` does what the commands it is made of do one after another (45_reconstruction.md R450, R452 to
R456): intra prediction or `MC_PART` of every partition, the transforms the counts select, chroma, and then the coefficient buffers
are zero, its entries are written back, the macroblock registers are `undef`, and the address moves on, to `DONE` past the last
macroblock.
Of an IntraPCM macroblock (R451) the samples are those of `PCM_BUF`, and the rest is as with the other kinds.
What of the macroblock registers is written back is the model's choice (log 26). -/
def Obligations.MacroblockReconstruction : Prop :=
  (∀ s u : State, s.engine = .run → afterSteps reconSteps s = some u →
    exec .mbRecon s = .next { u with status := .ended .ok })
    ∧ ∀ s : State, s.engine = .run → s.bitDepthLegal = true → s.chromaFormat ≤ 1 → s.mb.kind = some .intraPcm →
    s.mbX.toNat < s.picW → s.mbY.toNat < s.picH → ownSlotsWritten s .intraPcm = true →
    (∀ k, k < (if s.chromaFormat = 1 then 384 else 256) → (Cells.look s.pcm k).isSome = true) →
    ∃ (t : State) (a' : PicArrays), exec .mbRecon s = .next t
      ∧ t = { s with
          pic := { s.pic with planes := t.pic.planes, arrays := a' }, coefs := Coefs.zero, mb := Mb.undef
          mbX := t.mbX, mbY := t.mbY, engine := t.engine, res := some 0, status := .ended .ok }
      ∧ t.pic.planes.gen = s.pic.planes.gen
      ∧ writtenBack s .intraPcm (s.mbX.toNat + s.mbY.toNat * s.picW) a'
      ∧ (∀ x y, x < s.planeW 0 → (t.sample 0 x y : Int) =
          let b : Block := ⟨16 * s.mbX.toNat, 16 * s.mbY.toNat, 16, 16⟩
          if b.has x y then (s.pcmAt (16 * (y - b.y) + (x - b.x))).toNat else s.sample 0 x y)
      ∧ (∀ p x y, (p = 1 ∨ p = 2) → x < s.planeW p → (t.sample p x y : Int) =
          let b : Block := ⟨8 * s.mbX.toNat, 8 * s.mbY.toNat, 8, 8⟩
          if s.chromaFormat = 1 ∧ b.has x y then (s.pcmAt (64 * p + 192 + 8 * (y - b.y) + (x - b.x))).toNat
          else s.sample p x y)
      ∧ (if s.mbX.toNat + 1 = s.picW then
          t.mbX = 0 ∧ t.mbY = s.mbY + 1 ∧ t.engine = if s.mbY.toNat + 1 = s.picH then .done else .run
        else t.mbX = s.mbX + 1 ∧ t.mbY = s.mbY ∧ t.engine = .run)

/-- The commands of motion compensation and reconstruction that write samples of one macroblock (44_motion_comp.md R408, 45_reconstruction.md). -/
def Sys2Proof.Stated.ofOneMacroblock (i : Instr) : Bool :=
  match i with
  | .mcPart _ _ _ => true
  | .idct4Add _ => true
  | .idct4DcAdd _ => true
  | .idct8Add _ => true
  | .idct8DcAdd _ => true
  | .intraPred _ _ => true
  | .mbRecon => true
  | _ => false

/-- The sample (x, y) of plane `p` belongs to the current macroblock (20_memory.md R73, R82). -/
def Sys2Proof.Stated.inMacroblock (s : State) (p x y : Nat) : Bool :=
  let k := if p = 0 then 16 else 8
  decide (k * s.mbX.toNat ≤ x ∧ x < k * s.mbX.toNat + k ∧ k * s.mbY.toNat ≤ y ∧ y < k * s.mbY.toNat + k)

/-- Reconstruction stays in its macroblock, whatever the state and however the command ends (20_memory.md R82): no sample outside the current
macroblock changes, and no other macroblock's entry. In a picture of 4:2:0 or of luma alone.
What a destination register holds of a coordinate of more than 16 bits is a free value (log 8): stated where coordinates fit.
Marked by the spec as derived: R82. -/
def Obligations.ReconstructionStaysInMacroblock : Prop :=
  ∀ (i : Instr) (s t : State), ofOneMacroblock i = true → s.chromaFormat ≤ 1 → s.mbX.toNat < 4096 → s.mbY.toNat < 4096 →
    exec i s = .next t →
    (∀ p x y, p ≤ 2 → x < s.planeW p → inMacroblock s p x y = false → t.sample p x y = s.sample p x y)
    ∧ ∀ k, k ≠ s.mbX.toNat + s.mbY.toNat * s.picW →
        Cells.look t.pic.arrays.slice k = Cells.look s.pic.arrays.slice k
        ∧ Cells.look t.pic.arrays.mbType k = Cells.look s.pic.arrays.mbType k
        ∧ Cells.look t.pic.arrays.qscale k = Cells.look s.pic.arrays.qscale k
        ∧ Cells.look t.pic.arrays.cbp k = Cells.look s.pic.arrays.cbp k
        ∧ (∀ n, n < 16 → Cells.look t.pic.arrays.i4 (16 * k + n) = Cells.look s.pic.arrays.i4 (16 * k + n))
        ∧ (∀ n, n < 24 → Cells.look t.pic.arrays.nnz (24 * k + n) = Cells.look s.pic.arrays.nnz (24 * k + n))
        ∧ (∀ n, n < 8 → Cells.look t.pic.arrays.ref (8 * k + n) = Cells.look s.pic.arrays.ref (8 * k + n))
        ∧ ∀ n, n < 32 → Cells.look t.pic.arrays.mv (32 * k + n) = Cells.look s.pic.arrays.mv (32 * k + n)

/-! ### Frames of the other commands -/

/-- `QPEL_MCxy`, `MC_CHROMA`, `WEIGHT_UNI`, `WEIGHT_BI`, `MC_PART`. -/
def Sys2Proof.Stated.compensates (i : Instr) : Bool :=
  (phaseOf i).isSome || match i with
    | .mcChroma _ => true
    | .weightUni _ _ _ => true
    | .weightBi _ _ _ => true
    | .mcPart _ _ _ => true
    | _ => false

/-- `IDCT*`, the DC transforms, `INTRA_PRED`. -/
def Sys2Proof.Stated.transforms (i : Instr) : Bool :=
  match i with
  | .idct4Add _ => true
  | .idct4DcAdd _ => true
  | .idct8Add _ => true
  | .idct8DcAdd _ => true
  | .lumaDcDequantIdct _ => true
  | .chromaDcDequantIdct _ _ => true
  | .chroma422DcDequantIdct _ _ => true
  | .intraPred _ _ => true
  | _ => false

/-- `PRED_*`. -/
def Sys2Proof.Stated.predicts (i : Instr) : Bool :=
  match i with
  | .predNnz _ => true
  | .predMv _ _ _ _ => true
  | .predMv16x8 _ _ _ => true
  | .predMv8x16 _ _ _ => true
  | .predMvPskip => true
  | .predI4Mode _ => true
  | _ => false

/-- What the other commands leave unchanged, however they end, as it follows from what their rules write
(42_neighbor_cache.md sections 2 to 4, 43_mb_type_motion.md sections 2 to 6, 44_motion_comp.md sections 1 to 5,
45_reconstruction.md sections 1 to 6; 60_exceptions.md R481 for `MB_DECODE`). The free-value counter is the model's own
(log 4). The predictors write their result registers only; `CACHE_FILL` the caches and the latches; `CACHE_WRITEBACK`
the arrays; motion compensation samples, its registers, its scratch buffer and the free-value counter; transforms and
intra prediction samples and coefficients; `MB_DECODE` no sample and no array, no table and no host register but
`qscale`, and not the address; `MB_RECON` no bit of the stream, no cache, no table. -/
def Obligations.FramesOfOtherCommands : Prop :=
  ∀ (i : Instr) (s t : State), exec i s = .next t →
    (predicts i = true → t = { s with
      status := t.status, pmx := t.pmx, pmy := t.pmy, pnnz := t.pnnz, pmode := t.pmode, res := t.res })
    ∧ (i = .cacheFill → t = { s with
      status := t.status, cache := t.cache, nbAvail := t.nbAvail, nbIntra := t.nbIntra })
    ∧ (i = .cacheWriteback → t = { s with status := t.status, pic := { s.pic with arrays := t.pic.arrays } })
    ∧ (compensates i = true → t = { endedAs s t with
        pic := { s.pic with planes := t.pic.planes, corrupt := t.pic.corrupt }, mc := t.mc, tmp := t.tmp
        freeCtr := t.freeCtr })
    ∧ (transforms i = true → t = { s with
      status := t.status, pic := { s.pic with planes := t.pic.planes }, coefs := t.coefs })
    ∧ (i = .mbDecode → t = { endedAs s t with
      bitpos := t.bitpos, skipRun := t.skipRun, cr3 := t.cr3, chromaQp := t.chromaQp, mb := t.mb, cache := t.cache
      nbAvail := t.nbAvail, nbIntra := t.nbIntra, coefs := t.coefs, pcm := t.pcm, res := t.res
      pmx := t.pmx, pmy := t.pmy, pnnz := t.pnnz, pmode := t.pmode
      totalCoeff := t.totalCoeff, trailingOnes := t.trailingOnes, level := t.level, levelIdx := t.levelIdx
      suffixLength := t.suffixLength, zerosLeft := t.zerosLeft, runBefore := t.runBefore
      maxCoeff := t.maxCoeff, blk := t.blk })
    ∧ (i = .mbRecon → t = { endedAs s t with
        pic := t.pic, coefs := t.coefs, mc := t.mc, tmp := t.tmp, freeCtr := t.freeCtr, mb := t.mb
        mbX := t.mbX, mbY := t.mbY, res := t.res }
      ∧ t.pic.prepared = s.pic.prepared)

/-! ### Elements of the bitstream -/

/-- The engine is where the grammar expects the element (30_encoding.md R110 to R121; log 3): reading, for a code with no table; in `RUN` of a
slice of its type, for a macroblock type; with the tables built and its own table selected by the block's registers. -/
def Sys2Proof.Stated.expects (s : State) (el : Element) : Prop :=
  match el with
  | .iMb _ sl => s.engine = .run ∧ s.sliceType = sl
  | .pMb _ => s.engine = .run ∧ s.sliceType = .p
  | .bMb _ => s.engine = .run ∧ s.sliceType = .b
  | .pSub _ _ => s.engine = .run ∧ s.sliceType = .p ∧ s.mb.kind = some .inter8x8
  | .bSub _ _ => s.engine = .run ∧ s.sliceType = .b ∧ s.mb.kind = some .inter8x8
  | .levelPrefix p => reading s = true ∧ p ≤ 28
  | .token _ _ _ => reading s = true ∧ s.vlcReady = true
  | .zeros tc _ => reading s = true ∧ s.vlcReady = true ∧ s.totalCoeff.map BitVec.toNat = some tc ∧ 1 ≤ tc
      ∧ ∃ mc, s.maxCoeff = some mc ∧ tc < mc.toNat ∧ mc.toNat ≠ 4 ∧ mc.toNat ≠ 8
  | .chromaDcZeros tc _ => reading s = true ∧ s.vlcReady = true ∧ s.totalCoeff.map BitVec.toNat = some tc ∧ 1 ≤ tc
      ∧ tc < 4 ∧ s.maxCoeff = some 4
  | .chroma422DcZeros tc _ => reading s = true ∧ s.vlcReady = true ∧ s.totalCoeff.map BitVec.toNat = some tc ∧ 1 ≤ tc
      ∧ tc < 8 ∧ s.maxCoeff = some 8
  | .run zl r => reading s = true ∧ s.vlcReady = true ∧ ∃ z, s.zerosLeft = some z ∧ (r : Int) ≤ z.toInt
      ∧ (z.toInt = zl ∨ (zl = 7 ∧ 7 ≤ z.toInt))
  | _ => reading s = true

/-- The registers after an element, the cursor apart: those of the step that reads it (log 3). -/
def Sys2Proof.Stated.afterElement (s : State) (el : Element) : State :=
  match el with
  | .u _ x => { s with res := some (BitVec.ofNat 32 x) }
  | .ue v => { s with res := some (BitVec.ofNat 32 v) }
  | .se v => { s with res := some (BitVec.ofInt 32 v) }
  | .te1 => { s with res := some 0 }
  | .te2 v => { s with res := some (BitVec.ofNat 32 v) }
  | .teN _ v => { s with res := some (BitVec.ofNat 32 v) }
  | .levelPrefix p => { s with res := some (BitVec.ofNat 32 p) }
  | .levelSuffix _ x => { s with res := some (BitVec.ofNat 32 x) }
  | .sign neg => { s with res := some (if neg then -1 else 1) }
  | .iMb k _ => { s with mb := iMbType k }
  | .pMb k => { s with mb := pMbType k }
  | .bMb k => { s with mb := bMbType k }
  | .pSub k i => { s with mb := { s.mb with sub := Cells.put s.mb.sub i.toNat (pSubMbType k) } }
  | .bSub k i => { s with mb := { s.mb with sub := Cells.put s.mb.sub i.toNat (bSubMbType k) } }
  | .token sel t n =>
    { s with
      maxCoeff := some (BitVec.ofNat 5 (classSize sel)), blk := none, trailingOnes := some (BitVec.ofNat 2 t)
      totalCoeff := some (BitVec.ofNat 5 n), res := some (BitVec.ofNat 32 (4 * n + t)) }
  | .zeros _ z => { s with zerosLeft := some (BitVec.ofNat 6 z), res := some (BitVec.ofNat 32 z) }
  | .chromaDcZeros _ z => { s with zerosLeft := some (BitVec.ofNat 6 z), res := some (BitVec.ofNat 32 z) }
  | .chroma422DcZeros _ z => { s with zerosLeft := some (BitVec.ofNat 6 z), res := some (BitVec.ofNat 32 z) }
  | .run _ r =>
    { s with
      runBefore := some (BitVec.ofNat 4 r), zerosLeft := s.zerosLeft.map fun z => z - BitVec.ofNat 6 r
      res := some (BitVec.ofNat 32 r) }

/-- Every bitstream element completes where the grammar expects it, its value is one its code can spell and its bits are there
(the codewords and the cursor: 30_encoding.md R110 to R117, 40_bitreader_vlc.md R173): the cursor moves by the length of its
codeword and the registers of the step that reads it are written; nothing else changes.
That an element is taken alone at all, where it is accepted and which registers it writes is the model's choice (log 3): no
rule gives a single element an effect.
Marked by the spec as from general knowledge, in whole or in part: R111, R112, R113; its decision: R173; derived: R117. -/
def Obligations.ElementsComplete : Prop :=
  ∀ (i : Instr) (el : Element) (s : State), i.element = some el → i.wellFormed = true → expects s el →
    s.bitpos + el.bits.length ≤ s.bsLen →
      exec i s = .next { afterElement s el with bitpos := s.bitpos + el.bits.length, status := .ended .ok }
end

