-- ==== Sys2Proof/Laws/Cells.lean ====
section
/-! SUPPORT. Reading and writing an index space: a read after a write, and every write keeps the canonical form. -/

namespace Sys2Proof.Cells

variable {α : Type}

@[simp] theorem look_nil (a : Nat) : look ([] : Cells α) a = none := rfl

/-- Every index of a rising list is above the head's. -/
theorem above_trans {a b : Nat} (h : a < b) : ∀ {c : Cells α}, above b c = true → above a c = true
  | [], _ => rfl
  | (k, _) :: _, hb => by simp only [above, decide_eq_true_eq] at *; omega

/-- An index below a rising list is not in it. -/
theorem look_above {a : Nat} : ∀ {c : Cells α}, wf c = true → above a c = true → look c a = none
  | [], _, _ => rfl
  | (k, v) :: rest, hw, ha => by
    simp only [wf, Bool.and_eq_true] at hw
    simp only [above, decide_eq_true_eq] at ha
    simp only [look]
    rw [if_neg (by omega)]
    exact look_above hw.2 (above_trans ha hw.1)

/-- A read after a write to the same index. -/
@[simp] theorem look_put_same (a : Nat) (v : α) : ∀ c : Cells α, look (put c a v) a = some v
  | [] => by simp [put, look]
  | (k, w) :: rest => by
    simp only [put]
    split
    · simp [look]
    · split
      · simp [look]
      · rename_i h1 h2
        simp only [look]
        rw [if_neg (fun h => h2 h.symm)]
        exact look_put_same a v rest

/-- A write leaves every other index alone. -/
theorem look_put_ne {a b : Nat} (h : b ≠ a) (v : α) : ∀ c : Cells α, look (put c a v) b = look c b
  | [] => by simp [put, look, Ne.symm h]
  | (k, w) :: rest => by
    simp only [put]
    split
    · simp only [look]
      rw [if_neg (Ne.symm h)]
    · split
      · rename_i h2
        simp only [look]
        rw [if_neg (Ne.symm h), if_neg (by omega)]
      · simp only [look]
        split
        · rfl
        · exact look_put_ne h v rest

theorem look_put (a b : Nat) (v : α) (c : Cells α) : look (put c a v) b = if b = a then some v else look c b := by
  split
  · next h => rw [h, look_put_same]
  · next h => exact look_put_ne h v c

/-- A taken index reads as unlisted. -/
@[simp] theorem look_drop_same (a : Nat) : ∀ c : Cells α, look (drop c a) a = none
  | [] => rfl
  | (k, w) :: rest => by
    simp only [drop]
    split
    · exact look_drop_same a rest
    · next h => simp only [look]; rw [if_neg h]; exact look_drop_same a rest

theorem look_drop_ne {a b : Nat} (h : b ≠ a) : ∀ c : Cells α, look (drop c a) b = look c b
  | [] => rfl
  | (k, w) :: rest => by
    simp only [drop]
    split
    · next hk => simp only [look]; rw [if_neg (by omega), look_drop_ne h rest]
    · simp only [look]
      split
      · rfl
      · exact look_drop_ne h rest

theorem look_putAll (v : α) (b : Nat) : ∀ (as : List Nat) (c : Cells α),
    look (putAll c v as) b = if b ∈ as then some v else look c b
  | [], c => by simp [putAll]
  | a :: rest, c => by
    simp only [putAll, look_putAll v b rest, look_put, List.mem_cons]
    by_cases h1 : b ∈ rest <;> by_cases h2 : b = a <;> simp [h1, h2]

/-- Writing a list of pairs leaves an index alone that none of them names. -/
theorem look_putList_ne {b : Nat} : ∀ (cells : List (Nat × α)) (c : Cells α),
    (∀ e ∈ cells, e.1 ≠ b) → look (putList c cells) b = look c b
  | [], _, _ => rfl
  | (a, v) :: rest, c, h => by
    simp only [putList]
    rw [look_putList_ne rest _ fun e he => h e (List.mem_cons_of_mem _ he)]
    exact look_put_ne (Ne.symm (h (a, v) (by simp))) v c

/-- Writing pairs with distinct indexes: each index reads what was written there. -/
theorem look_putList_mem {b : Nat} {v : α} : ∀ (cells : List (Nat × α)) (c : Cells α),
    (cells.map Prod.fst).Nodup → (b, v) ∈ cells → look (putList c cells) b = some v
  | [], _, _, h => by simp at h
  | (a, w) :: rest, c, hn, h => by
    simp only [List.map_cons, List.nodup_cons] at hn
    simp only [putList]
    rcases List.mem_cons.1 h with h | h
    · cases h
      rw [look_putList_ne rest _ fun e he heq => hn.1 (List.mem_map.2 ⟨e, he, heq⟩)]
      exact look_put_same b v c
    · exact look_putList_mem rest _ hn.2 h

theorem look_dropAll (b : Nat) : ∀ (as : List Nat) (c : Cells α),
    look (dropAll c as) b = if b ∈ as then none else look c b
  | [], c => by simp [dropAll]
  | a :: rest, c => by
    simp only [dropAll, look_dropAll b rest]
    by_cases h1 : b ∈ rest
    · simp [h1]
    · by_cases h2 : b = a
      · subst h2; simp
      · simp [h1, h2, look_drop_ne h2]

/-! ### The canonical form -/

theorem above_put {a b : Nat} (h : b < a) (v : α) : ∀ {c : Cells α}, above b c = true → above b (put c a v) = true
  | [], _ => by simpa [put, above] using h
  | (k, w) :: rest, hb => by
    simp only [put]
    split
    · simpa [above] using h
    · split
      · simpa [above] using h
      · simpa [above] using hb

theorem wf_put (a : Nat) (v : α) : ∀ {c : Cells α}, wf c = true → wf (put c a v) = true
  | [], _ => rfl
  | (k, w) :: rest, h => by
    simp only [wf, Bool.and_eq_true] at h
    simp only [put]
    split
    · next hk =>
      simp only [wf, Bool.and_eq_true]
      exact ⟨by simpa [above] using hk, h.1, h.2⟩
    · split
      · next hk => subst hk; simp [wf, h.1, h.2]
      · next h1 h2 =>
        simp only [wf, Bool.and_eq_true]
        exact ⟨above_put (by omega) v h.1, wf_put a v h.2⟩

theorem above_drop {a b : Nat} : ∀ {c : Cells α}, wf c = true → above b c = true → above b (drop c a) = true
  | [], _, _ => rfl
  | (k, w) :: rest, hw, hb => by
    simp only [wf, Bool.and_eq_true] at hw
    simp only [above, decide_eq_true_eq] at hb
    simp only [drop]
    split
    · exact above_drop hw.2 (above_trans hb hw.1)
    · simpa [above] using hb

theorem wf_drop (a : Nat) : ∀ {c : Cells α}, wf c = true → wf (drop c a) = true
  | [], _ => rfl
  | (k, w) :: rest, h => by
    simp only [wf, Bool.and_eq_true] at h
    simp only [drop]
    split
    · exact wf_drop a h.2
    · simp only [wf, Bool.and_eq_true]; exact ⟨above_drop h.2 h.1, wf_drop a h.2⟩

theorem wf_putAll (v : α) : ∀ (as : List Nat) {c : Cells α}, wf c = true → wf (putAll c v as) = true
  | [], _, h => h
  | a :: rest, _, h => wf_putAll v rest (wf_put a v h)

theorem wf_putList : ∀ (cells : List (Nat × α)) {c : Cells α}, wf c = true → wf (putList c cells) = true
  | [], _, h => h
  | (a, v) :: rest, _, h => wf_putList rest (wf_put a v h)

theorem wf_dropAll : ∀ (as : List Nat) {c : Cells α}, wf c = true → wf (dropAll c as) = true
  | [], _, h => h
  | a :: rest, _, h => wf_dropAll rest (wf_drop a h)

/-! ### Spaces whose unlisted elements are 0 -/

theorem mem_put {a : Nat} {v : α} {e : Nat × α} : ∀ {c : Cells α}, e ∈ put c a v → e = (a, v) ∨ e ∈ c
  | [], h => by simpa [put] using h
  | (k, w) :: rest, h => by
    simp only [put] at h
    split at h
    · rcases List.mem_cons.1 h with h | h
      · exact .inl h
      · exact .inr h
    · split at h
      · rcases List.mem_cons.1 h with h | h
        · exact .inl h
        · exact .inr (List.mem_cons_of_mem _ h)
      · rcases List.mem_cons.1 h with h | h
        · exact .inr (h ▸ List.mem_cons_self ..)
        · rcases mem_put h with h | h
          · exact .inl h
          · exact .inr (List.mem_cons_of_mem _ h)

theorem mem_drop {a : Nat} {e : Nat × α} : ∀ {c : Cells α}, e ∈ drop c a → e ∈ c
  | [], h => h
  | (k, w) :: rest, h => by
    simp only [drop] at h
    split at h
    · exact List.mem_cons_of_mem _ (mem_drop h)
    · rcases List.mem_cons.1 h with h | h
      · exact h ▸ List.mem_cons_self ..
      · exact List.mem_cons_of_mem _ (mem_drop h)

theorem wfZero_drop {w : Nat} (a : Nat) {c : Cells (BitVec w)} (h : wfZero c = true) : wfZero (drop c a) = true := by
  simp only [wfZero, Bool.and_eq_true, List.all_eq_true] at *
  exact ⟨wf_drop a h.1, fun e he => h.2 e (mem_drop he)⟩

theorem wfZero_putZero {w : Nat} (a : Nat) (v : BitVec w) {c : Cells (BitVec w)} (h : wfZero c = true) :
    wfZero (putZero c a v) = true := by
  simp only [putZero]
  split
  · exact wfZero_drop a h
  · next hv =>
    simp only [wfZero, Bool.and_eq_true, List.all_eq_true] at *
    refine ⟨wf_put a v h.1, fun e he => ?_⟩
    rcases mem_put he with rfl | he
    · simpa using hv
    · exact h.2 e he

theorem wfZero_dropAll {w : Nat} : ∀ (as : List Nat) {c : Cells (BitVec w)}, wfZero c = true → wfZero (dropAll c as) = true
  | [], _, h => h
  | a :: rest, _, h => wfZero_dropAll rest (wfZero_drop a h)

theorem lookZero_putZero {w : Nat} (a b : Nat) (v : BitVec w) (c : Cells (BitVec w)) :
    lookZero (putZero c a v) b = if b = a then v else lookZero c b := by
  simp only [lookZero, putZero]
  by_cases hb : b = a
  · subst hb
    split
    · next hv => simp [hv]
    · simp
  · split
    · simp [look_drop_ne hb]
    · simp [look_put_ne hb]

end Sys2Proof.Cells
end

