-- ==== Sys2Proof/Laws/Ops.lean ====
section
/-! SUPPORT. Running an operation: one lemma per primitive and combinator that says what it answers, and the one induction over
operations: what every write of an operation keeps, the operation keeps, however it ends. -/

namespace Sys2Proof.Machine

variable {α β : Type} {s t : State}

/-- What an operation answers. -/
abbrev Res (α : Type) := EStateM.Result Stop State α

/-! ### What each primitive answers -/

@[simp] theorem Op.read_run (f : State → α) (s : State) : Op.read f s = .ok (f s) s := rfl
@[simp] theorem Op.modify_run (f : State → State) (s : State) : Op.modify f s = .ok () (f s) := rfl
@[simp] theorem Op.stop_run (e : Stop) (s : State) : (Op.stop e : Op α) s = .error e s := rfl
@[simp] theorem Op.raise_run (k : ErrKind) (s : State) : (Op.raise k : Op α) s = .error (.raised k) s := rfl
@[simp] theorem Op.pure_run (a : α) (s : State) : (pure a : Op α) s = .ok a s := rfl

theorem Op.need_some {f : State → Option α} {a : α} (h : f s = some a) : Op.need f s = .ok a s := by simp [Op.need, h]
theorem Op.need_none {f : State → Option α} (h : f s = none) :
    Op.need f s = .error (.faulted .uninitialisedRead) s := by simp [Op.need, h]
theorem Op.require_true {c : State → Bool} (e : Stop) (h : c s = true) : Op.require c e s = .ok () s := by
  simp [Op.require, h]
theorem Op.require_false {c : State → Bool} (e : Stop) (h : c s = false) : Op.require c e s = .error e s := by
  simp [Op.require, h]
@[simp] theorem Op.orStop_some (a : α) (e : Stop) (s : State) : Op.orStop (some a) e s = .ok a s := rfl
@[simp] theorem Op.orStop_none (e : Stop) (s : State) : (Op.orStop none e : Op α) s = .error e s := rfl
@[simp] theorem Op.when_true (m : Op Unit) : Op.when true m = m := rfl
@[simp] theorem Op.when_false (m : Op Unit) : Op.when false m = pure () := rfl

/-- One operation after another. -/
theorem Op.bind_run (m : Op α) (f : α → Op β) (s : State) :
    (m >>= f) s = match m s with
      | .ok a t => f a t
      | .error e t => .error e t := by
  show EStateM.bind m f s = _
  unfold EStateM.bind
  cases m s <;> rfl

theorem Op.bind_ok {m : Op α} {f : α → Op β} {a : α} (h : m s = .ok a t) : (m >>= f) s = f a t := by
  rw [Op.bind_run, h]

theorem Op.bind_error {m : Op α} {f : α → Op β} {e : Stop} (h : m s = .error e t) : (m >>= f) s = .error e t := by
  rw [Op.bind_run, h]

/-- A sequence that ends took both its parts to their ends. -/
theorem Op.bind_ok_iff {m : Op α} {f : α → Op β} {b : β} :
    (m >>= f) s = .ok b t ↔ ∃ a u, m s = .ok a u ∧ f a u = .ok b t := by
  rw [Op.bind_run]
  cases h : m s with
  | ok a u =>
    constructor
    · exact fun hf => ⟨a, u, rfl, hf⟩
    · rintro ⟨a', u', h', hf⟩
      cases h'
      exact hf
  | error e u => simp

theorem Op.need_ok_iff {f : State → Option α} {a : α} : Op.need f s = .ok a t ↔ f s = some a ∧ t = s := by
  cases h : f s with
  | none => simp [Op.need, h]
  | some b => simp [Op.need, h, eq_comm]

theorem Op.require_ok_iff {c : State → Bool} {e : Stop} {u : Unit} :
    Op.require c e s = .ok u t ↔ c s = true ∧ t = s := by
  cases h : c s <;> simp [Op.require, h, eq_comm]

theorem Op.nested_ok {m : Op α} {a : α} (h : m s = .ok a t) : Op.nested m s = .ok a t := by simp [Op.nested, h]

@[simp] theorem Op.each_nil (f : α → Op Unit) : Op.each [] f = pure () := rfl
@[simp] theorem Op.each_cons (a : α) (as : List α) (f : α → Op Unit) :
    Op.each (a :: as) f = (f a >>= fun _ => Op.each as f) := rfl
@[simp] theorem Op.eachNested_nil (f : α → Op Unit) : Op.eachNested [] f = pure () := rfl
@[simp] theorem Op.eachNested_cons (a : α) (as : List α) (f : α → Op Unit) :
    Op.eachNested (a :: as) f = (f a >>= fun _ => Op.each as fun b => Op.nested (f b)) := rfl
@[simp] theorem Op.collect_nil (f : α → Op β) : Op.collect [] f = pure [] := rfl
@[simp] theorem Op.collect_cons (a : α) (as : List α) (f : α → Op β) :
    Op.collect (a :: as) f = (f a >>= fun b => Op.collect as f >>= fun bs => pure (b :: bs)) := rfl

/-- Operations that each end as `g` says, in turn. -/
theorem Op.each_ok {f : α → Op Unit} {g : State → α → State} {as : List α} {s : State}
    (h : ∀ a ∈ as, ∀ u, f a u = .ok () (g u a)) : Op.each as f s = .ok () (as.foldl g s) := by
  induction as generalizing s with
  | nil => rfl
  | cons a as ih =>
    rw [Op.each_cons, Op.bind_ok (h a (by simp) s), ih fun b hb => h b (List.mem_cons_of_mem _ hb)]
    rfl

/-! ### What an operation keeps -/

/-- The state at the end, or at the stop, has `P`. -/
def Ends (P : State → Prop) (r : Res α) : Prop :=
  match r with
  | .ok _ t => P t
  | .error _ t => P t

/-- However it ends, the operation leaves a state with `P` from a state with `P`. -/
def Op.Keeps (P : State → Prop) (m : Op α) : Prop := ∀ s, P s → Ends P (m s)

theorem Op.Keeps.ok {P : State → Prop} {m : Op α} {a : α} (h : Op.Keeps P m) (hs : P s) (hm : m s = .ok a t) : P t := by
  have := h s hs
  rwa [hm] at this

theorem Op.Keeps.error {P : State → Prop} {m : Op α} {e : Stop} (h : Op.Keeps P m) (hs : P s)
    (hm : m s = .error e t) : P t := by
  have := h s hs
  rwa [hm] at this

section Keeps

variable {P : State → Prop}

theorem Op.keeps_pure (a : α) : Op.Keeps P (pure a : Op α) := fun _ h => h
theorem Op.keeps_read (f : State → α) : Op.Keeps P (Op.read f) := fun _ h => h
theorem Op.keeps_stop (e : Stop) : Op.Keeps P (Op.stop e : Op α) := fun _ h => h
theorem Op.keeps_raise (k : ErrKind) : Op.Keeps P (Op.raise k : Op α) := fun _ h => h

theorem Op.keeps_need (f : State → Option α) : Op.Keeps P (Op.need f) := by
  intro s h
  cases hf : f s <;> simpa [Op.need, hf, Ends] using h

theorem Op.keeps_require (c : State → Bool) (e : Stop) : Op.Keeps P (Op.require c e) := by
  intro s h
  cases hc : c s <;> simpa [Op.require, hc, Ends] using h

theorem Op.keeps_orStop (a : Option α) (e : Stop) : Op.Keeps P (Op.orStop a e) := by
  intro s h
  cases a <;> exact h

theorem Op.keeps_modify {f : State → State} (hf : ∀ s, P s → P (f s)) : Op.Keeps P (Op.modify f) := hf

theorem Op.keeps_bind {m : Op α} {f : α → Op β} (hm : Op.Keeps P m) (hf : ∀ a, Op.Keeps P (f a)) :
    Op.Keeps P (m >>= f) := by
  intro s hs
  have h := hm s hs
  rw [Op.bind_run]
  cases h' : m s with
  | ok a t => rw [h'] at h; exact hf a t h
  | error e t => rw [h'] at h; exact h

/-- From one state: after a condition that was tested, the rest may use it. -/
theorem Op.ends_require {c : State → Bool} {e : Stop} {f : Unit → Op β} (hs : P s) (hf : c s = true → Ends P (f () s)) :
    Ends P ((Op.require c e >>= f) s) := by
  cases hc : c s
  · rw [Op.bind_error (Op.require_false e hc)]; exact hs
  · rw [Op.bind_ok (Op.require_true e hc)]; exact hf hc

/-- After a condition that was tested, the rest may use it. -/
theorem Op.keeps_require_bind {c : State → Bool} {e : Stop} {f : Unit → Op β}
    (hf : ∀ s, P s → c s = true → Ends P (f () s)) : Op.Keeps P (Op.require c e >>= f) := by
  intro s hs
  cases hc : c s
  · rw [Op.bind_error (Op.require_false e hc)]; exact hs
  · rw [Op.bind_ok (Op.require_true e hc)]; exact hf s hs hc

theorem Op.keeps_ite {c : Prop} [Decidable c] {m n : Op α} (hm : Op.Keeps P m) (hn : Op.Keeps P n) :
    Op.Keeps P (if c then m else n) := by
  split <;> assumption

theorem Op.keeps_when (c : Bool) {m : Op Unit} (hm : Op.Keeps P m) : Op.Keeps P (Op.when c m) := by
  cases c
  · exact Op.keeps_pure ()
  · exact hm

theorem Op.keeps_nested {m : Op α} (hm : Op.Keeps P m) : Op.Keeps P (Op.nested m) := by
  intro s hs
  have h := hm s hs
  cases h' : m s with
  | ok a t => rw [h'] at h; simpa [Op.nested, h', Ends] using h
  | error e t => rw [h'] at h; cases e <;> simpa [Op.nested, h', Ends] using h

theorem Op.keeps_each {f : α → Op Unit} (as : List α) (hf : ∀ a ∈ as, Op.Keeps P (f a)) : Op.Keeps P (Op.each as f) := by
  induction as with
  | nil => exact Op.keeps_pure ()
  | cons a as ih =>
    exact Op.keeps_bind (hf a (by simp)) fun _ => ih fun b hb => hf b (List.mem_cons_of_mem _ hb)

theorem Op.keeps_eachNested {f : α → Op Unit} (as : List α) (hf : ∀ a ∈ as, Op.Keeps P (f a)) :
    Op.Keeps P (Op.eachNested as f) := by
  cases as with
  | nil => exact Op.keeps_pure ()
  | cons a as =>
    exact Op.keeps_bind (hf a (by simp)) fun _ =>
      Op.keeps_each as fun b hb => Op.keeps_nested (hf b (List.mem_cons_of_mem _ hb))

theorem Op.keeps_collect {f : α → Op β} (as : List α) (hf : ∀ a ∈ as, Op.Keeps P (f a)) :
    Op.Keeps P (Op.collect as f) := by
  induction as with
  | nil => exact Op.keeps_pure []
  | cons a as ih =>
    exact Op.keeps_bind (hf a (by simp)) fun _ =>
      Op.keeps_bind (ih fun b hb => hf b (List.mem_cons_of_mem _ hb)) fun _ => Op.keeps_pure _

end Keeps

/-! ### How a command ends -/

/-- The ways a command can answer a next state. -/
theorem finish_next {r : Res Unit} (h : finish s r = .next t) :
    (∃ u, r = .ok () u ∧ t = { u with status := .ended .ok })
      ∨ (∃ k u, r = .error (.rejected k) u ∧ t = s.reject k)
      ∨ (∃ k u, r = .error (.raised k) u ∧ t = u.raise k)
      ∨ ∃ u, r = .error .waiting u ∧ t = { u with status := .waiting, freeCtr := s.freeCtr } := by
  cases r with
  | ok a u => simp only [finish, Host.Outcome.next.injEq] at h; exact .inl ⟨u, rfl, h.symm⟩
  | error e u =>
    cases e with
    | rejected k => simp only [finish, Host.Outcome.next.injEq] at h; exact .inr (.inl ⟨k, u, rfl, h.symm⟩)
    | raised k => simp only [finish, Host.Outcome.next.injEq] at h; exact .inr (.inr (.inl ⟨k, u, rfl, h.symm⟩))
    | faulted f => simp [finish] at h
    | waiting => simp only [finish, Host.Outcome.next.injEq] at h; exact .inr (.inr (.inr ⟨u, rfl, h.symm⟩))

/-- A command that may not run is turned away. -/
theorem command_reject {accepted legal : Bool} {body : Op Unit} (h : (accepted && legal) = false) :
    command accepted legal body s = .next (s.reject .illegalCommand) := by
  rw [command, h]
  rfl

/-- A command that may run ends as its body does. -/
theorem command_run {accepted legal : Bool} {body : Op Unit} (h : (accepted && legal) = true) :
    command accepted legal body s = finish s (body s) := by
  rw [command, h]
  rfl

/-- A command whose body ends completes. -/
theorem command_ok {accepted legal : Bool} {body : Op Unit} (h : (accepted && legal) = true) (hb : body s = .ok () t) :
    command accepted legal body s = .next { t with status := .ended .ok } := by
  rw [command_run h, hb]
  rfl

/-- What the body keeps, and the four endings keep, the command keeps. -/
theorem command_keeps {P : State → Prop} {accepted legal : Bool} {body : Op Unit} (hb : Op.Keeps P body)
    (hstatus : ∀ s st, P s → P { s with status := st })
    (hraise : ∀ s k, P s → P (s.raise k))
    (hwait : ∀ s st n, P s → P { s with status := st, freeCtr := n })
    (hs : P s) (h : command accepted legal body s = .next t) : P t := by
  cases ha : accepted && legal
  · rw [command_reject ha] at h
    cases h
    exact hstatus s _ hs
  · rw [command_run ha] at h
    rcases finish_next h with ⟨u, hu, rfl⟩ | ⟨k, u, hu, rfl⟩ | ⟨k, u, hu, rfl⟩ | ⟨u, hu, rfl⟩
    · exact hstatus u _ (hb.ok hs hu)
    · exact hstatus s _ hs
    · exact hraise u k (hb.error hs hu)
    · exact hwait u _ _ (hb.error hs hu)

/-- A command never refuses. -/
theorem command_not_refused {accepted legal : Bool} {body : Op Unit} (r : Refusal) :
    command accepted legal body s ≠ .refused r := by
  cases ha : accepted && legal
  · simp [command_reject ha]
  · rw [command_run ha]
    cases body s with
    | ok a u => simp [finish]
    | error e u => cases e <;> simp [finish]

end Sys2Proof.Machine
end

