-- ==== Sys2Proof/Laws/Writes.lean ====
section
/-! SUPPORT. Everything each operation can write, said once: a property of states that survives the writes named for an
operation survives the operation, however it ends. Frames and invariants are instances. -/

namespace Sys2Proof.Machine

/-! ### The writes -/

/-- The bit cursor moves over bits that are there. -/
structure BitWrites (P : State → Prop) : Prop where
  skip : ∀ s n, P s → s.bitpos + n ≤ s.bsLen → P { s with bitpos := s.bitpos + n }

/-- `RES` is written. -/
structure ResWrites (P : State → Prop) : Prop where
  res : ∀ s v, P s → P { s with res := v }

/-- A residual block's own registers, `PNNZ` and `RES` are written (R21, R23). -/
structure BlockWrites (P : State → Prop) : Prop extends BitWrites P where
  regs : ∀ s tc tr li sl zl rb mc bk pn rs, P s →
    P { s with
      totalCoeff := tc, trailingOnes := tr, levelIdx := li, suffixLength := sl, zerosLeft := zl, runBefore := rb
      maxCoeff := mc, blk := bk, pnnz := pn, res := rs }
  level : ∀ s i v, P s → P { s with level := Cells.put s.level i v }
  clearLevel : ∀ s, P s → P { s with level := [] }

/-- Counts of `NNZ_CACHE` are written. -/
structure NnzWrites (P : State → Prop) : Prop where
  nnz : ∀ s v slots, P s → P { s with cache := { s.cache with nnz := Cells.putAll s.cache.nnz v slots } }

/-- Coefficients are written or zeroed (R51). -/
structure CoefWrites (P : State → Prop) : Prop where
  coef : ∀ s k v, P s → P { s with coefs := { s.coefs with coef := Cells.putZero s.coefs.coef k v } }
  lumaDc : ∀ s k v, P s → P { s with coefs := { s.coefs with lumaDc := Cells.putZero s.coefs.lumaDc k v } }
  chromaDc : ∀ s k v, P s → P { s with coefs := { s.coefs with chromaDc := Cells.putZero s.coefs.chromaDc k v } }
  zeroCoef : ∀ s as, P s → P { s with coefs := { s.coefs with coef := Cells.dropAll s.coefs.coef as } }
  zeroLumaDc : ∀ s, P s → P { s with coefs := { s.coefs with lumaDc := [] } }
  zeroChromaDc : ∀ s as, P s → P { s with coefs := { s.coefs with chromaDc := Cells.dropAll s.coefs.chromaDc as } }
  zeroAll : ∀ s, P s → P { s with coefs := Coefs.zero }

/-- What `DECODE_RESIDUAL` writes (R200). -/
structure ResidualWrites (P : State → Prop) : Prop extends BlockWrites P, NnzWrites P, CoefWrites P

/-- Motion and intra modes of the caches are written. -/
structure CacheWrites (P : State → Prop) : Prop extends NnzWrites P where
  mv : ∀ s v slots, P s → P { s with cache := { s.cache with mv := Cells.putAll s.cache.mv v slots } }
  ref : ∀ s v slots, P s → P { s with cache := { s.cache with ref := Cells.putAll s.cache.ref v slots } }
  i4 : ∀ s v slots, P s → P { s with cache := { s.cache with i4 := Cells.putAll s.cache.i4 v slots } }

/-- What `CACHE_FILL` writes (R252): caches and availability latches. -/
structure FillWrites (P : State → Prop) : Prop extends CacheWrites P where
  latches : ∀ s (a b c d e f g h : Bool), P s →
    P { s with nbAvail := [(0, a), (1, b), (2, c), (3, d)], nbIntra := [(0, e), (1, f), (2, g), (3, h)] }

/-- The other predictor results are written (R23). -/
structure PredWrites (P : State → Prop) : Prop where
  pm : ∀ s x y, P s → P { s with pmx := x, pmy := y }
  pmode : ∀ s m r, P s → P { s with pmode := m, res := r }

/-- Macroblock registers are written (R22). -/
structure MbWrites (P : State → Prop) : Prop where
  whole : ∀ s m, m.wf = true → P s → P { s with mb := m }
  cbp : ∀ s v, P s → P { s with mb := { s.mb with cbp := v } }
  dct8x8 : ∀ s v, P s → P { s with mb := { s.mb with dct8x8 := v } }
  chromaMode : ∀ s v, P s → P { s with mb := { s.mb with chromaMode := v } }
  sub : ∀ s i v, P s → P { s with mb := { s.mb with sub := Cells.put s.mb.sub i v } }
  i4Mode : ∀ s v as, P s → P { s with mb := { s.mb with i4Mode := Cells.putAll s.mb.i4Mode v as } }
  nnzSum : ∀ s q v, P s → P { s with mb := { s.mb with nnzSum := Cells.put s.mb.nnzSum q v } }

/-- What `MB_DECODE` writes (R301). -/
structure DecodeWrites (P : State → Prop) : Prop extends
    ResidualWrites P, FillWrites P, PredWrites P, MbWrites P where
  align : ∀ s, P s → P { s with bitpos := s.alignedPos }
  skipRun : ∀ s v, P s → P { s with skipRun := v }
  quantizer : ∀ s q, q ≤ s.maxQp → P s → P (s.setQscale q)
  chromaQp : ∀ s c v, P s → P { s with chromaQp := Cells.put s.chromaQp c v }
  pcm : ∀ s i v, P s → P { s with pcm := Cells.put s.pcm i v }

/-- Samples of the current picture are written. -/
structure PlaneWrites (P : State → Prop) : Prop where
  block : ∀ s p x y w h f, P s → s.insidePlane p x y w h = true → P (s.putBlock p x y w h f)

/-- Motion compensation writes (R371, R375): operand registers, scratch buffer, samples, the free-value counter. -/
structure McWrites (P : State → Prop) : Prop extends PlaneWrites P where
  mc : ∀ s m, P s → P { s with mc := m }
  tmp : ∀ s p x y w h f, P s → P (s.putTmp p x y w h f)
  counter : ∀ s n, P s → P { s with freeCtr := n }

/-- Elements of `IMPLICIT_WEIGHT` are written (R405). -/
structure ImplicitWrites (P : State → Prop) : Prop where
  weight : ∀ s k v, P s →
    P { s with tabs := { s.tabs with implicitWeight := Cells.put s.tabs.implicitWeight k v } }

/-- Per-macroblock arrays are written (R278). -/
structure ArrayWrites (P : State → Prop) : Prop where
  macroblock : ∀ s mb (m : Mb) q c, P s →
    P { s with
      pic :=
        { s.pic with
          arrays :=
            { s.pic.arrays with
              slice := Cells.put s.pic.arrays.slice mb s.sliceNum
              mbType := Cells.put s.pic.arrays.mbType mb m
              qscale := Cells.put s.pic.arrays.qscale mb q
              cbp := Cells.put s.pic.arrays.cbp mb c } } }
  picNnz : ∀ s k v, P s →
    P { s with pic := { s.pic with arrays := { s.pic.arrays with nnz := Cells.put s.pic.arrays.nnz k v } } }
  picI4 : ∀ s k v, P s →
    P { s with pic := { s.pic with arrays := { s.pic.arrays with i4 := Cells.put s.pic.arrays.i4 k v } } }
  picRef : ∀ s k v, P s →
    P { s with pic := { s.pic with arrays := { s.pic.arrays with ref := Cells.put s.pic.arrays.ref k v } } }
  picMv : ∀ s k v, P s →
    P { s with pic := { s.pic with arrays := { s.pic.arrays with mv := Cells.put s.pic.arrays.mv k v } } }

/-- What `MB_RECON` writes (R450). -/
structure ReconWrites (P : State → Prop) : Prop extends McWrites P, CoefWrites P, ArrayWrites P, ResWrites P where
  advance : ∀ s, P s → P s.advanceMb

variable {P : State → Prop}

/-! ### Whole macroblock registers are in canonical form -/

theorem iMbType_wf (k : Nat) : (iMbType k).wf = true := by
  unfold iMbType
  split
  · rfl
  · split <;> rfl

theorem pMbType_wf (k : Nat) : (pMbType k).wf = true := by
  unfold pMbType
  split <;> rfl

theorem bMbType_wf (k : Nat) : (bMbType k).wf = true := by
  unfold bMbType
  split <;> rfl

theorem skippedMb_wf (b : Bool) : (skippedMb b).wf = true := by cases b <;> rfl

theorem mbOfType_wf {sl : SliceType} {t : Nat} {m : Mb} (h : mbOfType sl t = some m) : m.wf = true := by
  cases sl <;> simp only [mbOfType] at h <;> split at h
  all_goals first
    | cases h
      first
        | exact iMbType_wf _
        | exact pMbType_wf _
        | exact bMbType_wf _
    | split at h
      · cases h
        exact iMbType_wf _
      · cases h
    | cases h

/-! ### The bit reader -/

theorem setRes_keeps (h : ResWrites P) (v : Int) : Op.Keeps P (setRes v) := Op.keeps_modify fun s => h.res s _

theorem skipBits_keeps (h : BitWrites P) (n : Nat) : Op.Keeps P (skipBits n) :=
  Op.keeps_require_bind fun s hs hc => h.skip s n hs (by simpa using hc)

theorem readBits_keeps (h : BitWrites P) (n : Nat) : Op.Keeps P (readBits n) :=
  Op.keeps_bind (Op.keeps_read _) fun _ => Op.keeps_bind (skipBits_keeps h n) fun _ => Op.keeps_pure _

theorem countZeros_keeps (h : BitWrites P) (k : ErrKind) : ∀ left zeros, Op.Keeps P (countZeros k left zeros)
  | 0, _ => Op.keeps_raise k
  | left + 1, zeros =>
    Op.keeps_bind (readBits_keeps h 1) fun _ =>
      Op.keeps_ite (countZeros_keeps h k left (zeros + 1)) (Op.keeps_pure _)

theorem readUe_keeps (h : BitWrites P) : Op.Keeps P readUe :=
  Op.keeps_bind (countZeros_keeps h _ _ _) fun _ => Op.keeps_bind (readBits_keeps h _) fun _ => Op.keeps_pure _

theorem readSe_keeps (h : BitWrites P) : Op.Keeps P readSe :=
  Op.keeps_bind (readUe_keeps h) fun _ => Op.keeps_pure _

theorem readTe_keeps (h : BitWrites P) (range : Nat) : Op.Keeps P (readTe range) :=
  Op.keeps_ite (Op.keeps_pure _)
    (Op.keeps_ite (Op.keeps_bind (readBits_keeps h 1) fun _ => Op.keeps_pure _) (readUe_keeps h))

theorem getLevelPrefix_keeps (h : BitWrites P) : Op.Keeps P getLevelPrefix := countZeros_keeps h _ _ _

theorem vlcDecode_keeps (h : BitWrites P) (table : List Vlc.Code) : Op.Keeps P (vlcDecode table) :=
  Op.keeps_bind (Op.keeps_require _ _) fun _ => Op.keeps_bind (Op.keeps_read _) fun _ =>
    Op.keeps_bind (Op.keeps_orStop _ _) fun _ => Op.keeps_bind (skipBits_keeps h _) fun _ => Op.keeps_pure _

/-! ### Residual blocks -/

theorem BlockWrites.toRes (h : BlockWrites P) : ResWrites P := ⟨fun s v hs => h.regs s _ _ _ _ _ _ _ _ _ v hs⟩

theorem predNnz_keeps (h : BlockWrites P) (n : Nat) : Op.Keeps P (predNnz n) :=
  Op.keeps_bind (Op.keeps_need _) fun _ => Op.keeps_bind (Op.keeps_need _) fun _ =>
    Op.keeps_bind (Op.keeps_modify fun s hs => h.regs s _ _ _ _ _ _ _ _ _ _ hs) fun _ => Op.keeps_pure _

theorem readCoeffToken_keeps (h : BlockWrites P) (table : List Vlc.Code) : Op.Keeps P (readCoeffToken table) :=
  Op.keeps_bind (vlcDecode_keeps h.toBitWrites table) fun _ => Op.keeps_modify fun s hs => h.regs s _ _ _ _ _ _ _ _ _ _ hs

theorem setLevel_keeps (h : BlockWrites P) (i : Nat) (v : Int) : Op.Keeps P (setLevel i v) :=
  Op.keeps_bind (Op.keeps_require _ _) fun _ => Op.keeps_modify fun s => h.level s i _

theorem needBlock_keeps : Op.Keeps P needBlock :=
  Op.keeps_bind (Op.keeps_need _) fun _ => Op.keeps_bind (Op.keeps_need _) fun _ =>
    Op.keeps_bind (Op.keeps_require _ _) fun _ => Op.keeps_pure _

theorem readTrailingSigns_keeps (h : BlockWrites P) : Op.Keeps P readTrailingSigns :=
  Op.keeps_bind needBlock_keeps fun _ => Op.keeps_bind (Op.keeps_need _) fun _ =>
    Op.keeps_bind
      (Op.keeps_each _ fun i _ => Op.keeps_bind (readBits_keeps h.toBitWrites 1) fun _ => setLevel_keeps h i _)
      fun _ => Op.keeps_modify fun s hs => h.regs s _ _ _ _ _ _ _ _ _ _ hs

theorem decodeLevel_keeps (h : BitWrites P) (sl : Nat) (first : Bool) : Op.Keeps P (decodeLevel sl first) :=
  Op.keeps_bind (getLevelPrefix_keeps h) fun _ => Op.keeps_bind (Op.keeps_require _ _) fun _ =>
    Op.keeps_bind (readBits_keeps h _) fun _ => Op.keeps_pure _

theorem readLevel_keeps (h : BlockWrites P) : Op.Keeps P readLevel :=
  Op.keeps_bind (Op.keeps_need _) fun _ => Op.keeps_bind (Op.keeps_need _) fun _ =>
    Op.keeps_bind (Op.keeps_require _ _) fun _ => Op.keeps_bind (Op.keeps_need _) fun _ =>
      Op.keeps_bind (Op.keeps_need _) fun _ => Op.keeps_bind (decodeLevel_keeps h.toBitWrites _ _) fun _ =>
        Op.keeps_bind (setLevel_keeps h _ _) fun _ => Op.keeps_modify fun s hs => h.regs s _ _ _ _ _ _ _ _ _ _ hs

theorem readTotalZeros_keeps (h : BlockWrites P) : Op.Keeps P readTotalZeros := by
  refine Op.keeps_bind needBlock_keeps fun c => Op.keeps_bind (Op.keeps_ite (Op.keeps_pure _) ?_) fun _ =>
    Op.keeps_modify fun s hs => h.regs s _ _ _ _ _ _ _ _ _ _ hs
  exact Op.keeps_bind (Op.keeps_require _ _) fun _ => vlcDecode_keeps h.toBitWrites _

theorem useRun_keeps (h : BlockWrites P) (zl : Int) (run : Nat) : Op.Keeps P (useRun zl run) :=
  Op.keeps_bind (Op.keeps_modify fun s hs => h.regs s _ _ _ _ _ _ _ _ _ _ hs) fun _ =>
    Op.keeps_bind (Op.keeps_require _ _) fun _ => setRes_keeps h.toRes _

theorem readRunBefore_keeps (h : BlockWrites P) : Op.Keeps P readRunBefore :=
  Op.keeps_bind (Op.keeps_need _) fun _ => Op.keeps_bind (Op.keeps_require _ _) fun _ =>
    Op.keeps_bind (vlcDecode_keeps h.toBitWrites _) fun _ => useRun_keeps h _ _

theorem setCoef_keeps (h : CoefWrites P) (k : Nat) (v : Int) : Op.Keeps P (setCoef k v) :=
  Op.keeps_modify fun s => h.coef s k _

theorem setLumaDc_keeps (h : CoefWrites P) (i : Nat) (v : Int) : Op.Keeps P (setLumaDc i v) :=
  Op.keeps_modify fun s => h.lumaDc s i _

theorem setChromaDc_keeps (h : CoefWrites P) (c i : Nat) (v : Int) : Op.Keeps P (setChromaDc c i v) :=
  Op.keeps_modify fun s => h.chromaDc s _ _

theorem setDest_keeps (h : CoefWrites P) (r : ResidualArgs) (idx : Nat) (v : Int) : Op.Keeps P (r.setDest idx v) :=
  Op.keeps_ite (setLumaDc_keeps h _ _) (Op.keeps_ite (setChromaDc_keeps h _ _ _)
    (Op.keeps_ite (setCoef_keeps h _ _) (setCoef_keeps h _ _)))

theorem factorAt_keeps (r : ResidualArgs) (idx : Nat) : Op.Keeps P (r.factorAt idx) :=
  Op.keeps_ite (Op.keeps_need _) (Op.keeps_bind (Op.keeps_require _ _) fun _ => Op.keeps_need _)

theorem storeLevel_keeps (h : CoefWrites P) (r : ResidualArgs) (pos : Nat) (v : Int) :
    Op.Keeps P (storeLevel r pos v) :=
  Op.keeps_bind (Op.keeps_need _) fun _ => Op.keeps_bind (Op.keeps_require _ _) fun _ =>
    Op.keeps_ite (Op.keeps_bind (factorAt_keeps r _) fun _ => setDest_keeps h r _ _) (setDest_keeps h r _ _)

theorem scatterFrom_keeps (h : ResidualWrites P) (r : ResidualArgs) : ∀ n i pos, Op.Keeps P (scatterFrom r n i pos)
  | 0, _, _ => Op.keeps_pure ()
  | n + 1, _, _ =>
    Op.keeps_bind (Op.keeps_need _) fun _ =>
      Op.keeps_bind
        (Op.keeps_ite (Op.keeps_bind (readRunBefore_keeps h.toBlockWrites) fun _ => Op.keeps_need _) (Op.keeps_pure _))
        fun _ => Op.keeps_bind (Op.keeps_need _) fun _ =>
          Op.keeps_bind (storeLevel_keeps h.toCoefWrites r _ _) fun _ => scatterFrom_keeps h r n _ _

theorem scatter_keeps (h : ResidualWrites P) (r : ResidualArgs) : Op.Keeps P (scatter r) :=
  Op.keeps_bind (Op.keeps_need _) fun _ => Op.keeps_bind (Op.keeps_need _) fun _ =>
    Op.keeps_bind (Op.keeps_require _ _) fun _ => Op.keeps_bind (Op.keeps_need _) fun _ =>
      Op.keeps_bind (storeLevel_keeps h.toCoefWrites r _ _) fun _ => scatterFrom_keeps h r _ _ _

theorem readLevels_keeps (h : BlockWrites P) : ∀ n, Op.Keeps P (readLevels n)
  | 0 => Op.keeps_pure ()
  | n + 1 =>
    Op.keeps_bind (Op.keeps_need _) fun _ => Op.keeps_bind (Op.keeps_need _) fun _ =>
      Op.keeps_ite (Op.keeps_bind (readLevel_keeps h) fun _ => readLevels_keeps h n) (Op.keeps_pure _)

theorem selectTokenTable_keeps (h : BlockWrites P) (r : ResidualArgs) : Op.Keeps P (selectTokenTable r) :=
  Op.keeps_ite (Op.keeps_pure _) (Op.keeps_ite (Op.keeps_pure _)
    (Op.keeps_bind (predNnz_keeps h _) fun _ => Op.keeps_bind (Op.keeps_require _ _) fun _ => Op.keeps_pure _))

theorem setNnz_keeps (h : NnzWrites P) (slots : List Nat) (v : BitVec 8) : Op.Keeps P (setNnz slots v) :=
  Op.keeps_modify fun s => h.nnz s v slots

theorem residualLevels_keeps (h : ResidualWrites P) (r : ResidualArgs) (total : Nat) :
    Op.Keeps P (residualLevels r total) :=
  Op.keeps_bind (Op.keeps_require _ _) fun _ => Op.keeps_bind (readTrailingSigns_keeps h.toBlockWrites) fun _ =>
    Op.keeps_bind (readLevels_keeps h.toBlockWrites 16) fun _ =>
      Op.keeps_bind (readTotalZeros_keeps h.toBlockWrites) fun _ => scatter_keeps h r

theorem forgetBlock_keeps (h : BlockWrites P) : Op.Keeps P (Op.modify State.forgetBlock) :=
  Op.keeps_modify fun s hs => h.clearLevel _ (h.regs s none none none none none none none none s.pnnz s.res hs)

/-- Everything `DECODE_RESIDUAL` can write. -/
theorem decodeResidual_keeps (h : ResidualWrites P) (r : ResidualArgs) : Op.Keeps P (decodeResidual r) :=
  Op.keeps_bind (Op.keeps_require _ _) fun _ =>
    Op.keeps_bind (Op.keeps_modify fun s hs => h.regs s _ _ _ _ _ _ _ _ _ _ hs) fun _ =>
      Op.keeps_bind (selectTokenTable_keeps h.toBlockWrites r) fun _ =>
        Op.keeps_bind (readCoeffToken_keeps h.toBlockWrites _) fun _ => Op.keeps_bind (Op.keeps_need _) fun _ =>
          Op.keeps_bind (setNnz_keeps h.toNnzWrites _ _) fun _ =>
            Op.keeps_bind (Op.keeps_when _ (Op.keeps_nested (residualLevels_keeps h r _))) fun _ =>
              Op.keeps_bind (setRes_keeps h.toBlockWrites.toRes _) fun _ => forgetBlock_keeps h.toBlockWrites

theorem tokenStep_keeps (h : BlockWrites P) (sel : Nat) : Op.Keeps P (tokenStep sel) :=
  Op.keeps_bind (Op.keeps_modify fun s hs => h.regs s _ _ _ _ _ _ _ _ _ _ hs) fun _ => readCoeffToken_keeps h _

/-! ### Neighbor caches -/

theorem setMv_keeps (h : CacheWrites P) (l : Nat) (slots : List Nat) (v : Mv) : Op.Keeps P (setMv l slots v) :=
  Op.keeps_modify fun s => h.mv s v _

theorem setRef_keeps (h : CacheWrites P) (l : Nat) (slots : List Nat) (v : BitVec 8) : Op.Keeps P (setRef l slots v) :=
  Op.keeps_modify fun s => h.ref s v _

theorem setI4_keeps (h : CacheWrites P) (slots : List Nat) (v : BitVec 8) : Op.Keeps P (setI4 slots v) :=
  Op.keeps_modify fun s => h.i4 s v _

theorem intraAvailable_keeps (mb : Nat) : Op.Keeps P (intraAvailable mb) :=
  Op.keeps_bind (Op.keeps_read _) fun _ =>
    Op.keeps_ite (Op.keeps_bind (Op.keeps_need _) fun _ => Op.keeps_pure _) (Op.keeps_pure _)

theorem neighborAt_keeps (dx dy : Int) : Op.Keeps P (neighborAt dx dy) := by
  refine Op.keeps_bind (Op.keeps_read _) fun found => ?_
  cases found with
  | none => exact Op.keeps_pure _
  | some mb =>
    exact Op.keeps_bind (Op.keeps_need _) fun _ => Op.keeps_bind (Op.keeps_read _) fun _ =>
      Op.keeps_ite (Op.keeps_bind (intraAvailable_keeps mb) fun _ => Op.keeps_pure _) (Op.keeps_pure _)

theorem fillNnz_keeps (h : NnzWrites P) (nb : Neighbor) (pairs : List (Nat × Nat)) : Op.Keeps P (fillNnz nb pairs) :=
  Op.keeps_each _ fun _ _ =>
    Op.keeps_bind (Op.keeps_ite (Op.keeps_need _) (Op.keeps_pure _)) fun _ => setNnz_keeps h _ _

theorem fillI4_keeps (h : CacheWrites P) (nb : Neighbor) (pairs : List (Nat × Nat)) : Op.Keeps P (fillI4 nb pairs) :=
  Op.keeps_bind (Op.keeps_ite (Op.keeps_bind (Op.keeps_need _) fun _ => Op.keeps_pure _) (Op.keeps_pure _)) fun _ =>
    Op.keeps_each _ fun _ _ =>
      Op.keeps_bind (Op.keeps_ite (Op.keeps_need _) (Op.keeps_pure _)) fun _ => setI4_keeps h _ _

theorem presetMotion_keeps (h : CacheWrites P) (l : Nat) : Op.Keeps P (presetMotion l) :=
  Op.keeps_bind (setRef_keeps h _ _ _) fun _ => setMv_keeps h _ _ _

theorem fetchMotion_keeps (nb : Neighbor) (l q n : Nat) : Op.Keeps P (fetchMotion nb l q n) :=
  Op.keeps_ite
    (Op.keeps_bind (Op.keeps_need _) fun _ =>
      Op.keeps_ite (Op.keeps_bind (Op.keeps_need _) fun _ => Op.keeps_pure _) (Op.keeps_pure _))
    (Op.keeps_pure _)

theorem fillMotion_keeps (h : CacheWrites P) (nb : Neighbor) (l : Nat) (ts : List (Nat × Nat × Nat)) :
    Op.Keeps P (fillMotion nb l ts) :=
  Op.keeps_each _ fun _ _ => Op.keeps_bind (fetchMotion_keeps nb l _ _) fun _ =>
    Op.keeps_bind (setRef_keeps h _ _ _) fun _ => setMv_keeps h _ _ _

theorem fillBorders_keeps (h : CacheWrites P) (nl nt ntl ntr : Neighbor) : Op.Keeps P (fillBorders nl nt ntl ntr) := by
  refine Op.keeps_bind (fillNnz_keeps h.toNnzWrites _ _) fun _ => Op.keeps_bind (fillNnz_keeps h.toNnzWrites _ _) fun _ =>
    Op.keeps_bind (Op.keeps_read _) fun _ => Op.keeps_bind (Op.keeps_when _ ?_) fun _ =>
      Op.keeps_bind (fillI4_keeps h _ _) fun _ => Op.keeps_bind (fillI4_keeps h _ _) fun _ =>
        Op.keeps_bind (Op.keeps_read _) fun _ =>
          Op.keeps_bind (Op.keeps_each _ fun l _ => presetMotion_keeps h l) fun _ =>
            Op.keeps_bind (Op.keeps_each _ fun l _ => Op.keeps_bind (fillMotion_keeps h _ _ _) fun _ =>
              fillMotion_keeps h _ _ _) fun _ => Op.keeps_each _ fun l _ =>
                Op.keeps_bind (fillMotion_keeps h _ _ _) fun _ => fillMotion_keeps h _ _ _
  exact Op.keeps_bind (fillNnz_keeps h.toNnzWrites _ _) fun _ => Op.keeps_bind (fillNnz_keeps h.toNnzWrites _ _) fun _ =>
    Op.keeps_bind (fillNnz_keeps h.toNnzWrites _ _) fun _ => fillNnz_keeps h.toNnzWrites _ _

/-- Everything `CACHE_FILL` can write. -/
theorem cacheFill_keeps (h : FillWrites P) : Op.Keeps P cacheFill :=
  Op.keeps_bind (neighborAt_keeps _ _) fun _ => Op.keeps_bind (neighborAt_keeps _ _) fun _ =>
    Op.keeps_bind (neighborAt_keeps _ _) fun _ => Op.keeps_bind (neighborAt_keeps _ _) fun _ =>
      Op.keeps_bind (Op.keeps_modify fun s hs => h.latches s _ _ _ _ _ _ _ _ hs) fun _ =>
        fillBorders_keeps h.toCacheWrites _ _ _ _

theorem setPm_keeps (h : PredWrites P) (v : Mv) : Op.Keeps P (setPm v) := Op.keeps_modify fun s => h.pm s _ _

theorem diagonal_keeps (l slot w : Nat) : Op.Keeps P (diagonal l slot w) :=
  Op.keeps_bind (Op.keeps_need _) fun _ =>
    Op.keeps_ite
      (Op.keeps_bind (Op.keeps_need _) fun _ => Op.keeps_bind (Op.keeps_need _) fun _ => Op.keeps_pure _)
      (Op.keeps_bind (Op.keeps_need _) fun _ => Op.keeps_pure _)

/-- Everything `PredMV` can write. -/
theorem predMv_keeps (h : PredWrites P) (n w l : Nat) (ref : BitVec 8) : Op.Keeps P (predMv n w l ref) :=
  Op.keeps_bind (Op.keeps_need _) fun _ => Op.keeps_bind (Op.keeps_need _) fun _ =>
    Op.keeps_bind (Op.keeps_need _) fun _ => Op.keeps_bind (Op.keeps_need _) fun _ =>
      Op.keeps_bind (diagonal_keeps _ _ _) fun _ => setPm_keeps h _

theorem directional_keeps (h : PredWrites P) (l slot : Nat) (ref : BitVec 8) {m : Op Unit} (hm : Op.Keeps P m) :
    Op.Keeps P (directional l slot ref m) :=
  Op.keeps_bind (Op.keeps_need _) fun _ =>
    Op.keeps_ite (Op.keeps_bind (Op.keeps_need _) fun _ => setPm_keeps h _) hm

theorem predMv16x8_keeps (h : PredWrites P) (n l : Nat) (ref : BitVec 8) : Op.Keeps P (predMv16x8 n l ref) :=
  directional_keeps h _ _ _ (predMv_keeps h _ _ _ _)

theorem predMv8x16_keeps (h : PredWrites P) (n l : Nat) (ref : BitVec 8) : Op.Keeps P (predMv8x16 n l ref) :=
  Op.keeps_ite (directional_keeps h _ _ _ (predMv_keeps h _ _ _ _))
    (Op.keeps_bind (diagonal_keeps _ _ _) fun _ => Op.keeps_ite (setPm_keeps h _) (predMv_keeps h _ _ _ _))

theorem predMvPskip_keeps (h : PredWrites P) : Op.Keeps P predMvPskip :=
  Op.keeps_bind (Op.keeps_need _) fun _ => Op.keeps_bind (Op.keeps_need _) fun _ =>
    Op.keeps_bind (Op.keeps_need _) fun _ => Op.keeps_bind (Op.keeps_need _) fun _ =>
      Op.keeps_ite (setPm_keeps h _) (predMv_keeps h _ _ _ _)

theorem predI4Mode_keeps (h : PredWrites P) (n : Nat) : Op.Keeps P (predI4Mode n) :=
  Op.keeps_bind (Op.keeps_need _) fun _ => Op.keeps_bind (Op.keeps_need _) fun _ =>
    Op.keeps_bind (Op.keeps_modify fun s => h.pmode s _ _) fun _ => Op.keeps_pure _

theorem writebackMotion_keeps (h : ArrayWrites P) (mb : Nat) (intra : Bool) (l : Nat) :
    Op.Keeps P (writebackMotion mb intra l) :=
  Op.keeps_bind
    (Op.keeps_each _ fun _ _ => Op.keeps_bind (Op.keeps_ite (Op.keeps_pure _) (Op.keeps_need _)) fun _ =>
      Op.keeps_modify fun s => h.picRef s _ _)
    fun _ => Op.keeps_each _ fun _ _ => Op.keeps_bind (Op.keeps_ite (Op.keeps_pure _) (Op.keeps_need _)) fun _ =>
      Op.keeps_modify fun s => h.picMv s _ _

/-- Everything `CACHE_WRITEBACK` can write. -/
theorem cacheWriteback_keeps (h : ArrayWrites P) : Op.Keeps P cacheWriteback := by
  refine Op.keeps_bind (Op.keeps_require _ _) fun _ => Op.keeps_bind (Op.keeps_need _) fun kind =>
    Op.keeps_bind (Op.keeps_read _) fun mb => Op.keeps_bind (Op.keeps_read _) fun q =>
      Op.keeps_bind (Op.keeps_ite (Op.keeps_pure _) (Op.keeps_need _)) fun c =>
        Op.keeps_bind (Op.keeps_modify fun s => h.macroblock s _ _ _ _) fun _ =>
          Op.keeps_bind (Op.keeps_each _ fun n _ => Op.keeps_bind (Op.keeps_need _) fun _ =>
            Op.keeps_modify fun s => h.picNnz s _ _) fun _ => Op.keeps_bind (Op.keeps_when _ ?_) fun _ =>
              Op.keeps_bind (Op.keeps_read _) fun _ => Op.keeps_each _ fun l _ => writebackMotion_keeps h _ _ _
  exact Op.keeps_each _ fun n _ => Op.keeps_bind (Op.keeps_need _) fun _ => Op.keeps_modify fun s => h.picI4 s _ _

/-! ### One macroblock's syntax -/

theorem DecodeWrites.toRes (h : DecodeWrites P) : ResWrites P := h.toBlockWrites.toRes

theorem DecodeWrites.toCache (h : DecodeWrites P) : CacheWrites P := h.toFillWrites.toCacheWrites

theorem DecodeWrites.toBits (h : DecodeWrites P) : BitWrites P := h.toBlockWrites.toBitWrites

theorem skipRunStep_keeps (h : DecodeWrites P) : Op.Keeps P skipRunStep := by
  refine Op.keeps_bind (Op.keeps_read _) fun run => Op.keeps_bind (Op.keeps_ite ?_ (Op.keeps_pure _)) fun _ =>
    Op.keeps_bind (Op.keeps_read _) fun _ =>
      Op.keeps_ite (Op.keeps_bind (Op.keeps_modify fun s => h.skipRun s _) fun _ => Op.keeps_pure _)
        (Op.keeps_bind (Op.keeps_modify fun s => h.skipRun s _) fun _ => Op.keeps_pure _)
  exact Op.keeps_bind (readUe_keeps h.toBits) fun _ => Op.keeps_bind (Op.keeps_modify fun s => h.skipRun s _) fun _ =>
    Op.keeps_require _ _

theorem writeDirect_keeps (h : CacheWrites P) (blocks : Nat → DirectBlock) (l : Nat) (ns : List Nat) :
    Op.Keeps P (writeDirect blocks l ns) :=
  Op.keeps_each _ fun _ _ => Op.keeps_bind (setRef_keeps h _ _ _) fun _ => setMv_keeps h _ _ _

theorem directMotion_keeps (h : CacheWrites P) : Op.Keeps P directMotion :=
  Op.keeps_bind (Op.keeps_read _) fun _ => Op.keeps_each _ fun _ _ => writeDirect_keeps h _ _ _

theorem skippedMotionP_keeps (h : CacheWrites P) (hp : PredWrites P) : Op.Keeps P skippedMotionP :=
  Op.keeps_bind (predMvPskip_keeps hp) fun _ => Op.keeps_bind (Op.keeps_need _) fun _ =>
    Op.keeps_bind (Op.keeps_need _) fun _ => Op.keeps_bind (setRef_keeps h _ _ _) fun _ => setMv_keeps h _ _ _

/-- Everything a skipped macroblock can write. -/
theorem skippedMacroblock_keeps (h : DecodeWrites P) : Op.Keeps P skippedMacroblock :=
  Op.keeps_bind (Op.keeps_read _) fun b => Op.keeps_bind (Op.keeps_modify fun s => h.whole s _ (skippedMb_wf b)) fun _ =>
    Op.keeps_bind (cacheFill_keeps h.toFillWrites) fun _ =>
      Op.keeps_bind (Op.keeps_ite (directMotion_keeps h.toCache) (skippedMotionP_keeps h.toCache h.toPredWrites))
        fun _ => setNnz_keeps h.toNnzWrites _ _

theorem readMbType_keeps (hb : BitWrites P) (h : MbWrites P) : Op.Keeps P readMbType := by
  refine Op.keeps_bind (readUe_keeps hb) fun t => Op.keeps_bind (Op.keeps_read _) fun sl => ?_
  cases hm : mbOfType sl t with
  | none => exact fun s hs => hs
  | some m => exact fun s hs => h.whole s m (mbOfType_wf hm) hs

theorem readI4Mode_keeps (h : BitWrites P) (pred : Nat) : Op.Keeps P (readI4Mode pred) :=
  Op.keeps_bind (readBits_keeps h 1) fun _ => Op.keeps_ite (Op.keeps_pure _)
    (Op.keeps_bind (readBits_keeps h 3) fun _ => Op.keeps_pure _)

theorem intraModeStep_keeps (h : DecodeWrites P) (big : Bool) (n : Nat) : Op.Keeps P (intraModeStep big n) :=
  Op.keeps_bind (predI4Mode_keeps h.toPredWrites n) fun _ => Op.keeps_bind (readI4Mode_keeps h.toBits _) fun _ =>
    Op.keeps_bind (setI4_keeps h.toCache _ _) fun _ => Op.keeps_modify fun s => h.i4Mode s _ _

theorem intraModes_keeps (h : DecodeWrites P) : Op.Keeps P intraModes :=
  Op.keeps_bind (Op.keeps_read _) fun _ =>
    Op.keeps_bind (Op.keeps_ite (readBits_keeps h.toBits 1) (Op.keeps_pure _)) fun _ =>
      Op.keeps_bind (Op.keeps_modify fun s => h.dct8x8 s _) fun _ => Op.keeps_each _ fun n _ => intraModeStep_keeps h _ n

theorem intraChromaMode_keeps (h : DecodeWrites P) : Op.Keeps P intraChromaMode :=
  Op.keeps_bind (Op.keeps_read _) fun _ => Op.keeps_when _
    (Op.keeps_bind (readUe_keeps h.toBits) fun _ => Op.keeps_bind (Op.keeps_require _ _) fun _ =>
      Op.keeps_modify fun s => h.chromaMode s _)

/-- Everything an IntraPCM macroblock's syntax can write. -/
theorem intraPcm_keeps (h : DecodeWrites P) : Op.Keeps P intraPcm :=
  Op.keeps_bind (Op.keeps_modify h.align) fun _ => Op.keeps_bind (Op.keeps_require _ _) fun _ =>
    Op.keeps_bind (Op.keeps_read _) fun _ => Op.keeps_bind (Op.keeps_read _) fun _ =>
      Op.keeps_bind (Op.keeps_each _ fun i _ => Op.keeps_bind (readBits_keeps h.toBits _) fun _ =>
        Op.keeps_modify fun s => h.pcm s i _) fun _ =>
          Op.keeps_bind (setNnz_keeps h.toNnzWrites _ _) fun _ => Op.keeps_modify fun s => h.cbp s _

theorem readRef_keeps (h : BitWrites P) (l : Nat) : Op.Keeps P (readRef l) :=
  Op.keeps_bind (Op.keeps_need _) fun _ => Op.keeps_bind (Op.keeps_read _) fun _ =>
    Op.keeps_bind (readTe_keeps h _) fun _ => Op.keeps_bind (Op.keeps_require _ _) fun _ => Op.keeps_pure _

theorem readMv_keeps (h : BitWrites P) : Op.Keeps P readMv :=
  Op.keeps_bind (Op.keeps_need _) fun _ => Op.keeps_bind (Op.keeps_need _) fun _ =>
    Op.keeps_bind (readSe_keeps h) fun _ => Op.keeps_bind (readSe_keeps h) fun _ => Op.keeps_pure _

theorem predict_keeps (h : PredWrites P) (part : Part) (l : Nat) (ref : BitVec 8) : Op.Keeps P (part.predict l ref) :=
  Op.keeps_ite (predMv_keeps h _ _ _ _) (Op.keeps_ite (predMv16x8_keeps h _ _ _) (predMv8x16_keeps h _ _ _))

theorem interParts_keeps (h : DecodeWrites P) (parts : List Part) : Op.Keeps P (interParts parts) := by
  refine Op.keeps_bind (Op.keeps_read _) fun lists => Op.keeps_bind (Op.keeps_collect _ fun c _ => ?_) fun _ =>
    Op.keeps_each _ fun c _ => ?_
  · exact Op.keeps_bind (Op.keeps_need _) fun _ =>
      Op.keeps_bind (Op.keeps_ite (readRef_keeps h.toBits _) (Op.keeps_pure _)) fun _ =>
        Op.keeps_bind (setRef_keeps h.toCache _ _ _) fun _ => Op.keeps_pure _
  · exact Op.keeps_bind
      (Op.keeps_ite (Op.keeps_bind (predict_keeps h.toPredWrites _ _ _) fun _ => readMv_keeps h.toBits) (Op.keeps_pure _))
      fun _ => setMv_keeps h.toCache _ _ _

theorem readSubTypes_keeps (h : DecodeWrites P) : Op.Keeps P readSubTypes :=
  Op.keeps_each _ fun _ _ => Op.keeps_bind (readUe_keeps h.toBits) fun _ => Op.keeps_bind (Op.keeps_read _) fun _ =>
    Op.keeps_bind (Op.keeps_require _ _) fun _ => Op.keeps_modify fun s => h.sub s _ _

theorem quadrantRef_keeps (h : BitWrites P) (direct : List (Nat → DirectBlock)) (c : Nat × Nat) :
    Op.Keeps P (quadrantRef direct c) := by
  refine Op.keeps_bind (Op.keeps_need _) fun sub => Op.keeps_bind ?_ fun _ => Op.keeps_pure _
  unfold quadrantRefValue
  cases sub.shape with
  | none => exact Op.keeps_pure _
  | some _ => exact Op.keeps_ite (readRef_keeps h _) (Op.keeps_pure _)

theorem quadrantMv_keeps (h : DecodeWrites P) (direct : List (Nat → DirectBlock)) (c : PartRef Nat) :
    Op.Keeps P (quadrantMv direct c) := by
  refine Op.keeps_bind (Op.keeps_need _) fun sub => ?_
  cases sub.shape with
  | none => exact writeDirect_keeps h.toCache _ _ _
  | some shape =>
    exact Op.keeps_bind (setRef_keeps h.toCache _ _ _) fun _ =>
      Op.keeps_ite
        (Op.keeps_each _ fun _ _ => Op.keeps_bind (predMv_keeps h.toPredWrites _ _ _ _) fun _ =>
          Op.keeps_bind (readMv_keeps h.toBits) fun _ => setMv_keeps h.toCache _ _ _)
        (setMv_keeps h.toCache _ _ _)

theorem inter8x8_keeps (h : DecodeWrites P) : Op.Keeps P inter8x8 :=
  Op.keeps_bind (readSubTypes_keeps h) fun _ =>
    Op.keeps_bind (Op.keeps_collect _ fun _ _ => Op.keeps_read _) fun direct =>
      Op.keeps_bind (Op.keeps_read _) fun _ =>
        Op.keeps_bind (Op.keeps_collect _ fun c _ => quadrantRef_keeps h.toBits direct c) fun _ =>
          Op.keeps_each _ fun c _ => quadrantMv_keeps h direct c

theorem predictionSyntax_keeps (h : DecodeWrites P) (kind : MbKind) : Op.Keeps P (predictionSyntax kind) := by
  cases kind with
  | intra4x4 => exact Op.keeps_bind (intraModes_keeps h) fun _ => intraChromaMode_keeps h
  | intra16x16 => exact intraChromaMode_keeps h
  | intraPcm => exact Op.keeps_pure _
  | inter16x16 => exact interParts_keeps h _
  | inter16x8 => exact interParts_keeps h _
  | inter8x16 => exact interParts_keeps h _
  | inter8x8 => exact inter8x8_keeps h
  | direct => exact directMotion_keeps h.toCache

theorem readCbp_keeps (h : DecodeWrites P) (kind : MbKind) : Op.Keeps P (readCbp kind) :=
  Op.keeps_bind (readUe_keeps h.toBits) fun _ => Op.keeps_bind (Op.keeps_read _) fun _ =>
    Op.keeps_bind (Op.keeps_orStop _ _) fun _ => Op.keeps_modify fun s => h.cbp s _

theorem transform8x8Allowed_keeps (kind : MbKind) : Op.Keeps P (transform8x8Allowed kind) := by
  refine Op.keeps_bind (Op.keeps_read _) fun _ => Op.keeps_bind (Op.keeps_read _) fun _ => ?_
  cases kind with
  | inter8x8 => exact Op.keeps_bind (Op.keeps_collect _ fun _ _ => Op.keeps_need _) fun _ => Op.keeps_pure _
  | direct => exact Op.keeps_pure _
  | intra4x4 => exact Op.keeps_pure _
  | intra16x16 => exact Op.keeps_pure _
  | intraPcm => exact Op.keeps_pure _
  | inter16x16 => exact Op.keeps_pure _
  | inter16x8 => exact Op.keeps_pure _
  | inter8x16 => exact Op.keeps_pure _

theorem interTransformFlag_keeps (h : DecodeWrites P) (kind : MbKind) : Op.Keeps P (interTransformFlag kind) :=
  Op.keeps_bind (transform8x8Allowed_keeps kind) fun _ => Op.keeps_bind (Op.keeps_need _) fun _ =>
    Op.keeps_when _ (Op.keeps_bind (readBits_keeps h.toBits 1) fun _ => Op.keeps_modify fun s => h.dct8x8 s _)

/-- A quantizer after its wraparound is in range. -/
theorem wrapQuantizer_le {maxQp q' : Nat} {q : Int} (h : wrapQuantizer maxQp q = some q') : q' ≤ maxQp := by
  simp only [wrapQuantizer, Option.ite_none_right_eq_some, Option.some.injEq] at h
  omega

theorem quantizerDelta_keeps (h : DecodeWrites P) : Op.Keeps P quantizerDelta := by
  refine Op.keeps_bind (readSe_keeps h.toBits) fun dq s hs => ?_
  rw [Op.bind_ok (Op.read_run _ _)]
  cases hq : wrapQuantizer s.maxQp (s.qscale + dq) with
  | none => exact hs
  | some q' =>
    rw [Op.bind_ok (Op.orStop_some _ _ _), Op.bind_ok (Op.modify_run _ _)]
    refine Op.keeps_each _ (fun c _ => ?_) _ (h.quantizer s q' (wrapQuantizer_le hq) hs)
    exact Op.keeps_bind (Op.keeps_need _) fun _ => Op.keeps_bind (Op.keeps_require _ _) fun _ =>
      Op.keeps_modify fun s => h.chromaQp s _ _

theorem residualBlocks_keeps (h : ResidualWrites P) (rs : List ResidualArgs) : Op.Keeps P (residualBlocks rs) :=
  Op.keeps_each _ fun r _ => Op.keeps_nested (decodeResidual_keeps h r)

theorem setNnzSum_keeps (h : MbWrites P) (q v : Nat) : Op.Keeps P (setNnzSum q v) :=
  Op.keeps_modify fun s => h.nnzSum s q _

theorem quadrantResidual_keeps (h : DecodeWrites P) (intra dct8x8 : Bool) (cbp qp q : Nat) :
    Op.Keeps P (quadrantResidual intra dct8x8 cbp qp q) :=
  Op.keeps_ite
    (Op.keeps_ite
      (Op.keeps_bind (residualBlocks_keeps h.toResidualWrites _) fun _ =>
        Op.keeps_bind (Op.keeps_bind (Op.keeps_collect _ fun _ _ => Op.keeps_need _) fun _ => Op.keeps_pure _) fun _ =>
          setNnzSum_keeps h.toMbWrites _ _)
      (residualBlocks_keeps h.toResidualWrites _))
    (Op.keeps_bind (setNnz_keeps h.toNnzWrites _ _) fun _ => setNnzSum_keeps h.toMbWrites _ _)

theorem lumaResidual_keeps (h : DecodeWrites P) (kind : MbKind) (cbp : Nat) : Op.Keeps P (lumaResidual kind cbp) :=
  Op.keeps_bind (Op.keeps_read _) fun _ =>
    Op.keeps_ite
      (Op.keeps_bind (residualBlocks_keeps h.toResidualWrites _) fun _ =>
        Op.keeps_ite (residualBlocks_keeps h.toResidualWrites _) (setNnz_keeps h.toNnzWrites _ _))
      (Op.keeps_bind (Op.keeps_need _) fun _ => Op.keeps_each _ fun q _ => quadrantResidual_keeps h _ _ _ _ q)

theorem chromaResidual_keeps (h : DecodeWrites P) (intra : Bool) (cbp : Nat) : Op.Keeps P (chromaResidual intra cbp) :=
  Op.keeps_bind (Op.keeps_read _) fun _ =>
    Op.keeps_bind (Op.keeps_when _ (residualBlocks_keeps h.toResidualWrites _)) fun _ =>
      Op.keeps_ite
        (Op.keeps_each _ fun _ _ => Op.keeps_bind (Op.keeps_need _) fun _ => residualBlocks_keeps h.toResidualWrites _)
        (setNnz_keeps h.toNnzWrites _ _)

theorem residualSyntax_keeps (h : DecodeWrites P) (kind : MbKind) : Op.Keeps P (residualSyntax kind) :=
  Op.keeps_bind (Op.keeps_need _) fun _ =>
    Op.keeps_ite
      (Op.keeps_bind (quantizerDelta_keeps h) fun _ => Op.keeps_bind (lumaResidual_keeps h kind _) fun _ =>
        chromaResidual_keeps h _ _)
      (Op.keeps_bind (setNnz_keeps h.toNnzWrites _ _) fun _ => Op.keeps_each _ fun _ _ => setNnzSum_keeps h.toMbWrites _ _)

theorem codedMacroblock_keeps (h : DecodeWrites P) : Op.Keeps P codedMacroblock :=
  Op.keeps_bind (readMbType_keeps h.toBits h.toMbWrites) fun _ =>
    Op.keeps_bind (cacheFill_keeps h.toFillWrites) fun _ => Op.keeps_bind (Op.keeps_need _) fun kind =>
      Op.keeps_ite (intraPcm_keeps h)
        (Op.keeps_bind (predictionSyntax_keeps h kind) fun _ =>
          Op.keeps_bind (Op.keeps_when _ (readCbp_keeps h kind)) fun _ =>
            Op.keeps_bind (interTransformFlag_keeps h kind) fun _ =>
              Op.keeps_bind (residualSyntax_keeps h kind) fun _ => setRes_keeps h.toRes _)

/-- Everything `MB_DECODE` can write. -/
theorem mbDecode_keeps (h : DecodeWrites P) : Op.Keeps P mbDecode :=
  Op.keeps_bind (Op.keeps_read _) fun _ =>
    Op.keeps_bind (Op.keeps_ite (Op.keeps_pure _) (skipRunStep_keeps h)) fun _ =>
      Op.keeps_ite (skippedMacroblock_keeps h) (codedMacroblock_keeps h)

/-! ### Samples -/

theorem updateBlock_keeps (h : PlaneWrites P) (p x y w ht : Nat) (f : State → Nat → Nat → Sample) :
    Op.Keeps P (updateBlock p x y w ht f) :=
  Op.keeps_require_bind fun s hs hc => h.block s p x y w ht _ hs hc

theorem mcDst_keeps : Op.Keeps P mcDst :=
  Op.keeps_bind (Op.keeps_need _) fun _ => Op.keeps_bind (Op.keeps_need _) fun _ =>
    Op.keeps_bind (Op.keeps_need _) fun _ => Op.keeps_bind (Op.keeps_need _) fun _ => Op.keeps_pure _

theorem mcSrc_keeps : Op.Keeps P mcSrc :=
  Op.keeps_bind (Op.keeps_need _) fun _ => Op.keeps_bind (Op.keeps_need _) fun _ =>
    Op.keeps_bind (Op.keeps_need _) fun _ => Op.keeps_bind (Op.keeps_need _) fun _ =>
      Op.keeps_bind (Op.keeps_need _) fun _ => Op.keeps_bind (Op.keeps_need _) fun _ => Op.keeps_pure _

/-- Everything a sample operation can write: a block of the scratch buffer, or one inside its plane. -/
theorem sampleOp_keeps (h : McWrites P) (p : Nat) (f : Formula) : Op.Keeps P (sampleOp p f) := by
  refine Op.keeps_bind mcDst_keeps fun d => Op.keeps_bind mcSrc_keeps fun b =>
    Op.keeps_require_bind fun s hs hc => ?_
  rw [Op.bind_ok (Op.read_run _ _)]
  cases s.refPic b.list b.ref with
  | none => exact hs
  | some ref =>
    rw [Op.bind_ok (Op.orStop_some _ _ _)]
    cases hl : !(b.buf && b.avg) || s.tmpLoaded p d.x d.y d.w d.h
    · rw [Op.bind_error (Op.require_false _ hl)]
      exact hs
    · rw [Op.bind_ok (Op.require_true _ hl)]
      show P (s.mcWrite p d b ref f)
      unfold State.mcWrite
      cases hb : b.buf
      · exact h.counter _ _ (h.block s p d.x d.y d.w d.h _ hs (by simpa [hb] using hc))
      · exact h.counter _ _ (h.tmp s p d.x d.y d.w d.h _ hs)

theorem mcChroma_keeps (h : McWrites P) (p : Nat) : Op.Keeps P (mcChroma p) :=
  Op.keeps_bind (Op.keeps_need _) fun _ => Op.keeps_bind (Op.keeps_need _) fun _ => sampleOp_keeps h _ _

theorem waitRow_keeps (l r : Nat) (row : Int) : Op.Keeps P (waitRow l r row) :=
  Op.keeps_bind (Op.keeps_require _ _) fun _ => Op.keeps_bind (Op.keeps_read _) fun _ =>
    Op.keeps_bind (Op.keeps_orStop _ _) fun _ => Op.keeps_require _ _

/-- Everything `WEIGHT_UNI` can write. -/
theorem weightUni_keeps (h : PlaneWrites P) (p l r : Nat) : Op.Keeps P (weightUni p l r) :=
  Op.keeps_bind mcDst_keeps fun _ => Op.keeps_bind (Op.keeps_need _) fun _ => Op.keeps_bind (Op.keeps_need _) fun _ =>
    updateBlock_keeps h _ _ _ _ _ _

theorem biWeights_keeps (p r0 r1 : Nat) : Op.Keeps P (biWeights p r0 r1) :=
  Op.keeps_bind (Op.keeps_read _) fun _ =>
    Op.keeps_ite
      (Op.keeps_bind (Op.keeps_need _) fun _ => Op.keeps_bind (Op.keeps_need _) fun _ =>
        Op.keeps_bind (Op.keeps_need _) fun _ => Op.keeps_bind (Op.keeps_need _) fun _ =>
          Op.keeps_bind (Op.keeps_read _) fun _ => Op.keeps_pure _)
      (Op.keeps_bind (Op.keeps_need _) fun _ => Op.keeps_pure _)

/-- Everything `WEIGHT_BI` can write. -/
theorem weightBi_keeps (h : PlaneWrites P) (p r0 r1 : Nat) : Op.Keeps P (weightBi p r0 r1) :=
  Op.keeps_bind (Op.keeps_require _ _) fun _ => Op.keeps_bind (Op.keeps_require _ _) fun _ =>
    Op.keeps_bind mcDst_keeps fun _ => Op.keeps_bind (biWeights_keeps _ _ _) fun _ =>
      Op.keeps_bind (Op.keeps_require _ _) fun _ => updateBlock_keeps h _ _ _ _ _ _

theorem implicitWeightStep_keeps (h : ImplicitWrites P) (c : Nat × Nat) : Op.Keeps P (implicitWeightStep c) :=
  Op.keeps_bind (Op.keeps_bind (Op.keeps_need _) fun _ => Op.keeps_ite (Op.keeps_pure _) (Op.keeps_need _)) fun _ =>
    Op.keeps_bind (Op.keeps_ite (Op.keeps_pure _) (Op.keeps_bind (Op.keeps_need _) fun _ =>
      Op.keeps_bind (Op.keeps_need _) fun _ => Op.keeps_read _)) fun _ => Op.keeps_modify fun s => h.weight s _ _

/-- Everything `IMPLICIT_WEIGHT` can write. -/
theorem implicitWeight_keeps (h : ImplicitWrites P) : Op.Keeps P implicitWeight :=
  Op.keeps_bind (Op.keeps_require _ _) fun _ => Op.keeps_bind (Op.keeps_read _) fun _ =>
    Op.keeps_bind (Op.keeps_read _) fun _ => Op.keeps_each _ fun c _ => implicitWeightStep_keeps h c

theorem predictLuma_keeps (h : McWrites P) (q : McPartition) (mx my : Int) : Op.Keeps P (q.predictLuma mx my) :=
  Op.keeps_bind (Op.keeps_modify fun s => h.mc s _) fun _ => Op.keeps_bind (Op.keeps_modify fun s => h.mc s _) fun _ =>
    Op.keeps_nested (sampleOp_keeps h _ _)

theorem predictChroma_keeps (h : McWrites P) (q : McPartition) (mx my : Int) (p : Nat) :
    Op.Keeps P (q.predictChroma mx my p) :=
  Op.keeps_bind (Op.keeps_modify fun s => h.mc s _) fun _ => Op.keeps_bind (Op.keeps_modify fun s => h.mc s _) fun _ =>
    Op.keeps_bind (Op.keeps_modify fun s => h.mc s _) fun _ => Op.keeps_nested (mcChroma_keeps h _)

theorem predictPart_keeps (h : McWrites P) (q : McPartition) (slot : Nat) (weighted : Bool) (c : (Nat × Nat) × Nat) :
    Op.Keeps P (q.predict slot weighted c) :=
  Op.keeps_bind (Op.keeps_need _) fun _ => Op.keeps_bind (Op.keeps_read _) fun _ =>
    Op.keeps_bind (waitRow_keeps _ _ _) fun _ => Op.keeps_bind (Op.keeps_modify fun s => h.mc s _) fun _ =>
      Op.keeps_bind (predictLuma_keeps h q _ _) fun _ => Op.keeps_bind (Op.keeps_read _) fun _ =>
        Op.keeps_each _ fun p _ => predictChroma_keeps h q _ _ p

theorem weightPart_keeps (h : McWrites P) (q : McPartition) (used : List (Nat × Nat)) : Op.Keeps P (q.weight used) := by
  refine Op.keeps_bind (Op.keeps_read _) fun _ => Op.keeps_each _ fun p _ =>
    Op.keeps_bind (Op.keeps_modify fun s => h.mc s _) fun _ => ?_
  split
  · exact Op.keeps_nested (weightUni_keeps h.toPlaneWrites _ _ _)
  · exact Op.keeps_nested (weightBi_keeps h.toPlaneWrites _ _ _)
  · exact Op.keeps_pure ()

/-- Everything `MC_PART` can write. -/
theorem mcPart_keeps (h : McWrites P) (n w ht : Nat) : Op.Keeps P (mcPart n w ht) :=
  Op.keeps_bind (Op.keeps_read _) fun q =>
    Op.keeps_bind (Op.keeps_bind (Op.keeps_read _) fun _ =>
      Op.keeps_bind (Op.keeps_collect _ fun _ _ => Op.keeps_need _) fun _ => Op.keeps_pure _) fun used =>
      Op.keeps_bind (Op.keeps_require _ _) fun _ => Op.keeps_bind (Op.keeps_read _) fun _ =>
        Op.keeps_bind (Op.keeps_eachNested _ fun c _ => predictPart_keeps h q _ _ c) fun _ =>
          Op.keeps_when _ (weightPart_keeps h q used)

/-! ### Reconstruction -/

theorem addResidual_keeps (h : PlaneWrites P) (pos : State → BlockPos) (n : Nat) (f : State → Nat → Nat → Int) :
    Op.Keeps P (addResidual pos n f) :=
  Op.keeps_bind (Op.keeps_read _) fun _ => updateBlock_keeps h _ _ _ _ _ _

theorem zeroCoefs_keeps (h : CoefWrites P) (k n : Nat) : Op.Keeps P (zeroCoefs k n) :=
  Op.keeps_modify fun s => h.zeroCoef s _

/-- Everything the four inverse transforms can write. -/
theorem idct_keeps (h : PlaneWrites P) (hc : CoefWrites P) (b : Nat) :
    Op.Keeps P (idct4Add b) ∧ Op.Keeps P (idct4DcAdd b) ∧ Op.Keeps P (idct8Add b) ∧ Op.Keeps P (idct8DcAdd b) :=
  ⟨Op.keeps_bind (addResidual_keeps h _ _ _) fun _ => zeroCoefs_keeps hc _ _,
    Op.keeps_bind (addResidual_keeps h _ _ _) fun _ => zeroCoefs_keeps hc _ _,
    Op.keeps_bind (addResidual_keeps h _ _ _) fun _ => zeroCoefs_keeps hc _ _,
    Op.keeps_bind (addResidual_keeps h _ _ _) fun _ => zeroCoefs_keeps hc _ _⟩

theorem setFirstCoefs_keeps (h : CoefWrites P) (f : State → List (Nat × Int)) : Op.Keeps P (setFirstCoefs f) :=
  Op.keeps_bind (Op.keeps_read _) fun _ => Op.keeps_each _ fun _ _ => setCoef_keeps h _ _

/-- Everything the three DC transforms can write. -/
theorem lumaDc_keeps (h : CoefWrites P) (qmul : Nat) : Op.Keeps P (lumaDcDequantIdct qmul) :=
  Op.keeps_bind (setFirstCoefs_keeps h _) fun _ => Op.keeps_modify h.zeroLumaDc

theorem chromaDc_keeps (h : CoefWrites P) (c qmul : Nat) : Op.Keeps P (chromaDcDequantIdct c qmul) :=
  Op.keeps_bind (setFirstCoefs_keeps h _) fun _ => Op.keeps_modify fun s => h.zeroChromaDc s _

theorem chroma422Dc_keeps (h : CoefWrites P) (c qmul : Nat) : Op.Keeps P (chroma422DcDequantIdct c qmul) :=
  Op.keeps_bind (Op.keeps_read _) fun _ => Op.keeps_each _ fun _ _ => setChromaDc_keeps h _ _ _

theorem intraMode_keeps (kind b : Nat) : Op.Keeps P (intraMode kind b) := by
  unfold intraMode
  split
  · exact Op.keeps_bind (Op.keeps_need _) fun _ => Op.keeps_pure _
  · exact Op.keeps_bind (Op.keeps_need _) fun _ => Op.keeps_pure _
  · exact Op.keeps_need _
  · exact Op.keeps_need _

/-- Everything `INTRA_PRED` can write. -/
theorem intraPred_keeps (h : PlaneWrites P) (kind b : Nat) : Op.Keeps P (intraPred kind b) :=
  Op.keeps_bind (intraMode_keeps kind b) fun _ => Op.keeps_bind (Op.keeps_collect _ fun _ _ => Op.keeps_need _) fun _ =>
    Op.keeps_bind (Op.keeps_read _) fun _ => Op.keeps_bind (Op.keeps_read _) fun _ => updateBlock_keeps h _ _ _ _ _ _

theorem add4_keeps (h : PlaneWrites P) (hc : CoefWrites P) (kind : MbKind) (b : Nat) : Op.Keeps P (add4 kind b) :=
  Op.keeps_bind (Op.keeps_need _) fun _ => Op.keeps_bind (Op.keeps_read _) fun _ =>
    Op.keeps_ite
      (Op.keeps_ite (idct_keeps h hc b).1 (Op.keeps_ite (idct_keeps h hc b).2.1 (Op.keeps_pure _)))
      (Op.keeps_ite (Op.keeps_pure _) (Op.keeps_ite (idct_keeps h hc b).2.1 (idct_keeps h hc b).1))

theorem add8_keeps (h : PlaneWrites P) (hc : CoefWrites P) (q : Nat) : Op.Keeps P (add8 q) :=
  Op.keeps_bind (Op.keeps_need _) fun _ => Op.keeps_bind (Op.keeps_read _) fun _ =>
    Op.keeps_ite (Op.keeps_pure _) (Op.keeps_ite (idct_keeps h hc q).2.2.2 (idct_keeps h hc q).2.2.1)

theorem pcmBlock_keeps (h : PlaneWrites P) (p k n : Nat) : Op.Keeps P (pcmBlock p k n) :=
  Op.keeps_bind (Op.keeps_require _ _) fun _ => Op.keeps_bind (Op.keeps_read _) fun _ =>
    Op.keeps_bind (Op.keeps_read _) fun _ => updateBlock_keeps h _ _ _ _ _ _

theorem reconPcm_keeps (h : PlaneWrites P) : Op.Keeps P reconPcm :=
  Op.keeps_bind (pcmBlock_keeps h _ _ _) fun _ => Op.keeps_bind (Op.keeps_read _) fun _ =>
    Op.keeps_when _ (Op.keeps_bind (pcmBlock_keeps h _ _ _) fun _ => pcmBlock_keeps h _ _ _)

theorem interPartitions_keeps (kind : MbKind) : Op.Keeps P (interPartitions kind) := by
  cases kind with
  | inter8x8 => exact Op.keeps_bind (Op.keeps_collect _ fun _ _ => Op.keeps_need _) fun _ => Op.keeps_pure _
  | direct => exact Op.keeps_pure _
  | intra4x4 => exact Op.keeps_pure _
  | intra16x16 => exact Op.keeps_pure _
  | intraPcm => exact Op.keeps_pure _
  | inter16x16 => exact Op.keeps_pure _
  | inter16x8 => exact Op.keeps_pure _
  | inter8x16 => exact Op.keeps_pure _

theorem interPrediction_keeps (h : McWrites P) (kind : MbKind) : Op.Keeps P (interPrediction kind) :=
  Op.keeps_bind (interPartitions_keeps kind) fun _ => Op.keeps_eachNested _ fun _ _ => mcPart_keeps h _ _ _

theorem interLuma_keeps (h : PlaneWrites P) (hc : CoefWrites P) (kind : MbKind) : Op.Keeps P (interLuma kind) :=
  Op.keeps_bind (Op.keeps_need _) fun _ =>
    Op.keeps_ite (Op.keeps_each _ fun q _ => add8_keeps h hc q) (Op.keeps_each _ fun n _ => add4_keeps h hc kind n)

theorem intraLuma_keeps (h : PlaneWrites P) (hc : CoefWrites P) (kind : MbKind) : Op.Keeps P (intraLuma kind) :=
  Op.keeps_ite
    (Op.keeps_bind (Op.keeps_need _) fun _ =>
      Op.keeps_ite
        (Op.keeps_each _ fun q _ => Op.keeps_bind (intraPred_keeps h _ _) fun _ => add8_keeps h hc q)
        (Op.keeps_each _ fun n _ => Op.keeps_bind (intraPred_keeps h _ _) fun _ => add4_keeps h hc kind n))
    (Op.keeps_bind (intraPred_keeps h _ _) fun _ => Op.keeps_bind (Op.keeps_need _) fun _ =>
      Op.keeps_bind (Op.keeps_when _ (Op.keeps_bind (Op.keeps_read _) fun _ => Op.keeps_bind (Op.keeps_need _) fun _ =>
        lumaDc_keeps hc _)) fun _ => Op.keeps_each _ fun n _ => add4_keeps h hc kind n)

theorem chromaPlaneResidual_keeps (h : PlaneWrites P) (hc : CoefWrites P) (kind : MbKind) (c : Nat) :
    Op.Keeps P (chromaPlaneResidual kind c) :=
  Op.keeps_bind (Op.keeps_need _) fun _ =>
    Op.keeps_bind (Op.keeps_when _ (Op.keeps_bind (Op.keeps_need _) fun _ => Op.keeps_bind (Op.keeps_need _) fun _ =>
      chromaDc_keeps hc _ _)) fun _ => Op.keeps_each _ fun _ _ => add4_keeps h hc kind _

theorem reconChroma_keeps (h : PlaneWrites P) (hc : CoefWrites P) (kind : MbKind) : Op.Keeps P (reconChroma kind) :=
  Op.keeps_bind (Op.keeps_read _) fun _ => Op.keeps_when _
    (Op.keeps_bind (Op.keeps_when _ (Op.keeps_bind (intraPred_keeps h _ _) fun _ => intraPred_keeps h _ _)) fun _ =>
      Op.keeps_bind (Op.keeps_need _) fun _ =>
        Op.keeps_when _ (Op.keeps_each _ fun c _ => chromaPlaneResidual_keeps h hc kind c))

theorem reconSamples_keeps (h : ReconWrites P) (kind : MbKind) : Op.Keeps P (reconSamples kind) :=
  Op.keeps_ite (reconPcm_keeps h.toPlaneWrites)
    (Op.keeps_bind
      (Op.keeps_ite (intraLuma_keeps h.toPlaneWrites h.toCoefWrites kind)
        (Op.keeps_bind (interPrediction_keeps h.toMcWrites kind) fun _ =>
          interLuma_keeps h.toPlaneWrites h.toCoefWrites kind))
      fun _ => reconChroma_keeps h.toPlaneWrites h.toCoefWrites kind)

/-- Everything `MB_RECON` can write. -/
theorem mbRecon_keeps (h : ReconWrites P) : Op.Keeps P mbRecon :=
  Op.keeps_bind (Op.keeps_need _) fun kind => Op.keeps_bind (reconSamples_keeps h kind) fun _ =>
    Op.keeps_bind (Op.keeps_modify h.zeroAll) fun _ => Op.keeps_bind (cacheWriteback_keeps h.toArrayWrites) fun _ =>
      Op.keeps_bind (Op.keeps_modify h.advance) fun _ => setRes_keeps h.toResWrites _

end Sys2Proof.Machine
end

