-- ==== Sys2Proof/Laws/Exec.lean ====
section
/-! SUPPORT. Everything an instruction can write, over all instructions: a property that survives every write of the machine
survives `exec`, and one that survives the platform's acts too survives `step`. Invariants are instances. -/

namespace Sys2Proof.Machine

variable {P : State → Prop} {s t : State}

/-- The endings of a command: its status, an error raised (R472), and the free-value counter of one that waits. -/
structure EndWrites (P : State → Prop) : Prop where
  status : ∀ s st, P s → P { s with status := st }
  raise : ∀ s k, P s → P (s.raise k)
  wait : ∀ s st n, P s → P { s with status := st, freeCtr := n }

/-- The writes of the host's commands on control state (70_reset_and_hazards.md R511 to R514, R170, R171, R300, R360),
each with what the command has checked. -/
structure ControlWrites (P : State → Prop) : Prop where
  vlc : ∀ s, s.isIdle = true → P s → P { s with vlcReady := true }
  load : ∀ s len, s.isIdle = true → P s → P (s.loadBits len)
  seek : ∀ s n, s.isIdle = true → n ≤ s.bsLen → P s → P { s with bitpos := n }
  cr : ∀ s r v, s.isIdle = true → P s → P (s.setControlReg r v)
  table : ∀ s ram idx v, s.isIdle = true → P s → P { s with tabs := s.tabs.write ram idx v }
  reset : ∀ s, P s → P s.commandReset
  start : ∀ s pos, s.isNotRun = true → s.vlcReady = true → s.configSupported = true →
    (s.addressLegal pos && s.sliceLegal) = true → P s → P (s.startSlice pos)
  finish : ∀ s, s.isNotIdle = true → P s → P s.endSlice

/-- Every write of the machine's instructions. -/
structure ExecWrites (P : State → Prop) : Prop extends
    EndWrites P, ControlWrites P, DecodeWrites P, ReconWrites P, ImplicitWrites P

/-- Every write of a step: an instruction's, the port's, and the platform's. -/
structure StepWrites (P : State → Prop) : Prop extends ExecWrites P where
  port : ∀ s r st, P s → P { s with port := r, status := st }
  platform : ∀ s act, P s → P (s.platformAct act)

/-- What the body keeps, given that the command was accepted, the command keeps. -/
theorem EndWrites.command (e : EndWrites P) {accepted legal : Bool} {body : Op Unit}
    (hb : (accepted && legal) = true → Ends P (body s))
    (hs : P s) (h : command accepted legal body s = .next t) : P t := by
  cases ha : accepted && legal
  · rw [command_reject ha] at h
    cases h
    exact e.status s _ hs
  · rw [command_run ha] at h
    have hb := hb ha
    rcases finish_next h with ⟨u, hu, rfl⟩ | ⟨k, u, hu, rfl⟩ | ⟨k, u, hu, rfl⟩ | ⟨u, hu, rfl⟩
    · rw [hu] at hb
      exact e.status u _ hb
    · exact e.status s _ hs
    · rw [hu] at hb
      exact e.raise u k hb
    · rw [hu] at hb
      exact e.wait u _ _ hb

/-- A command that is one write, which may use what the command has checked. -/
theorem EndWrites.control (e : EndWrites P) {accepted legal : Bool} {f : State → State}
    (h : Machine.command accepted legal (Op.modify f) s = .next t) (hs : P s)
    (hf : accepted = true → legal = true → P (f s)) : P t :=
  e.command (body := Op.modify f)
    (fun ha => hf (Bool.and_eq_true_iff.mp ha).1 (Bool.and_eq_true_iff.mp ha).2) hs h

/-- A command whose body keeps the property. -/
theorem EndWrites.keeps (e : EndWrites P) {accepted legal : Bool} {body : Op Unit} (hb : Op.Keeps P body) (hs : P s)
    (h : Machine.command accepted legal body s = .next t) : P t :=
  e.command (fun _ => hb s hs) hs h

/-! ### Elements -/

theorem expectElement_keeps (ctx : ElemCtx) : Op.Keeps P (expectElement ctx) := by
  cases ctx with
  | u => exact Op.keeps_require _ _
  | ue => exact Op.keeps_require _ _
  | se => exact Op.keeps_require _ _
  | te => exact Op.keeps_require _ _
  | levelPrefix => exact Op.keeps_require _ _
  | levelSuffix => exact Op.keeps_require _ _
  | sign => exact Op.keeps_require _ _
  | mbType => exact Op.keeps_require _ _
  | subMbType =>
    exact Op.keeps_bind (Op.keeps_require _ _) fun _ => Op.keeps_bind (Op.keeps_need _) fun _ => Op.keeps_require _ _
  | token => exact Op.keeps_require _ _
  | zeros =>
    exact Op.keeps_bind (Op.keeps_require _ _) fun _ => Op.keeps_bind needBlock_keeps fun _ => Op.keeps_require _ _
  | chromaDcZeros =>
    exact Op.keeps_bind (Op.keeps_require _ _) fun _ => Op.keeps_bind needBlock_keeps fun _ => Op.keeps_require _ _
  | chroma422DcZeros =>
    exact Op.keeps_bind (Op.keeps_require _ _) fun _ => Op.keeps_bind needBlock_keeps fun _ => Op.keeps_require _ _
  | run =>
    exact Op.keeps_bind (Op.keeps_require _ _) fun _ => Op.keeps_bind (Op.keeps_need _) fun _ => Op.keeps_require _ _

/-- Everything an element can write. -/
theorem elementEffect_keeps (hb : BlockWrites P) (hm : MbWrites P) (el : Element) : Op.Keeps P (elementEffect el) := by
  cases el with
  | u => exact setRes_keeps hb.toRes _
  | ue => exact setRes_keeps hb.toRes _
  | se => exact setRes_keeps hb.toRes _
  | te1 => exact setRes_keeps hb.toRes _
  | te2 => exact setRes_keeps hb.toRes _
  | teN => exact setRes_keeps hb.toRes _
  | levelPrefix => exact Op.keeps_bind (Op.keeps_require _ _) fun _ => setRes_keeps hb.toRes _
  | levelSuffix => exact setRes_keeps hb.toRes _
  | sign => exact setRes_keeps hb.toRes _
  | iMb => exact Op.keeps_modify fun s => hm.whole s _ (iMbType_wf _)
  | pMb => exact Op.keeps_modify fun s => hm.whole s _ (pMbType_wf _)
  | bMb => exact Op.keeps_modify fun s => hm.whole s _ (bMbType_wf _)
  | pSub => exact Op.keeps_modify fun s => hm.sub s _ _
  | bSub => exact Op.keeps_modify fun s => hm.sub s _ _
  | token => exact Op.keeps_modify fun s hs => hb.regs s _ _ _ _ _ _ _ _ _ _ hs
  | zeros => exact Op.keeps_modify fun s hs => hb.regs s _ _ _ _ _ _ _ _ _ _ hs
  | chromaDcZeros => exact Op.keeps_modify fun s hs => hb.regs s _ _ _ _ _ _ _ _ _ _ hs
  | chroma422DcZeros => exact Op.keeps_modify fun s hs => hb.regs s _ _ _ _ _ _ _ _ _ _ hs
  | run => exact Op.keeps_bind (Op.keeps_need _) fun _ => useRun_keeps hb _ _

theorem runElement_keeps (e : EndWrites P) (hb : BlockWrites P) (hm : MbWrites P) (el : Element) (hs : P s)
    (h : runElement el s = .next t) : P t :=
  e.keeps (Op.keeps_bind (expectElement_keeps _) fun _ => Op.keeps_bind (skipBits_keeps hb.toBitWrites _) fun _ =>
    elementEffect_keeps hb hm el) hs h

theorem readElement_keeps (hb : BitWrites P) (hm : MbWrites P) (ctx : ElemCtx) : Op.Keeps P (readElement ctx) := by
  cases ctx with
  | u => exact Op.keeps_bind (Op.keeps_require _ _) fun _ => Op.keeps_bind (readBits_keeps hb _) fun _ => Op.keeps_pure _
  | ue => exact Op.keeps_bind (readUe_keeps hb) fun _ => Op.keeps_pure _
  | se => exact Op.keeps_bind (readUe_keeps hb) fun _ => Op.keeps_pure _
  | te => exact Op.keeps_bind (Op.keeps_require _ _) fun _ => Op.keeps_bind (readTe_keeps hb _) fun _ => Op.keeps_pure _
  | levelPrefix => exact Op.keeps_bind (getLevelPrefix_keeps hb) fun _ => Op.keeps_pure _
  | levelSuffix =>
    exact Op.keeps_bind (Op.keeps_require _ _) fun _ => Op.keeps_bind (readBits_keeps hb _) fun _ => Op.keeps_pure _
  | sign => exact Op.keeps_bind (readBits_keeps hb _) fun _ => Op.keeps_pure _
  | mbType => exact readMbType_keeps hb hm
  | subMbType => exact Op.keeps_bind (readUe_keeps hb) fun _ => Op.keeps_raise _
  | token =>
    exact Op.keeps_bind (Op.keeps_require _ _) fun _ => Op.keeps_bind (vlcDecode_keeps hb _) fun _ => Op.keeps_pure _
  | zeros => exact Op.keeps_bind (vlcDecode_keeps hb _) fun _ => Op.keeps_pure _
  | chromaDcZeros => exact Op.keeps_bind (vlcDecode_keeps hb _) fun _ => Op.keeps_pure _
  | chroma422DcZeros => exact Op.keeps_bind (vlcDecode_keeps hb _) fun _ => Op.keeps_pure _
  | run =>
    exact Op.keeps_bind (Op.keeps_require _ _) fun _ => Op.keeps_bind (vlcDecode_keeps hb _) fun _ => Op.keeps_pure _

/-! ### All instructions -/

theorem ExecWrites.toResAll (h : ExecWrites P) : ResWrites P := h.toDecodeWrites.toRes

theorem ExecWrites.toBits (h : ExecWrites P) : BitWrites P := h.toBlockWrites.toBitWrites

theorem sliceStart_keeps (h : ControlWrites P) (pos : Word) (ha : s.isNotRun = true) (hv : s.vlcReady = true) (hs : P s) :
    Ends P (sliceStart pos s) :=
  Op.ends_require hs fun hp => Op.ends_require hs fun hc => Op.ends_require hs fun hl =>
    h.start s pos ha hv hc (Bool.and_eq_true_iff.mpr ⟨hp, hl⟩) hs

theorem tabWrite_keeps (h : ControlWrites P) (ram hi lo : BitVec 8) (value : Word) (e : EndWrites P) (hs : P s)
    (hn : execTabWrite ram hi lo value s = .next t) : P t := by
  refine e.command (fun ha => ?_) hs hn
  exact Op.ends_require hs fun _ => Op.ends_require hs fun _ => h.table s _ _ _ (Bool.and_eq_true_iff.mp ha).1 hs

/-- A property that survives every write survives every instruction. -/
theorem exec_keeps (h : ExecWrites P) (i : Instr) (hs : P s) (hn : exec i s = .next t) : P t := by
  have e := h.toEndWrites
  have hb := h.toBits
  have hk := h.toBlockWrites
  have hr := h.toResAll
  cases i with
  | vlcInit => exact e.control hn hs fun ha _ => h.vlc s ha hs
  | reset => exact e.control (s := s) (accepted := true) (legal := true) (f := State.commandReset) hn hs fun _ _ => h.reset s hs
  | crWrite => exact e.control hn hs fun ha _ => h.cr s _ _ ha hs
  | crRead => exact e.keeps (Op.keeps_modify fun s => hr.res s _) hs hn
  | tabWrite => exact tabWrite_keeps h.toControlWrites _ _ _ _ e hs hn
  | bsLoad => exact e.control hn hs fun ha _ => h.load s _ ha hs
  | bsSeek => exact e.control hn hs fun ha hl => h.seek s _ ha (of_decide_eq_true hl) hs
  | peek => exact e.keeps (Op.keeps_bind (Op.keeps_read _) fun _ => setRes_keeps hr _) hs hn
  | skip => exact e.keeps (skipBits_keeps hb _) hs hn
  | read => exact e.keeps (Op.keeps_bind (readBits_keeps hb _) fun _ => setRes_keeps hr _) hs hn
  | readUe => exact e.keeps (Op.keeps_bind (readUe_keeps hb) fun _ => setRes_keeps hr _) hs hn
  | readSe => exact e.keeps (Op.keeps_bind (readSe_keeps hb) fun _ => setRes_keeps hr _) hs hn
  | readTe => exact e.keeps (Op.keeps_bind (readTe_keeps hb _) fun _ => setRes_keeps hr _) hs hn
  | align => exact e.keeps (Op.keeps_modify h.align) hs hn
  | bitsLeft => exact e.keeps (Op.keeps_bind (Op.keeps_read _) fun _ => setRes_keeps hr _) hs hn
  | readCoeffToken => exact e.keeps (tokenStep_keeps hk _) hs hn
  | readTrailingSigns => exact e.keeps (readTrailingSigns_keeps hk) hs hn
  | readLevel => exact e.keeps (readLevel_keeps hk) hs hn
  | readTotalZeros => exact e.keeps (readTotalZeros_keeps hk) hs hn
  | readRunBefore => exact e.keeps (readRunBefore_keeps hk) hs hn
  | decodeResidual => exact e.keeps (Op.keeps_bind (Op.keeps_require _ _) fun _ => Op.keeps_bind (Op.keeps_require _ _) fun _ =>
      decodeResidual_keeps h.toResidualWrites _) hs hn
  | cacheFill => exact e.keeps (cacheFill_keeps h.toFillWrites) hs hn
  | predNnz => exact e.keeps (Op.keeps_bind (predNnz_keeps hk _) fun _ => Op.keeps_pure _) hs hn
  | predMv => exact e.keeps (predMv_keeps h.toPredWrites _ _ _ _) hs hn
  | predMv16x8 => exact e.keeps (predMv16x8_keeps h.toPredWrites _ _ _) hs hn
  | predMv8x16 => exact e.keeps (predMv8x16_keeps h.toPredWrites _ _ _) hs hn
  | predMvPskip => exact e.keeps (predMvPskip_keeps h.toPredWrites) hs hn
  | predI4Mode => exact e.keeps (Op.keeps_bind (predI4Mode_keeps h.toPredWrites _) fun _ => Op.keeps_pure _) hs hn
  | cacheWriteback => exact e.keeps (cacheWriteback_keeps h.toArrayWrites) hs hn
  | sliceStart => exact e.command (fun ha => sliceStart_keeps h.toControlWrites _ (Bool.and_eq_true_iff.mp ha).1
      (Bool.and_eq_true_iff.mp ha).2 hs) hs hn
  | mbDecode => exact e.keeps (mbDecode_keeps h.toDecodeWrites) hs hn
  | mbRecon => exact e.keeps (mbRecon_keeps h.toReconWrites) hs hn
  | sliceEnd => exact e.control hn hs fun ha _ => h.finish s ha hs
  | mcSet => exact e.keeps (Op.keeps_modify fun s => h.mc s _) hs hn
  | qpelMc00 => exact e.keeps (sampleOp_keeps h.toMcWrites _ _) hs hn
  | qpelMc10 => exact e.keeps (sampleOp_keeps h.toMcWrites _ _) hs hn
  | qpelMc20 => exact e.keeps (sampleOp_keeps h.toMcWrites _ _) hs hn
  | qpelMc30 => exact e.keeps (sampleOp_keeps h.toMcWrites _ _) hs hn
  | qpelMc01 => exact e.keeps (sampleOp_keeps h.toMcWrites _ _) hs hn
  | qpelMc11 => exact e.keeps (sampleOp_keeps h.toMcWrites _ _) hs hn
  | qpelMc21 => exact e.keeps (sampleOp_keeps h.toMcWrites _ _) hs hn
  | qpelMc31 => exact e.keeps (sampleOp_keeps h.toMcWrites _ _) hs hn
  | qpelMc02 => exact e.keeps (sampleOp_keeps h.toMcWrites _ _) hs hn
  | qpelMc12 => exact e.keeps (sampleOp_keeps h.toMcWrites _ _) hs hn
  | qpelMc22 => exact e.keeps (sampleOp_keeps h.toMcWrites _ _) hs hn
  | qpelMc32 => exact e.keeps (sampleOp_keeps h.toMcWrites _ _) hs hn
  | qpelMc03 => exact e.keeps (sampleOp_keeps h.toMcWrites _ _) hs hn
  | qpelMc13 => exact e.keeps (sampleOp_keeps h.toMcWrites _ _) hs hn
  | qpelMc23 => exact e.keeps (sampleOp_keeps h.toMcWrites _ _) hs hn
  | qpelMc33 => exact e.keeps (sampleOp_keeps h.toMcWrites _ _) hs hn
  | mcChroma => exact e.keeps (mcChroma_keeps h.toMcWrites _) hs hn
  | weightUni => exact e.keeps (weightUni_keeps h.toPlaneWrites _ _ _) hs hn
  | weightBi => exact e.keeps (weightBi_keeps h.toPlaneWrites _ _ _) hs hn
  | mcPart => exact e.keeps (mcPart_keeps h.toMcWrites _ _ _) hs hn
  | implicitWeight => exact e.keeps (implicitWeight_keeps h.toImplicitWrites) hs hn
  | waitRow => exact e.keeps (waitRow_keeps _ _ _) hs hn
  | idct4Add => exact e.keeps (idct_keeps h.toPlaneWrites h.toCoefWrites _).1 hs hn
  | idct4DcAdd => exact e.keeps (idct_keeps h.toPlaneWrites h.toCoefWrites _).2.1 hs hn
  | idct8Add => exact e.keeps (idct_keeps h.toPlaneWrites h.toCoefWrites _).2.2.1 hs hn
  | idct8DcAdd => exact e.keeps (idct_keeps h.toPlaneWrites h.toCoefWrites _).2.2.2 hs hn
  | lumaDcDequantIdct => exact e.keeps (lumaDc_keeps h.toCoefWrites _) hs hn
  | chromaDcDequantIdct => exact e.keeps (chromaDc_keeps h.toCoefWrites _ _) hs hn
  | chroma422DcDequantIdct => exact e.keeps (chroma422Dc_keeps h.toCoefWrites _ _) hs hn
  | intraPred => exact e.keeps (intraPred_keeps h.toPlaneWrites _ _) hs hn
  | elemU n x => exact runElement_keeps e hk h.toMbWrites (.u n x) hs hn
  | elemUe v => exact runElement_keeps e hk h.toMbWrites (.ue v) hs hn
  | elemSe v => exact runElement_keeps e hk h.toMbWrites (.se v) hs hn
  | elemTe1 => exact runElement_keeps e hk h.toMbWrites (.te1) hs hn
  | elemTe2 v => exact runElement_keeps e hk h.toMbWrites (.te2 v) hs hn
  | elemTeN range v => exact runElement_keeps e hk h.toMbWrites (.teN range v) hs hn
  | levelPrefix p => exact runElement_keeps e hk h.toMbWrites (.levelPrefix p) hs hn
  | levelSuffix n x => exact runElement_keeps e hk h.toMbWrites (.levelSuffix n x) hs hn
  | trailingOnesSign neg => exact runElement_keeps e hk h.toMbWrites (.sign neg) hs hn
  | iMbType0 sl => exact runElement_keeps e hk h.toMbWrites (.iMb 0 sl) hs hn
  | iMbType1 sl => exact runElement_keeps e hk h.toMbWrites (.iMb 1 sl) hs hn
  | iMbType2 sl => exact runElement_keeps e hk h.toMbWrites (.iMb 2 sl) hs hn
  | iMbType3 sl => exact runElement_keeps e hk h.toMbWrites (.iMb 3 sl) hs hn
  | iMbType4 sl => exact runElement_keeps e hk h.toMbWrites (.iMb 4 sl) hs hn
  | iMbType5 sl => exact runElement_keeps e hk h.toMbWrites (.iMb 5 sl) hs hn
  | iMbType6 sl => exact runElement_keeps e hk h.toMbWrites (.iMb 6 sl) hs hn
  | iMbType7 sl => exact runElement_keeps e hk h.toMbWrites (.iMb 7 sl) hs hn
  | iMbType8 sl => exact runElement_keeps e hk h.toMbWrites (.iMb 8 sl) hs hn
  | iMbType9 sl => exact runElement_keeps e hk h.toMbWrites (.iMb 9 sl) hs hn
  | iMbType10 sl => exact runElement_keeps e hk h.toMbWrites (.iMb 10 sl) hs hn
  | iMbType11 sl => exact runElement_keeps e hk h.toMbWrites (.iMb 11 sl) hs hn
  | iMbType12 sl => exact runElement_keeps e hk h.toMbWrites (.iMb 12 sl) hs hn
  | iMbType13 sl => exact runElement_keeps e hk h.toMbWrites (.iMb 13 sl) hs hn
  | iMbType14 sl => exact runElement_keeps e hk h.toMbWrites (.iMb 14 sl) hs hn
  | iMbType15 sl => exact runElement_keeps e hk h.toMbWrites (.iMb 15 sl) hs hn
  | iMbType16 sl => exact runElement_keeps e hk h.toMbWrites (.iMb 16 sl) hs hn
  | iMbType17 sl => exact runElement_keeps e hk h.toMbWrites (.iMb 17 sl) hs hn
  | iMbType18 sl => exact runElement_keeps e hk h.toMbWrites (.iMb 18 sl) hs hn
  | iMbType19 sl => exact runElement_keeps e hk h.toMbWrites (.iMb 19 sl) hs hn
  | iMbType20 sl => exact runElement_keeps e hk h.toMbWrites (.iMb 20 sl) hs hn
  | iMbType21 sl => exact runElement_keeps e hk h.toMbWrites (.iMb 21 sl) hs hn
  | iMbType22 sl => exact runElement_keeps e hk h.toMbWrites (.iMb 22 sl) hs hn
  | iMbType23 sl => exact runElement_keeps e hk h.toMbWrites (.iMb 23 sl) hs hn
  | iMbType24 sl => exact runElement_keeps e hk h.toMbWrites (.iMb 24 sl) hs hn
  | iMbType25 sl => exact runElement_keeps e hk h.toMbWrites (.iMb 25 sl) hs hn
  | pMbType0 => exact runElement_keeps e hk h.toMbWrites (.pMb 0) hs hn
  | pMbType1 => exact runElement_keeps e hk h.toMbWrites (.pMb 1) hs hn
  | pMbType2 => exact runElement_keeps e hk h.toMbWrites (.pMb 2) hs hn
  | pMbType3 => exact runElement_keeps e hk h.toMbWrites (.pMb 3) hs hn
  | pMbType4 => exact runElement_keeps e hk h.toMbWrites (.pMb 4) hs hn
  | bMbType0 => exact runElement_keeps e hk h.toMbWrites (.bMb 0) hs hn
  | bMbType1 => exact runElement_keeps e hk h.toMbWrites (.bMb 1) hs hn
  | bMbType2 => exact runElement_keeps e hk h.toMbWrites (.bMb 2) hs hn
  | bMbType3 => exact runElement_keeps e hk h.toMbWrites (.bMb 3) hs hn
  | bMbType4 => exact runElement_keeps e hk h.toMbWrites (.bMb 4) hs hn
  | bMbType5 => exact runElement_keeps e hk h.toMbWrites (.bMb 5) hs hn
  | bMbType6 => exact runElement_keeps e hk h.toMbWrites (.bMb 6) hs hn
  | bMbType7 => exact runElement_keeps e hk h.toMbWrites (.bMb 7) hs hn
  | bMbType8 => exact runElement_keeps e hk h.toMbWrites (.bMb 8) hs hn
  | bMbType9 => exact runElement_keeps e hk h.toMbWrites (.bMb 9) hs hn
  | bMbType10 => exact runElement_keeps e hk h.toMbWrites (.bMb 10) hs hn
  | bMbType11 => exact runElement_keeps e hk h.toMbWrites (.bMb 11) hs hn
  | bMbType12 => exact runElement_keeps e hk h.toMbWrites (.bMb 12) hs hn
  | bMbType13 => exact runElement_keeps e hk h.toMbWrites (.bMb 13) hs hn
  | bMbType14 => exact runElement_keeps e hk h.toMbWrites (.bMb 14) hs hn
  | bMbType15 => exact runElement_keeps e hk h.toMbWrites (.bMb 15) hs hn
  | bMbType16 => exact runElement_keeps e hk h.toMbWrites (.bMb 16) hs hn
  | bMbType17 => exact runElement_keeps e hk h.toMbWrites (.bMb 17) hs hn
  | bMbType18 => exact runElement_keeps e hk h.toMbWrites (.bMb 18) hs hn
  | bMbType19 => exact runElement_keeps e hk h.toMbWrites (.bMb 19) hs hn
  | bMbType20 => exact runElement_keeps e hk h.toMbWrites (.bMb 20) hs hn
  | bMbType21 => exact runElement_keeps e hk h.toMbWrites (.bMb 21) hs hn
  | bMbType22 => exact runElement_keeps e hk h.toMbWrites (.bMb 22) hs hn
  | pSubMbType0 i => exact runElement_keeps e hk h.toMbWrites (.pSub 0 i) hs hn
  | pSubMbType1 i => exact runElement_keeps e hk h.toMbWrites (.pSub 1 i) hs hn
  | pSubMbType2 i => exact runElement_keeps e hk h.toMbWrites (.pSub 2 i) hs hn
  | pSubMbType3 i => exact runElement_keeps e hk h.toMbWrites (.pSub 3 i) hs hn
  | bSubMbType0 i => exact runElement_keeps e hk h.toMbWrites (.bSub 0 i) hs hn
  | bSubMbType1 i => exact runElement_keeps e hk h.toMbWrites (.bSub 1 i) hs hn
  | bSubMbType2 i => exact runElement_keeps e hk h.toMbWrites (.bSub 2 i) hs hn
  | bSubMbType3 i => exact runElement_keeps e hk h.toMbWrites (.bSub 3 i) hs hn
  | bSubMbType4 i => exact runElement_keeps e hk h.toMbWrites (.bSub 4 i) hs hn
  | bSubMbType5 i => exact runElement_keeps e hk h.toMbWrites (.bSub 5 i) hs hn
  | bSubMbType6 i => exact runElement_keeps e hk h.toMbWrites (.bSub 6 i) hs hn
  | bSubMbType7 i => exact runElement_keeps e hk h.toMbWrites (.bSub 7 i) hs hn
  | bSubMbType8 i => exact runElement_keeps e hk h.toMbWrites (.bSub 8 i) hs hn
  | bSubMbType9 i => exact runElement_keeps e hk h.toMbWrites (.bSub 9 i) hs hn
  | bSubMbType10 i => exact runElement_keeps e hk h.toMbWrites (.bSub 10 i) hs hn
  | bSubMbType11 i => exact runElement_keeps e hk h.toMbWrites (.bSub 11 i) hs hn
  | bSubMbType12 i => exact runElement_keeps e hk h.toMbWrites (.bSub 12 i) hs hn
  | coeffToken0 t n => exact runElement_keeps e hk h.toMbWrites (.token 0 t n) hs hn
  | coeffToken1 t n => exact runElement_keeps e hk h.toMbWrites (.token 1 t n) hs hn
  | coeffToken2 t n => exact runElement_keeps e hk h.toMbWrites (.token 2 t n) hs hn
  | coeffToken3 t n => exact runElement_keeps e hk h.toMbWrites (.token 3 t n) hs hn
  | chromaDcCoeffToken t n => exact runElement_keeps e hk h.toMbWrites (.token 4 t n) hs hn
  | chroma422DcCoeffToken t n => exact runElement_keeps e hk h.toMbWrites (.token 5 t n) hs hn
  | totalZeros1 z => exact runElement_keeps e hk h.toMbWrites (.zeros 1 z) hs hn
  | totalZeros2 z => exact runElement_keeps e hk h.toMbWrites (.zeros 2 z) hs hn
  | totalZeros3 z => exact runElement_keeps e hk h.toMbWrites (.zeros 3 z) hs hn
  | totalZeros4 z => exact runElement_keeps e hk h.toMbWrites (.zeros 4 z) hs hn
  | totalZeros5 z => exact runElement_keeps e hk h.toMbWrites (.zeros 5 z) hs hn
  | totalZeros6 z => exact runElement_keeps e hk h.toMbWrites (.zeros 6 z) hs hn
  | totalZeros7 z => exact runElement_keeps e hk h.toMbWrites (.zeros 7 z) hs hn
  | totalZeros8 z => exact runElement_keeps e hk h.toMbWrites (.zeros 8 z) hs hn
  | totalZeros9 z => exact runElement_keeps e hk h.toMbWrites (.zeros 9 z) hs hn
  | totalZeros10 z => exact runElement_keeps e hk h.toMbWrites (.zeros 10 z) hs hn
  | totalZeros11 z => exact runElement_keeps e hk h.toMbWrites (.zeros 11 z) hs hn
  | totalZeros12 z => exact runElement_keeps e hk h.toMbWrites (.zeros 12 z) hs hn
  | totalZeros13 z => exact runElement_keeps e hk h.toMbWrites (.zeros 13 z) hs hn
  | totalZeros14 z => exact runElement_keeps e hk h.toMbWrites (.zeros 14 z) hs hn
  | totalZeros15 z => exact runElement_keeps e hk h.toMbWrites (.zeros 15 z) hs hn
  | chromaDcTotalZeros1 z => exact runElement_keeps e hk h.toMbWrites (.chromaDcZeros 1 z) hs hn
  | chromaDcTotalZeros2 z => exact runElement_keeps e hk h.toMbWrites (.chromaDcZeros 2 z) hs hn
  | chromaDcTotalZeros3 z => exact runElement_keeps e hk h.toMbWrites (.chromaDcZeros 3 z) hs hn
  | chroma422DcTotalZeros1 z => exact runElement_keeps e hk h.toMbWrites (.chroma422DcZeros 1 z) hs hn
  | chroma422DcTotalZeros2 z => exact runElement_keeps e hk h.toMbWrites (.chroma422DcZeros 2 z) hs hn
  | chroma422DcTotalZeros3 z => exact runElement_keeps e hk h.toMbWrites (.chroma422DcZeros 3 z) hs hn
  | chroma422DcTotalZeros4 z => exact runElement_keeps e hk h.toMbWrites (.chroma422DcZeros 4 z) hs hn
  | chroma422DcTotalZeros5 z => exact runElement_keeps e hk h.toMbWrites (.chroma422DcZeros 5 z) hs hn
  | chroma422DcTotalZeros6 z => exact runElement_keeps e hk h.toMbWrites (.chroma422DcZeros 6 z) hs hn
  | chroma422DcTotalZeros7 z => exact runElement_keeps e hk h.toMbWrites (.chroma422DcZeros 7 z) hs hn
  | runBefore1 r => exact runElement_keeps e hk h.toMbWrites (.run 1 r) hs hn
  | runBefore2 r => exact runElement_keeps e hk h.toMbWrites (.run 2 r) hs hn
  | runBefore3 r => exact runElement_keeps e hk h.toMbWrites (.run 3 r) hs hn
  | runBefore4 r => exact runElement_keeps e hk h.toMbWrites (.run 4 r) hs hn
  | runBefore5 r => exact runElement_keeps e hk h.toMbWrites (.run 5 r) hs hn
  | runBefore6 r => exact runElement_keeps e hk h.toMbWrites (.run 6 r) hs hn
  | run7 r => exact runElement_keeps e hk h.toMbWrites (.run 7 r) hs hn

/-! ### A step -/

theorem failElement_keeps (h : ExecWrites P) (ctx : ElemCtx) (hs : P s) (hn : failElement ctx s = .next t) : P t :=
  h.toEndWrites.keeps (Op.keeps_bind (expectElement_keeps ctx) fun _ => readElement_keeps h.toBits h.toMbWrites ctx) hs hn

theorem settle_keeps (h : StepWrites P) {o : Host.Outcome State Fault Refusal} (ho : ∀ u, o = .next u → P u)
    (hn : settle o = .next t) : P t := by
  cases o with
  | next u =>
    simp only [settle, Host.Outcome.next.injEq] at hn
    subst hn
    split
    · exact ho u rfl
    · exact h.port u _ _ (ho u rfl)
  | fault f => simp [settle] at hn
  | refused r => simp [settle] at hn

/-- A property that survives every write survives a step. -/
theorem step_keeps (h : StepWrites P) (hs : P s) (hn : step s = .next t) : P t := by
  unfold step runRequest at hn
  split at hn
  · cases hn
    exact hs
  · cases hn
    exact h.port _ _ _ (h.platform s _ hs)
  · refine settle_keeps h (fun u hu => ?_) hn
    unfold runElementRequest at hu
    split at hu
    · exact failElement_keeps h.toExecWrites _ hs hu
    · exact exec_keeps h.toExecWrites _ hs hu
  · unfold runCommand at hn
    split at hn
    · cases hn
      exact h.port _ _ _ (h.platform s _ hs)
    · refine settle_keeps h (fun u hu => ?_) hn
      unfold runCommandWord at hu
      split at hu
      · cases hu
        exact h.status s _ hs
      · exact exec_keeps h.toExecWrites _ hs hu

end Sys2Proof.Machine
end

