-- ==== Sys2Proof/Laws/Memory.lean ====
section
/-! SUPPORT. Memory: every operation on it keeps its canonical form, reset memory has it, and what a read gives after a
write; what the platform can write. -/

namespace Sys2Proof.Machine

/-! ### The canonical form -/

/-- The empty space. -/
theorem wfZero_nil {w : Nat} : Cells.wfZero ([] : Cells (BitVec w)) = true := rfl

/-- A buffer of bytes is an index space. -/
theorem wf_bytesFrom : ∀ (k : Nat) (b : List Byte), Cells.wf (bytesFrom k b) = true
  | _, [] => rfl
  | k, [_] => rfl
  | k, b :: c :: rest => by
    have h := wf_bytesFrom (k + 1) (c :: rest)
    simp only [bytesFrom, Cells.wf, Cells.above, Bool.and_eq_true, decide_eq_true_eq] at h ⊢
    exact ⟨Nat.lt_succ_self k, h⟩

/-- Replacing a plane by one in canonical form. -/
theorem Planes.wf_setPlane {pl : Planes} (h : pl.wf = true) (p : Nat) {c : Cells Sample} (hc : Cells.wf c = true) :
    (pl.setPlane p c).wf = true := by
  simp only [Planes.wf, Bool.and_eq_true] at h ⊢
  unfold Planes.setPlane
  split <;> simp only [h, hc, and_self]

theorem Planes.wf_plane {pl : Planes} (h : pl.wf = true) (p : Nat) : Cells.wf (pl.plane p) = true := by
  simp only [Planes.wf, Bool.and_eq_true] at h
  unfold Planes.plane
  split <;> simp only [h]

theorem Tables.wf_write {tb : Tables} (h : tb.wf = true) (ram idx : Nat) (v : Word) : (tb.write ram idx v).wf = true := by
  simp only [Tables.wf, Bool.and_eq_true] at h ⊢
  unfold Tables.write
  split <;> simp only [h, Cells.wf_put, and_self]

theorem State.memWf_putBlock {s : State} (h : s.memWf = true) (p x y w ht : Nat) (f : Nat → Nat → Sample) :
    (s.putBlock p x y w ht f).memWf = true := by
  simp only [State.memWf, Bool.and_eq_true] at h ⊢
  have hp : s.pic.planes.wf = true := by simp only [h]
  simp only [State.putBlock, h, Planes.wf_setPlane hp p (Cells.wf_putList _ (Planes.wf_plane hp p)), and_self]

/-- Every memory operation of the engine keeps the canonical form. -/
theorem memWf_execWrites : ExecWrites (fun s => s.memWf = true) where
  status _ _ h := h
  raise s k h := by
    unfold State.raise
    split <;> simpa [State.memWf] using h
  wait _ _ _ h := h
  vlc _ _ h := h
  load s len _ h := by
    simp only [State.memWf, Bool.and_eq_true] at h ⊢
    simp only [State.loadBits, wf_bytesFrom, h, and_self]
  seek _ _ _ _ h := h
  cr s r v _ h := by unfold State.setControlReg; split <;> exact h
  table s ram idx v _ h := by
    simp only [State.memWf, Bool.and_eq_true] at h ⊢
    have ht : s.tabs.wf = true := by simp only [h]
    simp only [Tables.wf_write ht, h, and_self]
  reset s h := by
    simp only [State.memWf, Bool.and_eq_true] at h
    simp [State.memWf, State.commandReset, State.reset, h, Mb.undef, Mb.wf, Cells.wf, Tables.undef, Tables.wf,
      Coefs.zero, Coefs.wf, Cells.wfZero, Caches.undef, Caches.wf]
  start s pos _ _ _ _ h := by
    simp only [State.memWf, Bool.and_eq_true] at h
    simp [State.memWf, State.startSlice, State.forgetSlice, h, Mb.undef, Mb.wf, Cells.wf, Coefs.zero, Coefs.wf,
      Cells.wfZero, Caches.undef, Caches.wf]
  finish s _ h := by
    simp only [State.memWf, Bool.and_eq_true] at h
    simp [State.memWf, State.endSlice, State.forgetSlice, h, Mb.undef, Mb.wf, Cells.wf, Caches.undef, Caches.wf]
  skip _ _ h _ := h
  regs _ _ _ _ _ _ _ _ _ _ _ h := h
  level s i v h := by
    simp only [State.memWf, Bool.and_eq_true] at h ⊢
    simp only [h, Cells.wf_put, and_self]
  clearLevel s h := by
    simp only [State.memWf, Bool.and_eq_true] at h ⊢
    simp only [h, Cells.wf, and_self]
  nnz s v slots h := by
    simp only [State.memWf, Caches.wf, Bool.and_eq_true] at h ⊢
    simp only [h, Cells.wf_putAll, and_self]
  coef s k v h := by
    simp only [State.memWf, Coefs.wf, Bool.and_eq_true] at h ⊢
    simp only [h, Cells.wfZero_putZero, and_self]
  lumaDc s k v h := by
    simp only [State.memWf, Coefs.wf, Bool.and_eq_true] at h ⊢
    simp only [h, Cells.wfZero_putZero, and_self]
  chromaDc s k v h := by
    simp only [State.memWf, Coefs.wf, Bool.and_eq_true] at h ⊢
    simp only [h, Cells.wfZero_putZero, and_self]
  zeroCoef s ks h := by
    simp only [State.memWf, Coefs.wf, Bool.and_eq_true] at h ⊢
    simp only [h, Cells.wfZero_dropAll, and_self]
  zeroLumaDc s h := by
    simp only [State.memWf, Coefs.wf, Bool.and_eq_true] at h ⊢
    simp only [h, wfZero_nil, and_self]
  zeroChromaDc s ks h := by
    simp only [State.memWf, Coefs.wf, Bool.and_eq_true] at h ⊢
    simp only [h, Cells.wfZero_dropAll, and_self]
  zeroAll s h := by
    simp only [State.memWf, Coefs.wf, Bool.and_eq_true] at h ⊢
    simp only [h, Coefs.zero, wfZero_nil, and_self]
  mv s v slots h := by
    simp only [State.memWf, Caches.wf, Bool.and_eq_true] at h ⊢
    simp only [h, Cells.wf_putAll, and_self]
  ref s v slots h := by
    simp only [State.memWf, Caches.wf, Bool.and_eq_true] at h ⊢
    simp only [h, Cells.wf_putAll, and_self]
  i4 s v slots h := by
    simp only [State.memWf, Caches.wf, Bool.and_eq_true] at h ⊢
    simp only [h, Cells.wf_putAll, and_self]
  latches s a b c d e f g i h := by
    simp only [State.memWf, Bool.and_eq_true] at h ⊢
    simp [h, Cells.wf, Cells.above]
  pm _ _ _ h := h
  pmode _ _ _ h := h
  whole s m hm h := by
    simp only [State.memWf, Bool.and_eq_true] at h ⊢
    simp only [h, hm, and_self]
  cbp _ _ h := h
  dct8x8 _ _ h := h
  chromaMode _ _ h := h
  sub s i v h := by
    simp only [State.memWf, Mb.wf, Bool.and_eq_true] at h ⊢
    simp only [h, Cells.wf_put, and_self]
  i4Mode s v ks h := by
    simp only [State.memWf, Mb.wf, Bool.and_eq_true] at h ⊢
    simp only [h, Cells.wf_putAll, and_self]
  nnzSum s q v h := by
    simp only [State.memWf, Mb.wf, Bool.and_eq_true] at h ⊢
    simp only [h, Cells.wf_put, and_self]
  align _ h := h
  skipRun _ _ h := h
  quantizer _ _ _ h := h
  chromaQp s c v h := by
    simp only [State.memWf, Bool.and_eq_true] at h ⊢
    simp only [h, Cells.wf_put, and_self]
  pcm s i v h := by
    simp only [State.memWf, Bool.and_eq_true] at h ⊢
    simp only [h, Cells.wf_put, and_self]
  block s p x y w ht f h _ := State.memWf_putBlock h p x y w ht f
  mc _ _ h := h
  tmp s p x y w ht f h := by
    simp only [State.memWf, Bool.and_eq_true] at h ⊢
    simp only [State.putTmp, h, Cells.wf_putList, and_self]
  counter _ _ h := h
  macroblock s mb m q c h := by
    simp only [State.memWf, PicArrays.wf, Bool.and_eq_true] at h ⊢
    simp only [h, Cells.wf_put, and_self]
  picNnz s k v h := by
    simp only [State.memWf, PicArrays.wf, Bool.and_eq_true] at h ⊢
    simp only [h, Cells.wf_put, and_self]
  picI4 s k v h := by
    simp only [State.memWf, PicArrays.wf, Bool.and_eq_true] at h ⊢
    simp only [h, Cells.wf_put, and_self]
  picRef s k v h := by
    simp only [State.memWf, PicArrays.wf, Bool.and_eq_true] at h ⊢
    simp only [h, Cells.wf_put, and_self]
  picMv s k v h := by
    simp only [State.memWf, PicArrays.wf, Bool.and_eq_true] at h ⊢
    simp only [h, Cells.wf_put, and_self]
  res _ _ h := h
  advance s h := by
    simp only [State.memWf, Bool.and_eq_true] at h ⊢
    simp [State.advanceMb, h, Mb.undef, Mb.wf, Cells.wf]
  weight s k v h := by
    simp only [State.memWf, Tables.wf, Bool.and_eq_true] at h ⊢
    simp only [h, Cells.wf_put, and_self]

/-- Every act of the platform keeps the canonical form. -/
theorem memWf_platformAct {s : State} (h : s.memWf = true) (act : PlatformAct) : (s.platformAct act).memWf = true := by
  simp only [State.memWf, Bool.and_eq_true] at h
  cases act with
  | bytes b => simp [State.memWf, State.platformAct, h]
  | newPicture =>
    simp only [State.platformAct, State.newPicture]
    split
    · simp only [State.memWf, h, Bool.and_self]
    · simp [State.memWf, h, Picture.prepare, Planes.wf, PicArrays.wf, PicArrays.undef, Cells.wf]
  | reference l r pic =>
    simp only [State.platformAct, State.setReference]
    split
    · split <;> simp [State.memWf, h, Cells.wf_put]
    · simp [State.memWf, h, Cells.wf_put]
  | progress l r row =>
    simp only [State.platformAct]
    split <;> simp [State.memWf, h, Cells.wf_put]
  | powerOn =>
    simp [State.memWf, State.platformAct, State.powerOn, State.commandReset, State.reset, h, Mb.undef, Mb.wf, Cells.wf,
      Tables.undef, Tables.wf, Coefs.zero, Coefs.wf, wfZero_nil, Caches.undef, Caches.wf]

/-- Reset memory is in canonical form. -/
theorem memWf_reset : State.reset.memWf = true := by decide

/-! ### What the platform writes while a slice is decoded (20_memory.md R77) -/

/-- While a slice is decoded the platform prepares no picture. -/
theorem State.newPicture_run {s : State} (h : s.engine = .run) : s.newPicture = s := by simp [State.newPicture, h]

/-- While a slice is decoded no act but power-on changes anything but the host's buffer and the references. -/
theorem State.platformAct_run {s : State} (h : s.engine = .run) (act : PlatformAct) (ha : act ≠ .powerOn) :
    ∃ b refs, s.platformAct act = { s with hostBuf := b, refs := refs } := by
  cases act with
  | bytes b => exact ⟨b, s.refs, rfl⟩
  | newPicture => exact ⟨s.hostBuf, s.refs, State.newPicture_run h⟩
  | reference l r pic =>
    simp only [State.platformAct, State.setReference, if_pos h]
    split
    · exact ⟨s.hostBuf, _, rfl⟩
    · exact ⟨s.hostBuf, s.refs, rfl⟩
  | progress l r row =>
    simp only [State.platformAct]
    split
    · exact ⟨s.hostBuf, _, rfl⟩
    · exact ⟨s.hostBuf, s.refs, rfl⟩
  | powerOn => exact absurd rfl ha

/-- A producer never lowers its counter (20_memory.md R83). -/
theorem RefPic.raiseProgress_le (r : RefPic) (row : Word) :
    r.progress.toInt ≤ (r.raiseProgress row).progress.toInt ∧ row.toInt ≤ (r.raiseProgress row).progress.toInt := by
  simp only [RefPic.raiseProgress]
  split <;> omega

/-- A reference written while a slice is decoded keeps its arrays (20_memory.md R77). -/
@[simp] theorem RefPic.rewritten_arrays (r pic : RefPic) : (r.rewritten pic).arrays = r.arrays := rfl

/-- A destination coordinate that fits its register is kept (10_state.md R54). -/
theorem destCoordinate_fits {v : Nat} (h : v < 2 ^ 16) : destCoordinate v = BitVec.ofNat 16 v :=
  if_pos h

/-- An implicit weight that fits its element is kept (10_state.md R50). -/
theorem implicitElement_fits {cur poc0 poc1 : Int} (h : implicitWeightOf cur poc0 poc1 ≤ 127) :
    implicitElement cur poc0 poc1 = BitVec.ofInt 8 (implicitWeightOf cur poc0 poc1) :=
  if_pos h

end Sys2Proof.Machine
end

