-- ==== Sys2Proof/Laws/PerInstr.lean ====
section
/-! SUPPORT. What every instruction is as syntax, one lemma per constructor: a command with one word and no codeword, or an
element with a codeword and no word, whose element names it and is legal exactly when it is. -/

namespace Sys2Proof.Laws.Layout

/-- An instruction is a command or an element, not both, and an element's instruction is the one its element names. -/
def Statement (i : Instr) : Prop :=
  ((encodeWord i).isSome ↔ i.element = none)
    ∧ ∀ el, i.element = some el → el.toInstr = some i ∧ el.wellFormed = i.wellFormed

theorem of_command {i : Instr} {w : Command} (hw : encodeWord i = some w) (he : i.element = none) : Statement i :=
  ⟨by simp [hw, he], by simp [he]⟩

theorem of_element {i : Instr} {el : Element} (hw : encodeWord i = none) (he : i.element = some el)
    (hi : el.toInstr = some i) (hl : el.wellFormed = i.wellFormed) : Statement i := by
  refine ⟨by simp [hw, he], fun el' h => ?_⟩
  cases he.symm.trans h
  exact ⟨hi, hl⟩

theorem vlcInit : Statement .vlcInit := of_command rfl rfl
theorem reset : Statement .reset := of_command rfl rfl
theorem crWrite (reg : BitVec 8) (value : Word) : Statement (.crWrite reg value) := of_command rfl rfl
theorem crRead (reg : BitVec 8) : Statement (.crRead reg) := of_command rfl rfl
theorem tabWrite (ram : BitVec 8) (hi : BitVec 8) (lo : BitVec 8) (value : Word) : Statement (.tabWrite ram hi lo value) := of_command rfl rfl
theorem bsLoad (len : Word) : Statement (.bsLoad len) := of_command rfl rfl
theorem bsSeek (pos : Word) : Statement (.bsSeek pos) := of_command rfl rfl
theorem peek (n : BitVec 8) : Statement (.peek n) := of_command rfl rfl
theorem skip (n : BitVec 8) : Statement (.skip n) := of_command rfl rfl
theorem read (n : BitVec 8) : Statement (.read n) := of_command rfl rfl
theorem readUe : Statement .readUe := of_command rfl rfl
theorem readSe : Statement .readSe := of_command rfl rfl
theorem readTe (range : BitVec 8) : Statement (.readTe range) := of_command rfl rfl
theorem align : Statement .align := of_command rfl rfl
theorem bitsLeft : Statement .bitsLeft := of_command rfl rfl
theorem readCoeffToken (sel : BitVec 8) : Statement (.readCoeffToken sel) := of_command rfl rfl
theorem readTrailingSigns : Statement .readTrailingSigns := of_command rfl rfl
theorem readLevel : Statement .readLevel := of_command rfl rfl
theorem readTotalZeros : Statement .readTotalZeros := of_command rfl rfl
theorem readRunBefore : Statement .readRunBefore := of_command rfl rfl
theorem decodeResidual (blk : BitVec 8) (scan : BitVec 8) (maxCoeff : BitVec 8) (qmul : Word) : Statement (.decodeResidual blk scan maxCoeff qmul) := of_command rfl rfl
theorem cacheFill : Statement .cacheFill := of_command rfl rfl
theorem predNnz (n : BitVec 8) : Statement (.predNnz n) := of_command rfl rfl
theorem predMv (n : BitVec 8) (width : BitVec 8) (list : BitVec 8) (ref : Word) : Statement (.predMv n width list ref) := of_command rfl rfl
theorem predMv16x8 (n : BitVec 8) (list : BitVec 8) (ref : Word) : Statement (.predMv16x8 n list ref) := of_command rfl rfl
theorem predMv8x16 (n : BitVec 8) (list : BitVec 8) (ref : Word) : Statement (.predMv8x16 n list ref) := of_command rfl rfl
theorem predMvPskip : Statement .predMvPskip := of_command rfl rfl
theorem predI4Mode (n : BitVec 8) : Statement (.predI4Mode n) := of_command rfl rfl
theorem cacheWriteback : Statement .cacheWriteback := of_command rfl rfl
theorem sliceStart (pos : Word) : Statement (.sliceStart pos) := of_command rfl rfl
theorem mbDecode : Statement .mbDecode := of_command rfl rfl
theorem mbRecon : Statement .mbRecon := of_command rfl rfl
theorem sliceEnd : Statement .sliceEnd := of_command rfl rfl
theorem mcSet (reg : BitVec 8) (value : Word) : Statement (.mcSet reg value) := of_command rfl rfl
theorem qpelMc00 : Statement .qpelMc00 := of_command rfl rfl
theorem qpelMc10 : Statement .qpelMc10 := of_command rfl rfl
theorem qpelMc20 : Statement .qpelMc20 := of_command rfl rfl
theorem qpelMc30 : Statement .qpelMc30 := of_command rfl rfl
theorem qpelMc01 : Statement .qpelMc01 := of_command rfl rfl
theorem qpelMc11 : Statement .qpelMc11 := of_command rfl rfl
theorem qpelMc21 : Statement .qpelMc21 := of_command rfl rfl
theorem qpelMc31 : Statement .qpelMc31 := of_command rfl rfl
theorem qpelMc02 : Statement .qpelMc02 := of_command rfl rfl
theorem qpelMc12 : Statement .qpelMc12 := of_command rfl rfl
theorem qpelMc22 : Statement .qpelMc22 := of_command rfl rfl
theorem qpelMc32 : Statement .qpelMc32 := of_command rfl rfl
theorem qpelMc03 : Statement .qpelMc03 := of_command rfl rfl
theorem qpelMc13 : Statement .qpelMc13 := of_command rfl rfl
theorem qpelMc23 : Statement .qpelMc23 := of_command rfl rfl
theorem qpelMc33 : Statement .qpelMc33 := of_command rfl rfl
theorem mcChroma (plane : BitVec 8) : Statement (.mcChroma plane) := of_command rfl rfl
theorem weightUni (plane : BitVec 8) (list : BitVec 8) (ref : BitVec 8) : Statement (.weightUni plane list ref) := of_command rfl rfl
theorem weightBi (plane : BitVec 8) (ref0 : BitVec 8) (ref1 : BitVec 8) : Statement (.weightBi plane ref0 ref1) := of_command rfl rfl
theorem mcPart (n : BitVec 8) (width : BitVec 8) (height : BitVec 8) : Statement (.mcPart n width height) := of_command rfl rfl
theorem implicitWeight : Statement .implicitWeight := of_command rfl rfl
theorem waitRow (list : BitVec 8) (ref : BitVec 8) (row : Word) : Statement (.waitRow list ref row) := of_command rfl rfl
theorem idct4Add (b : BitVec 8) : Statement (.idct4Add b) := of_command rfl rfl
theorem idct4DcAdd (b : BitVec 8) : Statement (.idct4DcAdd b) := of_command rfl rfl
theorem idct8Add (q : BitVec 8) : Statement (.idct8Add q) := of_command rfl rfl
theorem idct8DcAdd (q : BitVec 8) : Statement (.idct8DcAdd q) := of_command rfl rfl
theorem lumaDcDequantIdct (qmul : Word) : Statement (.lumaDcDequantIdct qmul) := of_command rfl rfl
theorem chromaDcDequantIdct (plane : BitVec 8) (qmul : Word) : Statement (.chromaDcDequantIdct plane qmul) := of_command rfl rfl
theorem chroma422DcDequantIdct (plane : BitVec 8) (qmul : Word) : Statement (.chroma422DcDequantIdct plane qmul) := of_command rfl rfl
theorem intraPred (kind : BitVec 8) (b : BitVec 8) : Statement (.intraPred kind b) := of_command rfl rfl
theorem elemU (n : Nat) (x : Nat) : Statement (.elemU n x) := of_element rfl rfl rfl rfl
theorem elemUe (v : Nat) : Statement (.elemUe v) := of_element rfl rfl rfl rfl
theorem elemSe (v : Int) : Statement (.elemSe v) := of_element rfl rfl rfl rfl
theorem elemTe1 : Statement .elemTe1 := of_element rfl rfl rfl rfl
theorem elemTe2 (v : Nat) : Statement (.elemTe2 v) := of_element rfl rfl rfl rfl
theorem elemTeN (range : Nat) (v : Nat) : Statement (.elemTeN range v) := of_element rfl rfl rfl rfl
theorem levelPrefix (p : Nat) : Statement (.levelPrefix p) := of_element rfl rfl rfl rfl
theorem levelSuffix (n : Nat) (x : Nat) : Statement (.levelSuffix n x) := of_element rfl rfl rfl rfl
theorem trailingOnesSign (neg : Bool) : Statement (.trailingOnesSign neg) := of_element rfl rfl rfl rfl
theorem iMbType0 (sl : SliceType) : Statement (.iMbType0 sl) := of_element rfl rfl rfl rfl
theorem iMbType1 (sl : SliceType) : Statement (.iMbType1 sl) := of_element rfl rfl rfl rfl
theorem iMbType2 (sl : SliceType) : Statement (.iMbType2 sl) := of_element rfl rfl rfl rfl
theorem iMbType3 (sl : SliceType) : Statement (.iMbType3 sl) := of_element rfl rfl rfl rfl
theorem iMbType4 (sl : SliceType) : Statement (.iMbType4 sl) := of_element rfl rfl rfl rfl
theorem iMbType5 (sl : SliceType) : Statement (.iMbType5 sl) := of_element rfl rfl rfl rfl
theorem iMbType6 (sl : SliceType) : Statement (.iMbType6 sl) := of_element rfl rfl rfl rfl
theorem iMbType7 (sl : SliceType) : Statement (.iMbType7 sl) := of_element rfl rfl rfl rfl
theorem iMbType8 (sl : SliceType) : Statement (.iMbType8 sl) := of_element rfl rfl rfl rfl
theorem iMbType9 (sl : SliceType) : Statement (.iMbType9 sl) := of_element rfl rfl rfl rfl
theorem iMbType10 (sl : SliceType) : Statement (.iMbType10 sl) := of_element rfl rfl rfl rfl
theorem iMbType11 (sl : SliceType) : Statement (.iMbType11 sl) := of_element rfl rfl rfl rfl
theorem iMbType12 (sl : SliceType) : Statement (.iMbType12 sl) := of_element rfl rfl rfl rfl
theorem iMbType13 (sl : SliceType) : Statement (.iMbType13 sl) := of_element rfl rfl rfl rfl
theorem iMbType14 (sl : SliceType) : Statement (.iMbType14 sl) := of_element rfl rfl rfl rfl
theorem iMbType15 (sl : SliceType) : Statement (.iMbType15 sl) := of_element rfl rfl rfl rfl
theorem iMbType16 (sl : SliceType) : Statement (.iMbType16 sl) := of_element rfl rfl rfl rfl
theorem iMbType17 (sl : SliceType) : Statement (.iMbType17 sl) := of_element rfl rfl rfl rfl
theorem iMbType18 (sl : SliceType) : Statement (.iMbType18 sl) := of_element rfl rfl rfl rfl
theorem iMbType19 (sl : SliceType) : Statement (.iMbType19 sl) := of_element rfl rfl rfl rfl
theorem iMbType20 (sl : SliceType) : Statement (.iMbType20 sl) := of_element rfl rfl rfl rfl
theorem iMbType21 (sl : SliceType) : Statement (.iMbType21 sl) := of_element rfl rfl rfl rfl
theorem iMbType22 (sl : SliceType) : Statement (.iMbType22 sl) := of_element rfl rfl rfl rfl
theorem iMbType23 (sl : SliceType) : Statement (.iMbType23 sl) := of_element rfl rfl rfl rfl
theorem iMbType24 (sl : SliceType) : Statement (.iMbType24 sl) := of_element rfl rfl rfl rfl
theorem iMbType25 (sl : SliceType) : Statement (.iMbType25 sl) := of_element rfl rfl rfl rfl
theorem pMbType0 : Statement .pMbType0 := of_element rfl rfl rfl rfl
theorem pMbType1 : Statement .pMbType1 := of_element rfl rfl rfl rfl
theorem pMbType2 : Statement .pMbType2 := of_element rfl rfl rfl rfl
theorem pMbType3 : Statement .pMbType3 := of_element rfl rfl rfl rfl
theorem pMbType4 : Statement .pMbType4 := of_element rfl rfl rfl rfl
theorem bMbType0 : Statement .bMbType0 := of_element rfl rfl rfl rfl
theorem bMbType1 : Statement .bMbType1 := of_element rfl rfl rfl rfl
theorem bMbType2 : Statement .bMbType2 := of_element rfl rfl rfl rfl
theorem bMbType3 : Statement .bMbType3 := of_element rfl rfl rfl rfl
theorem bMbType4 : Statement .bMbType4 := of_element rfl rfl rfl rfl
theorem bMbType5 : Statement .bMbType5 := of_element rfl rfl rfl rfl
theorem bMbType6 : Statement .bMbType6 := of_element rfl rfl rfl rfl
theorem bMbType7 : Statement .bMbType7 := of_element rfl rfl rfl rfl
theorem bMbType8 : Statement .bMbType8 := of_element rfl rfl rfl rfl
theorem bMbType9 : Statement .bMbType9 := of_element rfl rfl rfl rfl
theorem bMbType10 : Statement .bMbType10 := of_element rfl rfl rfl rfl
theorem bMbType11 : Statement .bMbType11 := of_element rfl rfl rfl rfl
theorem bMbType12 : Statement .bMbType12 := of_element rfl rfl rfl rfl
theorem bMbType13 : Statement .bMbType13 := of_element rfl rfl rfl rfl
theorem bMbType14 : Statement .bMbType14 := of_element rfl rfl rfl rfl
theorem bMbType15 : Statement .bMbType15 := of_element rfl rfl rfl rfl
theorem bMbType16 : Statement .bMbType16 := of_element rfl rfl rfl rfl
theorem bMbType17 : Statement .bMbType17 := of_element rfl rfl rfl rfl
theorem bMbType18 : Statement .bMbType18 := of_element rfl rfl rfl rfl
theorem bMbType19 : Statement .bMbType19 := of_element rfl rfl rfl rfl
theorem bMbType20 : Statement .bMbType20 := of_element rfl rfl rfl rfl
theorem bMbType21 : Statement .bMbType21 := of_element rfl rfl rfl rfl
theorem bMbType22 : Statement .bMbType22 := of_element rfl rfl rfl rfl
theorem pSubMbType0 (i : BitVec 2) : Statement (.pSubMbType0 i) := of_element rfl rfl rfl rfl
theorem pSubMbType1 (i : BitVec 2) : Statement (.pSubMbType1 i) := of_element rfl rfl rfl rfl
theorem pSubMbType2 (i : BitVec 2) : Statement (.pSubMbType2 i) := of_element rfl rfl rfl rfl
theorem pSubMbType3 (i : BitVec 2) : Statement (.pSubMbType3 i) := of_element rfl rfl rfl rfl
theorem bSubMbType0 (i : BitVec 2) : Statement (.bSubMbType0 i) := of_element rfl rfl rfl rfl
theorem bSubMbType1 (i : BitVec 2) : Statement (.bSubMbType1 i) := of_element rfl rfl rfl rfl
theorem bSubMbType2 (i : BitVec 2) : Statement (.bSubMbType2 i) := of_element rfl rfl rfl rfl
theorem bSubMbType3 (i : BitVec 2) : Statement (.bSubMbType3 i) := of_element rfl rfl rfl rfl
theorem bSubMbType4 (i : BitVec 2) : Statement (.bSubMbType4 i) := of_element rfl rfl rfl rfl
theorem bSubMbType5 (i : BitVec 2) : Statement (.bSubMbType5 i) := of_element rfl rfl rfl rfl
theorem bSubMbType6 (i : BitVec 2) : Statement (.bSubMbType6 i) := of_element rfl rfl rfl rfl
theorem bSubMbType7 (i : BitVec 2) : Statement (.bSubMbType7 i) := of_element rfl rfl rfl rfl
theorem bSubMbType8 (i : BitVec 2) : Statement (.bSubMbType8 i) := of_element rfl rfl rfl rfl
theorem bSubMbType9 (i : BitVec 2) : Statement (.bSubMbType9 i) := of_element rfl rfl rfl rfl
theorem bSubMbType10 (i : BitVec 2) : Statement (.bSubMbType10 i) := of_element rfl rfl rfl rfl
theorem bSubMbType11 (i : BitVec 2) : Statement (.bSubMbType11 i) := of_element rfl rfl rfl rfl
theorem bSubMbType12 (i : BitVec 2) : Statement (.bSubMbType12 i) := of_element rfl rfl rfl rfl
theorem coeffToken0 (t : Nat) (n : Nat) : Statement (.coeffToken0 t n) := of_element rfl rfl rfl rfl
theorem coeffToken1 (t : Nat) (n : Nat) : Statement (.coeffToken1 t n) := of_element rfl rfl rfl rfl
theorem coeffToken2 (t : Nat) (n : Nat) : Statement (.coeffToken2 t n) := of_element rfl rfl rfl rfl
theorem coeffToken3 (t : Nat) (n : Nat) : Statement (.coeffToken3 t n) := of_element rfl rfl rfl rfl
theorem chromaDcCoeffToken (t : Nat) (n : Nat) : Statement (.chromaDcCoeffToken t n) := of_element rfl rfl rfl rfl
theorem chroma422DcCoeffToken (t : Nat) (n : Nat) : Statement (.chroma422DcCoeffToken t n) := of_element rfl rfl rfl rfl
theorem totalZeros1 (z : Nat) : Statement (.totalZeros1 z) := of_element rfl rfl rfl rfl
theorem totalZeros2 (z : Nat) : Statement (.totalZeros2 z) := of_element rfl rfl rfl rfl
theorem totalZeros3 (z : Nat) : Statement (.totalZeros3 z) := of_element rfl rfl rfl rfl
theorem totalZeros4 (z : Nat) : Statement (.totalZeros4 z) := of_element rfl rfl rfl rfl
theorem totalZeros5 (z : Nat) : Statement (.totalZeros5 z) := of_element rfl rfl rfl rfl
theorem totalZeros6 (z : Nat) : Statement (.totalZeros6 z) := of_element rfl rfl rfl rfl
theorem totalZeros7 (z : Nat) : Statement (.totalZeros7 z) := of_element rfl rfl rfl rfl
theorem totalZeros8 (z : Nat) : Statement (.totalZeros8 z) := of_element rfl rfl rfl rfl
theorem totalZeros9 (z : Nat) : Statement (.totalZeros9 z) := of_element rfl rfl rfl rfl
theorem totalZeros10 (z : Nat) : Statement (.totalZeros10 z) := of_element rfl rfl rfl rfl
theorem totalZeros11 (z : Nat) : Statement (.totalZeros11 z) := of_element rfl rfl rfl rfl
theorem totalZeros12 (z : Nat) : Statement (.totalZeros12 z) := of_element rfl rfl rfl rfl
theorem totalZeros13 (z : Nat) : Statement (.totalZeros13 z) := of_element rfl rfl rfl rfl
theorem totalZeros14 (z : Nat) : Statement (.totalZeros14 z) := of_element rfl rfl rfl rfl
theorem totalZeros15 (z : Nat) : Statement (.totalZeros15 z) := of_element rfl rfl rfl rfl
theorem chromaDcTotalZeros1 (z : Nat) : Statement (.chromaDcTotalZeros1 z) := of_element rfl rfl rfl rfl
theorem chromaDcTotalZeros2 (z : Nat) : Statement (.chromaDcTotalZeros2 z) := of_element rfl rfl rfl rfl
theorem chromaDcTotalZeros3 (z : Nat) : Statement (.chromaDcTotalZeros3 z) := of_element rfl rfl rfl rfl
theorem chroma422DcTotalZeros1 (z : Nat) : Statement (.chroma422DcTotalZeros1 z) := of_element rfl rfl rfl rfl
theorem chroma422DcTotalZeros2 (z : Nat) : Statement (.chroma422DcTotalZeros2 z) := of_element rfl rfl rfl rfl
theorem chroma422DcTotalZeros3 (z : Nat) : Statement (.chroma422DcTotalZeros3 z) := of_element rfl rfl rfl rfl
theorem chroma422DcTotalZeros4 (z : Nat) : Statement (.chroma422DcTotalZeros4 z) := of_element rfl rfl rfl rfl
theorem chroma422DcTotalZeros5 (z : Nat) : Statement (.chroma422DcTotalZeros5 z) := of_element rfl rfl rfl rfl
theorem chroma422DcTotalZeros6 (z : Nat) : Statement (.chroma422DcTotalZeros6 z) := of_element rfl rfl rfl rfl
theorem chroma422DcTotalZeros7 (z : Nat) : Statement (.chroma422DcTotalZeros7 z) := of_element rfl rfl rfl rfl
theorem runBefore1 (r : Nat) : Statement (.runBefore1 r) := of_element rfl rfl rfl rfl
theorem runBefore2 (r : Nat) : Statement (.runBefore2 r) := of_element rfl rfl rfl rfl
theorem runBefore3 (r : Nat) : Statement (.runBefore3 r) := of_element rfl rfl rfl rfl
theorem runBefore4 (r : Nat) : Statement (.runBefore4 r) := of_element rfl rfl rfl rfl
theorem runBefore5 (r : Nat) : Statement (.runBefore5 r) := of_element rfl rfl rfl rfl
theorem runBefore6 (r : Nat) : Statement (.runBefore6 r) := of_element rfl rfl rfl rfl
theorem run7 (r : Nat) : Statement (.run7 r) := of_element rfl rfl rfl rfl

end Sys2Proof.Laws.Layout
end

