-- ==== Sys2Proof/Laws/State.lean ====
section
/-! SUPPORT. One lemma per field per named update of the state: what the field is after the update. -/

namespace Sys2Proof.Machine

section Raise

variable (s : State) (k : ErrKind)

@[simp] theorem State.raise_totalCoeff : (s.raise k).totalCoeff = s.totalCoeff := rfl
@[simp] theorem State.raise_trailingOnes : (s.raise k).trailingOnes = s.trailingOnes := rfl
@[simp] theorem State.raise_level : (s.raise k).level = s.level := rfl
@[simp] theorem State.raise_levelIdx : (s.raise k).levelIdx = s.levelIdx := rfl
@[simp] theorem State.raise_suffixLength : (s.raise k).suffixLength = s.suffixLength := rfl
@[simp] theorem State.raise_zerosLeft : (s.raise k).zerosLeft = s.zerosLeft := rfl
@[simp] theorem State.raise_runBefore : (s.raise k).runBefore = s.runBefore := rfl
@[simp] theorem State.raise_maxCoeff : (s.raise k).maxCoeff = s.maxCoeff := rfl
@[simp] theorem State.raise_blk : (s.raise k).blk = s.blk := rfl
@[simp] theorem State.raise_mb : (s.raise k).mb = s.mb := rfl
@[simp] theorem State.raise_pmx : (s.raise k).pmx = s.pmx := rfl
@[simp] theorem State.raise_pmy : (s.raise k).pmy = s.pmy := rfl
@[simp] theorem State.raise_pnnz : (s.raise k).pnnz = s.pnnz := rfl
@[simp] theorem State.raise_pmode : (s.raise k).pmode = s.pmode := rfl
@[simp] theorem State.raise_res : (s.raise k).res = s.res := rfl
@[simp] theorem State.raise_bitpos : (s.raise k).bitpos = s.bitpos := rfl
@[simp] theorem State.raise_bsLen : (s.raise k).bsLen = s.bsLen := rfl
@[simp] theorem State.raise_mbX : (s.raise k).mbX = s.mbX := rfl
@[simp] theorem State.raise_mbY : (s.raise k).mbY = s.mbY := rfl
@[simp] theorem State.raise_vlcReady : (s.raise k).vlcReady = s.vlcReady := rfl
@[simp] theorem State.raise_engine : (s.raise k).engine = if s.engine = .run then .error else s.engine := rfl
@[simp] theorem State.raise_errKind : (s.raise k).errKind = k := rfl
@[simp] theorem State.raise_errMbX : (s.raise k).errMbX = s.mbX := rfl
@[simp] theorem State.raise_errMbY : (s.raise k).errMbY = s.mbY := rfl
@[simp] theorem State.raise_errBitpos : (s.raise k).errBitpos = BitVec.ofNat 32 s.bitpos := rfl
@[simp] theorem State.raise_cr0 : (s.raise k).cr0 = s.cr0 := rfl
@[simp] theorem State.raise_cr1 : (s.raise k).cr1 = s.cr1 := rfl
@[simp] theorem State.raise_cr2 : (s.raise k).cr2 = s.cr2 := rfl
@[simp] theorem State.raise_cr3 : (s.raise k).cr3 = s.cr3 := rfl
@[simp] theorem State.raise_skipRun : (s.raise k).skipRun = s.skipRun := rfl
@[simp] theorem State.raise_cr9 : (s.raise k).cr9 = s.cr9 := rfl
@[simp] theorem State.raise_cr10 : (s.raise k).cr10 = s.cr10 := rfl
@[simp] theorem State.raise_cr11 : (s.raise k).cr11 = s.cr11 := rfl
@[simp] theorem State.raise_cache : (s.raise k).cache = s.cache := rfl
@[simp] theorem State.raise_tabs : (s.raise k).tabs = s.tabs := rfl
@[simp] theorem State.raise_coefs : (s.raise k).coefs = s.coefs := rfl
@[simp] theorem State.raise_mc : (s.raise k).mc = s.mc := rfl
@[simp] theorem State.raise_tmp : (s.raise k).tmp = s.tmp := rfl
@[simp] theorem State.raise_pcm : (s.raise k).pcm = s.pcm := rfl
@[simp] theorem State.raise_nbAvail : (s.raise k).nbAvail = s.nbAvail := rfl
@[simp] theorem State.raise_nbIntra : (s.raise k).nbIntra = s.nbIntra := rfl
@[simp] theorem State.raise_chromaQp : (s.raise k).chromaQp = s.chromaQp := rfl
@[simp] theorem State.raise_bs : (s.raise k).bs = s.bs := rfl
@[simp] theorem State.raise_bsGen : (s.raise k).bsGen = s.bsGen := rfl
@[simp] theorem State.raise_pic :
    (s.raise k).pic = if s.engine = .run then { s.pic with corrupt := true } else s.pic := rfl
@[simp] theorem State.raise_refs : (s.raise k).refs = s.refs := rfl
@[simp] theorem State.raise_port : (s.raise k).port = s.port := rfl
@[simp] theorem State.raise_status : (s.raise k).status = .ended k := rfl
@[simp] theorem State.raise_hostBuf : (s.raise k).hostBuf = s.hostBuf := rfl
@[simp] theorem State.raise_freeCtr : (s.raise k).freeCtr = s.freeCtr := rfl

end Raise

section Reject

variable (s : State) (k : ErrKind)

@[simp] theorem State.reject_totalCoeff : (s.reject k).totalCoeff = s.totalCoeff := rfl
@[simp] theorem State.reject_trailingOnes : (s.reject k).trailingOnes = s.trailingOnes := rfl
@[simp] theorem State.reject_level : (s.reject k).level = s.level := rfl
@[simp] theorem State.reject_levelIdx : (s.reject k).levelIdx = s.levelIdx := rfl
@[simp] theorem State.reject_suffixLength : (s.reject k).suffixLength = s.suffixLength := rfl
@[simp] theorem State.reject_zerosLeft : (s.reject k).zerosLeft = s.zerosLeft := rfl
@[simp] theorem State.reject_runBefore : (s.reject k).runBefore = s.runBefore := rfl
@[simp] theorem State.reject_maxCoeff : (s.reject k).maxCoeff = s.maxCoeff := rfl
@[simp] theorem State.reject_blk : (s.reject k).blk = s.blk := rfl
@[simp] theorem State.reject_mb : (s.reject k).mb = s.mb := rfl
@[simp] theorem State.reject_pmx : (s.reject k).pmx = s.pmx := rfl
@[simp] theorem State.reject_pmy : (s.reject k).pmy = s.pmy := rfl
@[simp] theorem State.reject_pnnz : (s.reject k).pnnz = s.pnnz := rfl
@[simp] theorem State.reject_pmode : (s.reject k).pmode = s.pmode := rfl
@[simp] theorem State.reject_res : (s.reject k).res = s.res := rfl
@[simp] theorem State.reject_bitpos : (s.reject k).bitpos = s.bitpos := rfl
@[simp] theorem State.reject_bsLen : (s.reject k).bsLen = s.bsLen := rfl
@[simp] theorem State.reject_mbX : (s.reject k).mbX = s.mbX := rfl
@[simp] theorem State.reject_mbY : (s.reject k).mbY = s.mbY := rfl
@[simp] theorem State.reject_vlcReady : (s.reject k).vlcReady = s.vlcReady := rfl
@[simp] theorem State.reject_engine : (s.reject k).engine = s.engine := rfl
@[simp] theorem State.reject_errKind : (s.reject k).errKind = s.errKind := rfl
@[simp] theorem State.reject_errMbX : (s.reject k).errMbX = s.errMbX := rfl
@[simp] theorem State.reject_errMbY : (s.reject k).errMbY = s.errMbY := rfl
@[simp] theorem State.reject_errBitpos : (s.reject k).errBitpos = s.errBitpos := rfl
@[simp] theorem State.reject_cr0 : (s.reject k).cr0 = s.cr0 := rfl
@[simp] theorem State.reject_cr1 : (s.reject k).cr1 = s.cr1 := rfl
@[simp] theorem State.reject_cr2 : (s.reject k).cr2 = s.cr2 := rfl
@[simp] theorem State.reject_cr3 : (s.reject k).cr3 = s.cr3 := rfl
@[simp] theorem State.reject_skipRun : (s.reject k).skipRun = s.skipRun := rfl
@[simp] theorem State.reject_cr9 : (s.reject k).cr9 = s.cr9 := rfl
@[simp] theorem State.reject_cr10 : (s.reject k).cr10 = s.cr10 := rfl
@[simp] theorem State.reject_cr11 : (s.reject k).cr11 = s.cr11 := rfl
@[simp] theorem State.reject_cache : (s.reject k).cache = s.cache := rfl
@[simp] theorem State.reject_tabs : (s.reject k).tabs = s.tabs := rfl
@[simp] theorem State.reject_coefs : (s.reject k).coefs = s.coefs := rfl
@[simp] theorem State.reject_mc : (s.reject k).mc = s.mc := rfl
@[simp] theorem State.reject_tmp : (s.reject k).tmp = s.tmp := rfl
@[simp] theorem State.reject_pcm : (s.reject k).pcm = s.pcm := rfl
@[simp] theorem State.reject_nbAvail : (s.reject k).nbAvail = s.nbAvail := rfl
@[simp] theorem State.reject_nbIntra : (s.reject k).nbIntra = s.nbIntra := rfl
@[simp] theorem State.reject_chromaQp : (s.reject k).chromaQp = s.chromaQp := rfl
@[simp] theorem State.reject_bs : (s.reject k).bs = s.bs := rfl
@[simp] theorem State.reject_bsGen : (s.reject k).bsGen = s.bsGen := rfl
@[simp] theorem State.reject_pic : (s.reject k).pic = s.pic := rfl
@[simp] theorem State.reject_refs : (s.reject k).refs = s.refs := rfl
@[simp] theorem State.reject_port : (s.reject k).port = s.port := rfl
@[simp] theorem State.reject_status : (s.reject k).status = .ended k := rfl
@[simp] theorem State.reject_hostBuf : (s.reject k).hostBuf = s.hostBuf := rfl
@[simp] theorem State.reject_freeCtr : (s.reject k).freeCtr = s.freeCtr := rfl

end Reject

section Consume

variable (s : State)

@[simp] theorem State.consume_totalCoeff : s.consume.totalCoeff = s.totalCoeff := rfl
@[simp] theorem State.consume_trailingOnes : s.consume.trailingOnes = s.trailingOnes := rfl
@[simp] theorem State.consume_level : s.consume.level = s.level := rfl
@[simp] theorem State.consume_levelIdx : s.consume.levelIdx = s.levelIdx := rfl
@[simp] theorem State.consume_suffixLength : s.consume.suffixLength = s.suffixLength := rfl
@[simp] theorem State.consume_zerosLeft : s.consume.zerosLeft = s.zerosLeft := rfl
@[simp] theorem State.consume_runBefore : s.consume.runBefore = s.runBefore := rfl
@[simp] theorem State.consume_maxCoeff : s.consume.maxCoeff = s.maxCoeff := rfl
@[simp] theorem State.consume_blk : s.consume.blk = s.blk := rfl
@[simp] theorem State.consume_mb : s.consume.mb = s.mb := rfl
@[simp] theorem State.consume_pmx : s.consume.pmx = s.pmx := rfl
@[simp] theorem State.consume_pmy : s.consume.pmy = s.pmy := rfl
@[simp] theorem State.consume_pnnz : s.consume.pnnz = s.pnnz := rfl
@[simp] theorem State.consume_pmode : s.consume.pmode = s.pmode := rfl
@[simp] theorem State.consume_res : s.consume.res = s.res := rfl
@[simp] theorem State.consume_bitpos : s.consume.bitpos = s.bitpos := rfl
@[simp] theorem State.consume_bsLen : s.consume.bsLen = s.bsLen := rfl
@[simp] theorem State.consume_mbX : s.consume.mbX = s.mbX := rfl
@[simp] theorem State.consume_mbY : s.consume.mbY = s.mbY := rfl
@[simp] theorem State.consume_vlcReady : s.consume.vlcReady = s.vlcReady := rfl
@[simp] theorem State.consume_engine : s.consume.engine = s.engine := rfl
@[simp] theorem State.consume_errKind : s.consume.errKind = s.errKind := rfl
@[simp] theorem State.consume_errMbX : s.consume.errMbX = s.errMbX := rfl
@[simp] theorem State.consume_errMbY : s.consume.errMbY = s.errMbY := rfl
@[simp] theorem State.consume_errBitpos : s.consume.errBitpos = s.errBitpos := rfl
@[simp] theorem State.consume_cr0 : s.consume.cr0 = s.cr0 := rfl
@[simp] theorem State.consume_cr1 : s.consume.cr1 = s.cr1 := rfl
@[simp] theorem State.consume_cr2 : s.consume.cr2 = s.cr2 := rfl
@[simp] theorem State.consume_cr3 : s.consume.cr3 = s.cr3 := rfl
@[simp] theorem State.consume_skipRun : s.consume.skipRun = s.skipRun := rfl
@[simp] theorem State.consume_cr9 : s.consume.cr9 = s.cr9 := rfl
@[simp] theorem State.consume_cr10 : s.consume.cr10 = s.cr10 := rfl
@[simp] theorem State.consume_cr11 : s.consume.cr11 = s.cr11 := rfl
@[simp] theorem State.consume_cache : s.consume.cache = s.cache := rfl
@[simp] theorem State.consume_tabs : s.consume.tabs = s.tabs := rfl
@[simp] theorem State.consume_coefs : s.consume.coefs = s.coefs := rfl
@[simp] theorem State.consume_mc : s.consume.mc = s.mc := rfl
@[simp] theorem State.consume_tmp : s.consume.tmp = s.tmp := rfl
@[simp] theorem State.consume_pcm : s.consume.pcm = s.pcm := rfl
@[simp] theorem State.consume_nbAvail : s.consume.nbAvail = s.nbAvail := rfl
@[simp] theorem State.consume_nbIntra : s.consume.nbIntra = s.nbIntra := rfl
@[simp] theorem State.consume_chromaQp : s.consume.chromaQp = s.chromaQp := rfl
@[simp] theorem State.consume_bs : s.consume.bs = s.bs := rfl
@[simp] theorem State.consume_bsGen : s.consume.bsGen = s.bsGen := rfl
@[simp] theorem State.consume_pic : s.consume.pic = s.pic := rfl
@[simp] theorem State.consume_refs : s.consume.refs = s.refs := rfl
@[simp] theorem State.consume_port : s.consume.port = s.port.drop 1 := rfl
@[simp] theorem State.consume_status : s.consume.status = s.status := rfl
@[simp] theorem State.consume_hostBuf : s.consume.hostBuf = s.hostBuf := rfl
@[simp] theorem State.consume_freeCtr : s.consume.freeCtr = s.freeCtr := rfl

end Consume

section Endslice

variable (s : State)

@[simp] theorem State.endSlice_totalCoeff : s.endSlice.totalCoeff = none := rfl
@[simp] theorem State.endSlice_trailingOnes : s.endSlice.trailingOnes = none := rfl
@[simp] theorem State.endSlice_level : s.endSlice.level = [] := rfl
@[simp] theorem State.endSlice_levelIdx : s.endSlice.levelIdx = none := rfl
@[simp] theorem State.endSlice_suffixLength : s.endSlice.suffixLength = none := rfl
@[simp] theorem State.endSlice_zerosLeft : s.endSlice.zerosLeft = none := rfl
@[simp] theorem State.endSlice_runBefore : s.endSlice.runBefore = none := rfl
@[simp] theorem State.endSlice_maxCoeff : s.endSlice.maxCoeff = none := rfl
@[simp] theorem State.endSlice_blk : s.endSlice.blk = none := rfl
@[simp] theorem State.endSlice_mb : s.endSlice.mb = Mb.undef := rfl
@[simp] theorem State.endSlice_pmx : s.endSlice.pmx = none := rfl
@[simp] theorem State.endSlice_pmy : s.endSlice.pmy = none := rfl
@[simp] theorem State.endSlice_pnnz : s.endSlice.pnnz = none := rfl
@[simp] theorem State.endSlice_pmode : s.endSlice.pmode = none := rfl
@[simp] theorem State.endSlice_res : s.endSlice.res = none := rfl
@[simp] theorem State.endSlice_bitpos : s.endSlice.bitpos = s.bitpos := rfl
@[simp] theorem State.endSlice_bsLen : s.endSlice.bsLen = s.bsLen := rfl
@[simp] theorem State.endSlice_mbX : s.endSlice.mbX = s.mbX := rfl
@[simp] theorem State.endSlice_mbY : s.endSlice.mbY = s.mbY := rfl
@[simp] theorem State.endSlice_vlcReady : s.endSlice.vlcReady = s.vlcReady := rfl
@[simp] theorem State.endSlice_engine : s.endSlice.engine = .idle := rfl
@[simp] theorem State.endSlice_errKind : s.endSlice.errKind = s.errKind := rfl
@[simp] theorem State.endSlice_errMbX : s.endSlice.errMbX = s.errMbX := rfl
@[simp] theorem State.endSlice_errMbY : s.endSlice.errMbY = s.errMbY := rfl
@[simp] theorem State.endSlice_errBitpos : s.endSlice.errBitpos = s.errBitpos := rfl
@[simp] theorem State.endSlice_cr0 : s.endSlice.cr0 = s.cr0 := rfl
@[simp] theorem State.endSlice_cr1 : s.endSlice.cr1 = s.cr1 := rfl
@[simp] theorem State.endSlice_cr2 : s.endSlice.cr2 = s.cr2 := rfl
@[simp] theorem State.endSlice_cr3 : s.endSlice.cr3 = s.cr3 := rfl
@[simp] theorem State.endSlice_skipRun : s.endSlice.skipRun = s.skipRun := rfl
@[simp] theorem State.endSlice_cr9 : s.endSlice.cr9 = s.cr9 := rfl
@[simp] theorem State.endSlice_cr10 : s.endSlice.cr10 = s.cr10 := rfl
@[simp] theorem State.endSlice_cr11 : s.endSlice.cr11 = s.cr11 := rfl
@[simp] theorem State.endSlice_cache : s.endSlice.cache = Caches.undef := rfl
@[simp] theorem State.endSlice_tabs : s.endSlice.tabs = s.tabs := rfl
@[simp] theorem State.endSlice_coefs : s.endSlice.coefs = s.coefs := rfl
@[simp] theorem State.endSlice_mc : s.endSlice.mc = s.mc := rfl
@[simp] theorem State.endSlice_tmp : s.endSlice.tmp = s.tmp := rfl
@[simp] theorem State.endSlice_pcm : s.endSlice.pcm = s.pcm := rfl
@[simp] theorem State.endSlice_nbAvail : s.endSlice.nbAvail = s.nbAvail := rfl
@[simp] theorem State.endSlice_nbIntra : s.endSlice.nbIntra = s.nbIntra := rfl
@[simp] theorem State.endSlice_chromaQp : s.endSlice.chromaQp = s.chromaQp := rfl
@[simp] theorem State.endSlice_bs : s.endSlice.bs = s.bs := rfl
@[simp] theorem State.endSlice_bsGen : s.endSlice.bsGen = s.bsGen := rfl
@[simp] theorem State.endSlice_pic : s.endSlice.pic = s.pic := rfl
@[simp] theorem State.endSlice_refs : s.endSlice.refs = s.refs := rfl
@[simp] theorem State.endSlice_port : s.endSlice.port = s.port := rfl
@[simp] theorem State.endSlice_status : s.endSlice.status = s.status := rfl
@[simp] theorem State.endSlice_hostBuf : s.endSlice.hostBuf = s.hostBuf := rfl
@[simp] theorem State.endSlice_freeCtr : s.endSlice.freeCtr = s.freeCtr := rfl

end Endslice

section Startslice

variable (s : State) (pos : Word)

@[simp] theorem State.startSlice_totalCoeff : (s.startSlice pos).totalCoeff = none := rfl
@[simp] theorem State.startSlice_trailingOnes : (s.startSlice pos).trailingOnes = none := rfl
@[simp] theorem State.startSlice_level : (s.startSlice pos).level = [] := rfl
@[simp] theorem State.startSlice_levelIdx : (s.startSlice pos).levelIdx = none := rfl
@[simp] theorem State.startSlice_suffixLength : (s.startSlice pos).suffixLength = none := rfl
@[simp] theorem State.startSlice_zerosLeft : (s.startSlice pos).zerosLeft = none := rfl
@[simp] theorem State.startSlice_runBefore : (s.startSlice pos).runBefore = none := rfl
@[simp] theorem State.startSlice_maxCoeff : (s.startSlice pos).maxCoeff = none := rfl
@[simp] theorem State.startSlice_blk : (s.startSlice pos).blk = none := rfl
@[simp] theorem State.startSlice_mb : (s.startSlice pos).mb = Mb.undef := rfl
@[simp] theorem State.startSlice_pmx : (s.startSlice pos).pmx = none := rfl
@[simp] theorem State.startSlice_pmy : (s.startSlice pos).pmy = none := rfl
@[simp] theorem State.startSlice_pnnz : (s.startSlice pos).pnnz = none := rfl
@[simp] theorem State.startSlice_pmode : (s.startSlice pos).pmode = none := rfl
@[simp] theorem State.startSlice_res : (s.startSlice pos).res = none := rfl
@[simp] theorem State.startSlice_bitpos : (s.startSlice pos).bitpos = s.bitpos := rfl
@[simp] theorem State.startSlice_bsLen : (s.startSlice pos).bsLen = s.bsLen := rfl
@[simp] theorem State.startSlice_mbX : (s.startSlice pos).mbX = pos.extractLsb' 0 16 := rfl
@[simp] theorem State.startSlice_mbY : (s.startSlice pos).mbY = pos.extractLsb' 16 16 := rfl
@[simp] theorem State.startSlice_vlcReady : (s.startSlice pos).vlcReady = s.vlcReady := rfl
@[simp] theorem State.startSlice_engine : (s.startSlice pos).engine = .run := rfl
@[simp] theorem State.startSlice_errKind : (s.startSlice pos).errKind = .ok := rfl
@[simp] theorem State.startSlice_errMbX : (s.startSlice pos).errMbX = 0 := rfl
@[simp] theorem State.startSlice_errMbY : (s.startSlice pos).errMbY = 0 := rfl
@[simp] theorem State.startSlice_errBitpos : (s.startSlice pos).errBitpos = 0 := rfl
@[simp] theorem State.startSlice_cr0 : (s.startSlice pos).cr0 = s.cr0 := rfl
@[simp] theorem State.startSlice_cr1 : (s.startSlice pos).cr1 = s.cr1 := rfl
@[simp] theorem State.startSlice_cr2 : (s.startSlice pos).cr2 = s.cr2 := rfl
@[simp] theorem State.startSlice_cr3 : (s.startSlice pos).cr3 = s.cr3 := rfl
@[simp] theorem State.startSlice_skipRun : (s.startSlice pos).skipRun = 0xFFFFFFFF#32 := rfl
@[simp] theorem State.startSlice_cr9 : (s.startSlice pos).cr9 = s.cr9 := rfl
@[simp] theorem State.startSlice_cr10 : (s.startSlice pos).cr10 = s.cr10 := rfl
@[simp] theorem State.startSlice_cr11 : (s.startSlice pos).cr11 = s.cr11 := rfl
@[simp] theorem State.startSlice_cache : (s.startSlice pos).cache = Caches.undef := rfl
@[simp] theorem State.startSlice_tabs : (s.startSlice pos).tabs = s.tabs := rfl
@[simp] theorem State.startSlice_coefs : (s.startSlice pos).coefs = Coefs.zero := rfl
@[simp] theorem State.startSlice_mc : (s.startSlice pos).mc = McRegs.undef := rfl
@[simp] theorem State.startSlice_tmp : (s.startSlice pos).tmp = [] := rfl
@[simp] theorem State.startSlice_pcm : (s.startSlice pos).pcm = s.pcm := rfl
@[simp] theorem State.startSlice_nbAvail : (s.startSlice pos).nbAvail = [] := rfl
@[simp] theorem State.startSlice_nbIntra : (s.startSlice pos).nbIntra = [] := rfl
@[simp] theorem State.startSlice_chromaQp : (s.startSlice pos).chromaQp = [] := rfl
@[simp] theorem State.startSlice_bs : (s.startSlice pos).bs = s.bs := rfl
@[simp] theorem State.startSlice_bsGen : (s.startSlice pos).bsGen = s.bsGen := rfl
@[simp] theorem State.startSlice_pic : (s.startSlice pos).pic = s.pic := rfl
@[simp] theorem State.startSlice_refs : (s.startSlice pos).refs = s.refs := rfl
@[simp] theorem State.startSlice_port : (s.startSlice pos).port = s.port := rfl
@[simp] theorem State.startSlice_status : (s.startSlice pos).status = s.status := rfl
@[simp] theorem State.startSlice_hostBuf : (s.startSlice pos).hostBuf = s.hostBuf := rfl
@[simp] theorem State.startSlice_freeCtr : (s.startSlice pos).freeCtr = s.freeCtr := rfl

end Startslice

section Commandreset

variable (s : State)

@[simp] theorem State.commandReset_totalCoeff : s.commandReset.totalCoeff = none := rfl
@[simp] theorem State.commandReset_trailingOnes : s.commandReset.trailingOnes = none := rfl
@[simp] theorem State.commandReset_level : s.commandReset.level = [] := rfl
@[simp] theorem State.commandReset_levelIdx : s.commandReset.levelIdx = none := rfl
@[simp] theorem State.commandReset_suffixLength : s.commandReset.suffixLength = none := rfl
@[simp] theorem State.commandReset_zerosLeft : s.commandReset.zerosLeft = none := rfl
@[simp] theorem State.commandReset_runBefore : s.commandReset.runBefore = none := rfl
@[simp] theorem State.commandReset_maxCoeff : s.commandReset.maxCoeff = none := rfl
@[simp] theorem State.commandReset_blk : s.commandReset.blk = none := rfl
@[simp] theorem State.commandReset_mb : s.commandReset.mb = Mb.undef := rfl
@[simp] theorem State.commandReset_pmx : s.commandReset.pmx = none := rfl
@[simp] theorem State.commandReset_pmy : s.commandReset.pmy = none := rfl
@[simp] theorem State.commandReset_pnnz : s.commandReset.pnnz = none := rfl
@[simp] theorem State.commandReset_pmode : s.commandReset.pmode = none := rfl
@[simp] theorem State.commandReset_res : s.commandReset.res = none := rfl
@[simp] theorem State.commandReset_bitpos : s.commandReset.bitpos = 0 := rfl
@[simp] theorem State.commandReset_bsLen : s.commandReset.bsLen = 0 := rfl
@[simp] theorem State.commandReset_mbX : s.commandReset.mbX = 0 := rfl
@[simp] theorem State.commandReset_mbY : s.commandReset.mbY = 0 := rfl
@[simp] theorem State.commandReset_vlcReady : s.commandReset.vlcReady = s.vlcReady := rfl
@[simp] theorem State.commandReset_engine : s.commandReset.engine = .idle := rfl
@[simp] theorem State.commandReset_errKind : s.commandReset.errKind = .ok := rfl
@[simp] theorem State.commandReset_errMbX : s.commandReset.errMbX = 0 := rfl
@[simp] theorem State.commandReset_errMbY : s.commandReset.errMbY = 0 := rfl
@[simp] theorem State.commandReset_errBitpos : s.commandReset.errBitpos = 0 := rfl
@[simp] theorem State.commandReset_cr0 : s.commandReset.cr0 = 0x00000421#32 := rfl
@[simp] theorem State.commandReset_cr1 : s.commandReset.cr1 = 0x00010001#32 := rfl
@[simp] theorem State.commandReset_cr2 : s.commandReset.cr2 = 0x00000002#32 := rfl
@[simp] theorem State.commandReset_cr3 : s.commandReset.cr3 = 0 := rfl
@[simp] theorem State.commandReset_skipRun : s.commandReset.skipRun = 0xFFFFFFFF#32 := rfl
@[simp] theorem State.commandReset_cr9 : s.commandReset.cr9 = 0 := rfl
@[simp] theorem State.commandReset_cr10 : s.commandReset.cr10 = 0 := rfl
@[simp] theorem State.commandReset_cr11 : s.commandReset.cr11 = 0 := rfl
@[simp] theorem State.commandReset_cache : s.commandReset.cache = Caches.undef := rfl
@[simp] theorem State.commandReset_tabs : s.commandReset.tabs = Tables.undef := rfl
@[simp] theorem State.commandReset_coefs : s.commandReset.coefs = Coefs.zero := rfl
@[simp] theorem State.commandReset_mc : s.commandReset.mc = McRegs.undef := rfl
@[simp] theorem State.commandReset_tmp : s.commandReset.tmp = [] := rfl
@[simp] theorem State.commandReset_pcm : s.commandReset.pcm = [] := rfl
@[simp] theorem State.commandReset_nbAvail : s.commandReset.nbAvail = [] := rfl
@[simp] theorem State.commandReset_nbIntra : s.commandReset.nbIntra = [] := rfl
@[simp] theorem State.commandReset_chromaQp : s.commandReset.chromaQp = [] := rfl
@[simp] theorem State.commandReset_bs : s.commandReset.bs = s.bs := rfl
@[simp] theorem State.commandReset_bsGen : s.commandReset.bsGen = s.bsGen := rfl
@[simp] theorem State.commandReset_pic : s.commandReset.pic = s.pic := rfl
@[simp] theorem State.commandReset_refs : s.commandReset.refs = s.refs := rfl
@[simp] theorem State.commandReset_port : s.commandReset.port = s.port := rfl
@[simp] theorem State.commandReset_status : s.commandReset.status = s.status := rfl
@[simp] theorem State.commandReset_hostBuf : s.commandReset.hostBuf = s.hostBuf := rfl
@[simp] theorem State.commandReset_freeCtr : s.commandReset.freeCtr = s.freeCtr := rfl

end Commandreset

section Forgetblock

variable (s : State)

@[simp] theorem State.forgetBlock_totalCoeff : s.forgetBlock.totalCoeff = none := rfl
@[simp] theorem State.forgetBlock_trailingOnes : s.forgetBlock.trailingOnes = none := rfl
@[simp] theorem State.forgetBlock_level : s.forgetBlock.level = [] := rfl
@[simp] theorem State.forgetBlock_levelIdx : s.forgetBlock.levelIdx = none := rfl
@[simp] theorem State.forgetBlock_suffixLength : s.forgetBlock.suffixLength = none := rfl
@[simp] theorem State.forgetBlock_zerosLeft : s.forgetBlock.zerosLeft = none := rfl
@[simp] theorem State.forgetBlock_runBefore : s.forgetBlock.runBefore = none := rfl
@[simp] theorem State.forgetBlock_maxCoeff : s.forgetBlock.maxCoeff = none := rfl
@[simp] theorem State.forgetBlock_blk : s.forgetBlock.blk = none := rfl
@[simp] theorem State.forgetBlock_mb : s.forgetBlock.mb = s.mb := rfl
@[simp] theorem State.forgetBlock_pmx : s.forgetBlock.pmx = s.pmx := rfl
@[simp] theorem State.forgetBlock_pmy : s.forgetBlock.pmy = s.pmy := rfl
@[simp] theorem State.forgetBlock_pnnz : s.forgetBlock.pnnz = s.pnnz := rfl
@[simp] theorem State.forgetBlock_pmode : s.forgetBlock.pmode = s.pmode := rfl
@[simp] theorem State.forgetBlock_res : s.forgetBlock.res = s.res := rfl
@[simp] theorem State.forgetBlock_bitpos : s.forgetBlock.bitpos = s.bitpos := rfl
@[simp] theorem State.forgetBlock_bsLen : s.forgetBlock.bsLen = s.bsLen := rfl
@[simp] theorem State.forgetBlock_mbX : s.forgetBlock.mbX = s.mbX := rfl
@[simp] theorem State.forgetBlock_mbY : s.forgetBlock.mbY = s.mbY := rfl
@[simp] theorem State.forgetBlock_vlcReady : s.forgetBlock.vlcReady = s.vlcReady := rfl
@[simp] theorem State.forgetBlock_engine : s.forgetBlock.engine = s.engine := rfl
@[simp] theorem State.forgetBlock_errKind : s.forgetBlock.errKind = s.errKind := rfl
@[simp] theorem State.forgetBlock_errMbX : s.forgetBlock.errMbX = s.errMbX := rfl
@[simp] theorem State.forgetBlock_errMbY : s.forgetBlock.errMbY = s.errMbY := rfl
@[simp] theorem State.forgetBlock_errBitpos : s.forgetBlock.errBitpos = s.errBitpos := rfl
@[simp] theorem State.forgetBlock_cr0 : s.forgetBlock.cr0 = s.cr0 := rfl
@[simp] theorem State.forgetBlock_cr1 : s.forgetBlock.cr1 = s.cr1 := rfl
@[simp] theorem State.forgetBlock_cr2 : s.forgetBlock.cr2 = s.cr2 := rfl
@[simp] theorem State.forgetBlock_cr3 : s.forgetBlock.cr3 = s.cr3 := rfl
@[simp] theorem State.forgetBlock_skipRun : s.forgetBlock.skipRun = s.skipRun := rfl
@[simp] theorem State.forgetBlock_cr9 : s.forgetBlock.cr9 = s.cr9 := rfl
@[simp] theorem State.forgetBlock_cr10 : s.forgetBlock.cr10 = s.cr10 := rfl
@[simp] theorem State.forgetBlock_cr11 : s.forgetBlock.cr11 = s.cr11 := rfl
@[simp] theorem State.forgetBlock_cache : s.forgetBlock.cache = s.cache := rfl
@[simp] theorem State.forgetBlock_tabs : s.forgetBlock.tabs = s.tabs := rfl
@[simp] theorem State.forgetBlock_coefs : s.forgetBlock.coefs = s.coefs := rfl
@[simp] theorem State.forgetBlock_mc : s.forgetBlock.mc = s.mc := rfl
@[simp] theorem State.forgetBlock_tmp : s.forgetBlock.tmp = s.tmp := rfl
@[simp] theorem State.forgetBlock_pcm : s.forgetBlock.pcm = s.pcm := rfl
@[simp] theorem State.forgetBlock_nbAvail : s.forgetBlock.nbAvail = s.nbAvail := rfl
@[simp] theorem State.forgetBlock_nbIntra : s.forgetBlock.nbIntra = s.nbIntra := rfl
@[simp] theorem State.forgetBlock_chromaQp : s.forgetBlock.chromaQp = s.chromaQp := rfl
@[simp] theorem State.forgetBlock_bs : s.forgetBlock.bs = s.bs := rfl
@[simp] theorem State.forgetBlock_bsGen : s.forgetBlock.bsGen = s.bsGen := rfl
@[simp] theorem State.forgetBlock_pic : s.forgetBlock.pic = s.pic := rfl
@[simp] theorem State.forgetBlock_refs : s.forgetBlock.refs = s.refs := rfl
@[simp] theorem State.forgetBlock_port : s.forgetBlock.port = s.port := rfl
@[simp] theorem State.forgetBlock_status : s.forgetBlock.status = s.status := rfl
@[simp] theorem State.forgetBlock_hostBuf : s.forgetBlock.hostBuf = s.hostBuf := rfl
@[simp] theorem State.forgetBlock_freeCtr : s.forgetBlock.freeCtr = s.freeCtr := rfl

end Forgetblock

section Loadbits

variable (s : State) (len : Nat)

@[simp] theorem State.loadBits_totalCoeff : (s.loadBits len).totalCoeff = s.totalCoeff := rfl
@[simp] theorem State.loadBits_trailingOnes : (s.loadBits len).trailingOnes = s.trailingOnes := rfl
@[simp] theorem State.loadBits_level : (s.loadBits len).level = s.level := rfl
@[simp] theorem State.loadBits_levelIdx : (s.loadBits len).levelIdx = s.levelIdx := rfl
@[simp] theorem State.loadBits_suffixLength : (s.loadBits len).suffixLength = s.suffixLength := rfl
@[simp] theorem State.loadBits_zerosLeft : (s.loadBits len).zerosLeft = s.zerosLeft := rfl
@[simp] theorem State.loadBits_runBefore : (s.loadBits len).runBefore = s.runBefore := rfl
@[simp] theorem State.loadBits_maxCoeff : (s.loadBits len).maxCoeff = s.maxCoeff := rfl
@[simp] theorem State.loadBits_blk : (s.loadBits len).blk = s.blk := rfl
@[simp] theorem State.loadBits_mb : (s.loadBits len).mb = s.mb := rfl
@[simp] theorem State.loadBits_pmx : (s.loadBits len).pmx = s.pmx := rfl
@[simp] theorem State.loadBits_pmy : (s.loadBits len).pmy = s.pmy := rfl
@[simp] theorem State.loadBits_pnnz : (s.loadBits len).pnnz = s.pnnz := rfl
@[simp] theorem State.loadBits_pmode : (s.loadBits len).pmode = s.pmode := rfl
@[simp] theorem State.loadBits_res : (s.loadBits len).res = s.res := rfl
@[simp] theorem State.loadBits_bitpos : (s.loadBits len).bitpos = 0 := rfl
@[simp] theorem State.loadBits_bsLen : (s.loadBits len).bsLen = len := rfl
@[simp] theorem State.loadBits_mbX : (s.loadBits len).mbX = s.mbX := rfl
@[simp] theorem State.loadBits_mbY : (s.loadBits len).mbY = s.mbY := rfl
@[simp] theorem State.loadBits_vlcReady : (s.loadBits len).vlcReady = s.vlcReady := rfl
@[simp] theorem State.loadBits_engine : (s.loadBits len).engine = s.engine := rfl
@[simp] theorem State.loadBits_errKind : (s.loadBits len).errKind = s.errKind := rfl
@[simp] theorem State.loadBits_errMbX : (s.loadBits len).errMbX = s.errMbX := rfl
@[simp] theorem State.loadBits_errMbY : (s.loadBits len).errMbY = s.errMbY := rfl
@[simp] theorem State.loadBits_errBitpos : (s.loadBits len).errBitpos = s.errBitpos := rfl
@[simp] theorem State.loadBits_cr0 : (s.loadBits len).cr0 = s.cr0 := rfl
@[simp] theorem State.loadBits_cr1 : (s.loadBits len).cr1 = s.cr1 := rfl
@[simp] theorem State.loadBits_cr2 : (s.loadBits len).cr2 = s.cr2 := rfl
@[simp] theorem State.loadBits_cr3 : (s.loadBits len).cr3 = s.cr3 := rfl
@[simp] theorem State.loadBits_skipRun : (s.loadBits len).skipRun = s.skipRun := rfl
@[simp] theorem State.loadBits_cr9 : (s.loadBits len).cr9 = s.cr9 := rfl
@[simp] theorem State.loadBits_cr10 : (s.loadBits len).cr10 = s.cr10 := rfl
@[simp] theorem State.loadBits_cr11 : (s.loadBits len).cr11 = s.cr11 := rfl
@[simp] theorem State.loadBits_cache : (s.loadBits len).cache = s.cache := rfl
@[simp] theorem State.loadBits_tabs : (s.loadBits len).tabs = s.tabs := rfl
@[simp] theorem State.loadBits_coefs : (s.loadBits len).coefs = s.coefs := rfl
@[simp] theorem State.loadBits_mc : (s.loadBits len).mc = s.mc := rfl
@[simp] theorem State.loadBits_tmp : (s.loadBits len).tmp = s.tmp := rfl
@[simp] theorem State.loadBits_pcm : (s.loadBits len).pcm = s.pcm := rfl
@[simp] theorem State.loadBits_nbAvail : (s.loadBits len).nbAvail = s.nbAvail := rfl
@[simp] theorem State.loadBits_nbIntra : (s.loadBits len).nbIntra = s.nbIntra := rfl
@[simp] theorem State.loadBits_chromaQp : (s.loadBits len).chromaQp = s.chromaQp := rfl
@[simp] theorem State.loadBits_bs : (s.loadBits len).bs = bytesFrom 0 s.hostBuf := rfl
@[simp] theorem State.loadBits_bsGen : (s.loadBits len).bsGen = s.freeCtr := rfl
@[simp] theorem State.loadBits_pic : (s.loadBits len).pic = s.pic := rfl
@[simp] theorem State.loadBits_refs : (s.loadBits len).refs = s.refs := rfl
@[simp] theorem State.loadBits_port : (s.loadBits len).port = s.port := rfl
@[simp] theorem State.loadBits_status : (s.loadBits len).status = s.status := rfl
@[simp] theorem State.loadBits_hostBuf : (s.loadBits len).hostBuf = s.hostBuf := rfl
@[simp] theorem State.loadBits_freeCtr : (s.loadBits len).freeCtr = s.freeCtr + 1 := rfl

end Loadbits

section Setqscale

variable (s : State) (q : Nat)

@[simp] theorem State.setQscale_totalCoeff : (s.setQscale q).totalCoeff = s.totalCoeff := rfl
@[simp] theorem State.setQscale_trailingOnes : (s.setQscale q).trailingOnes = s.trailingOnes := rfl
@[simp] theorem State.setQscale_level : (s.setQscale q).level = s.level := rfl
@[simp] theorem State.setQscale_levelIdx : (s.setQscale q).levelIdx = s.levelIdx := rfl
@[simp] theorem State.setQscale_suffixLength : (s.setQscale q).suffixLength = s.suffixLength := rfl
@[simp] theorem State.setQscale_zerosLeft : (s.setQscale q).zerosLeft = s.zerosLeft := rfl
@[simp] theorem State.setQscale_runBefore : (s.setQscale q).runBefore = s.runBefore := rfl
@[simp] theorem State.setQscale_maxCoeff : (s.setQscale q).maxCoeff = s.maxCoeff := rfl
@[simp] theorem State.setQscale_blk : (s.setQscale q).blk = s.blk := rfl
@[simp] theorem State.setQscale_mb : (s.setQscale q).mb = s.mb := rfl
@[simp] theorem State.setQscale_pmx : (s.setQscale q).pmx = s.pmx := rfl
@[simp] theorem State.setQscale_pmy : (s.setQscale q).pmy = s.pmy := rfl
@[simp] theorem State.setQscale_pnnz : (s.setQscale q).pnnz = s.pnnz := rfl
@[simp] theorem State.setQscale_pmode : (s.setQscale q).pmode = s.pmode := rfl
@[simp] theorem State.setQscale_res : (s.setQscale q).res = s.res := rfl
@[simp] theorem State.setQscale_bitpos : (s.setQscale q).bitpos = s.bitpos := rfl
@[simp] theorem State.setQscale_bsLen : (s.setQscale q).bsLen = s.bsLen := rfl
@[simp] theorem State.setQscale_mbX : (s.setQscale q).mbX = s.mbX := rfl
@[simp] theorem State.setQscale_mbY : (s.setQscale q).mbY = s.mbY := rfl
@[simp] theorem State.setQscale_vlcReady : (s.setQscale q).vlcReady = s.vlcReady := rfl
@[simp] theorem State.setQscale_engine : (s.setQscale q).engine = s.engine := rfl
@[simp] theorem State.setQscale_errKind : (s.setQscale q).errKind = s.errKind := rfl
@[simp] theorem State.setQscale_errMbX : (s.setQscale q).errMbX = s.errMbX := rfl
@[simp] theorem State.setQscale_errMbY : (s.setQscale q).errMbY = s.errMbY := rfl
@[simp] theorem State.setQscale_errBitpos : (s.setQscale q).errBitpos = s.errBitpos := rfl
@[simp] theorem State.setQscale_cr0 : (s.setQscale q).cr0 = s.cr0 := rfl
@[simp] theorem State.setQscale_cr1 : (s.setQscale q).cr1 = s.cr1 := rfl
@[simp] theorem State.setQscale_cr2 : (s.setQscale q).cr2 = s.cr2 := rfl
@[simp] theorem State.setQscale_cr3 : (s.setQscale q).cr3 = BitVec.ofNat 32 q &&& 0x7F#32 := rfl
@[simp] theorem State.setQscale_skipRun : (s.setQscale q).skipRun = s.skipRun := rfl
@[simp] theorem State.setQscale_cr9 : (s.setQscale q).cr9 = s.cr9 := rfl
@[simp] theorem State.setQscale_cr10 : (s.setQscale q).cr10 = s.cr10 := rfl
@[simp] theorem State.setQscale_cr11 : (s.setQscale q).cr11 = s.cr11 := rfl
@[simp] theorem State.setQscale_cache : (s.setQscale q).cache = s.cache := rfl
@[simp] theorem State.setQscale_tabs : (s.setQscale q).tabs = s.tabs := rfl
@[simp] theorem State.setQscale_coefs : (s.setQscale q).coefs = s.coefs := rfl
@[simp] theorem State.setQscale_mc : (s.setQscale q).mc = s.mc := rfl
@[simp] theorem State.setQscale_tmp : (s.setQscale q).tmp = s.tmp := rfl
@[simp] theorem State.setQscale_pcm : (s.setQscale q).pcm = s.pcm := rfl
@[simp] theorem State.setQscale_nbAvail : (s.setQscale q).nbAvail = s.nbAvail := rfl
@[simp] theorem State.setQscale_nbIntra : (s.setQscale q).nbIntra = s.nbIntra := rfl
@[simp] theorem State.setQscale_chromaQp : (s.setQscale q).chromaQp = s.chromaQp := rfl
@[simp] theorem State.setQscale_bs : (s.setQscale q).bs = s.bs := rfl
@[simp] theorem State.setQscale_bsGen : (s.setQscale q).bsGen = s.bsGen := rfl
@[simp] theorem State.setQscale_pic : (s.setQscale q).pic = s.pic := rfl
@[simp] theorem State.setQscale_refs : (s.setQscale q).refs = s.refs := rfl
@[simp] theorem State.setQscale_port : (s.setQscale q).port = s.port := rfl
@[simp] theorem State.setQscale_status : (s.setQscale q).status = s.status := rfl
@[simp] theorem State.setQscale_hostBuf : (s.setQscale q).hostBuf = s.hostBuf := rfl
@[simp] theorem State.setQscale_freeCtr : (s.setQscale q).freeCtr = s.freeCtr := rfl

end Setqscale

section Putblock

variable (s : State) (p x y w h : Nat) (f : Nat → Nat → Sample)

@[simp] theorem State.putBlock_totalCoeff : (s.putBlock p x y w h f).totalCoeff = s.totalCoeff := rfl
@[simp] theorem State.putBlock_trailingOnes : (s.putBlock p x y w h f).trailingOnes = s.trailingOnes := rfl
@[simp] theorem State.putBlock_level : (s.putBlock p x y w h f).level = s.level := rfl
@[simp] theorem State.putBlock_levelIdx : (s.putBlock p x y w h f).levelIdx = s.levelIdx := rfl
@[simp] theorem State.putBlock_suffixLength : (s.putBlock p x y w h f).suffixLength = s.suffixLength := rfl
@[simp] theorem State.putBlock_zerosLeft : (s.putBlock p x y w h f).zerosLeft = s.zerosLeft := rfl
@[simp] theorem State.putBlock_runBefore : (s.putBlock p x y w h f).runBefore = s.runBefore := rfl
@[simp] theorem State.putBlock_maxCoeff : (s.putBlock p x y w h f).maxCoeff = s.maxCoeff := rfl
@[simp] theorem State.putBlock_blk : (s.putBlock p x y w h f).blk = s.blk := rfl
@[simp] theorem State.putBlock_mb : (s.putBlock p x y w h f).mb = s.mb := rfl
@[simp] theorem State.putBlock_pmx : (s.putBlock p x y w h f).pmx = s.pmx := rfl
@[simp] theorem State.putBlock_pmy : (s.putBlock p x y w h f).pmy = s.pmy := rfl
@[simp] theorem State.putBlock_pnnz : (s.putBlock p x y w h f).pnnz = s.pnnz := rfl
@[simp] theorem State.putBlock_pmode : (s.putBlock p x y w h f).pmode = s.pmode := rfl
@[simp] theorem State.putBlock_res : (s.putBlock p x y w h f).res = s.res := rfl
@[simp] theorem State.putBlock_bitpos : (s.putBlock p x y w h f).bitpos = s.bitpos := rfl
@[simp] theorem State.putBlock_bsLen : (s.putBlock p x y w h f).bsLen = s.bsLen := rfl
@[simp] theorem State.putBlock_mbX : (s.putBlock p x y w h f).mbX = s.mbX := rfl
@[simp] theorem State.putBlock_mbY : (s.putBlock p x y w h f).mbY = s.mbY := rfl
@[simp] theorem State.putBlock_vlcReady : (s.putBlock p x y w h f).vlcReady = s.vlcReady := rfl
@[simp] theorem State.putBlock_engine : (s.putBlock p x y w h f).engine = s.engine := rfl
@[simp] theorem State.putBlock_errKind : (s.putBlock p x y w h f).errKind = s.errKind := rfl
@[simp] theorem State.putBlock_errMbX : (s.putBlock p x y w h f).errMbX = s.errMbX := rfl
@[simp] theorem State.putBlock_errMbY : (s.putBlock p x y w h f).errMbY = s.errMbY := rfl
@[simp] theorem State.putBlock_errBitpos : (s.putBlock p x y w h f).errBitpos = s.errBitpos := rfl
@[simp] theorem State.putBlock_cr0 : (s.putBlock p x y w h f).cr0 = s.cr0 := rfl
@[simp] theorem State.putBlock_cr1 : (s.putBlock p x y w h f).cr1 = s.cr1 := rfl
@[simp] theorem State.putBlock_cr2 : (s.putBlock p x y w h f).cr2 = s.cr2 := rfl
@[simp] theorem State.putBlock_cr3 : (s.putBlock p x y w h f).cr3 = s.cr3 := rfl
@[simp] theorem State.putBlock_skipRun : (s.putBlock p x y w h f).skipRun = s.skipRun := rfl
@[simp] theorem State.putBlock_cr9 : (s.putBlock p x y w h f).cr9 = s.cr9 := rfl
@[simp] theorem State.putBlock_cr10 : (s.putBlock p x y w h f).cr10 = s.cr10 := rfl
@[simp] theorem State.putBlock_cr11 : (s.putBlock p x y w h f).cr11 = s.cr11 := rfl
@[simp] theorem State.putBlock_cache : (s.putBlock p x y w h f).cache = s.cache := rfl
@[simp] theorem State.putBlock_tabs : (s.putBlock p x y w h f).tabs = s.tabs := rfl
@[simp] theorem State.putBlock_coefs : (s.putBlock p x y w h f).coefs = s.coefs := rfl
@[simp] theorem State.putBlock_mc : (s.putBlock p x y w h f).mc = s.mc := rfl
@[simp] theorem State.putBlock_tmp : (s.putBlock p x y w h f).tmp = s.tmp := rfl
@[simp] theorem State.putBlock_pcm : (s.putBlock p x y w h f).pcm = s.pcm := rfl
@[simp] theorem State.putBlock_nbAvail : (s.putBlock p x y w h f).nbAvail = s.nbAvail := rfl
@[simp] theorem State.putBlock_nbIntra : (s.putBlock p x y w h f).nbIntra = s.nbIntra := rfl
@[simp] theorem State.putBlock_chromaQp : (s.putBlock p x y w h f).chromaQp = s.chromaQp := rfl
@[simp] theorem State.putBlock_bs : (s.putBlock p x y w h f).bs = s.bs := rfl
@[simp] theorem State.putBlock_bsGen : (s.putBlock p x y w h f).bsGen = s.bsGen := rfl
@[simp] theorem State.putBlock_refs : (s.putBlock p x y w h f).refs = s.refs := rfl
@[simp] theorem State.putBlock_port : (s.putBlock p x y w h f).port = s.port := rfl
@[simp] theorem State.putBlock_status : (s.putBlock p x y w h f).status = s.status := rfl
@[simp] theorem State.putBlock_hostBuf : (s.putBlock p x y w h f).hostBuf = s.hostBuf := rfl
@[simp] theorem State.putBlock_freeCtr : (s.putBlock p x y w h f).freeCtr = s.freeCtr := rfl

end Putblock

section Puttmp

variable (s : State) (p x y w h : Nat) (f : Nat → Nat → Sample)

@[simp] theorem State.putTmp_totalCoeff : (s.putTmp p x y w h f).totalCoeff = s.totalCoeff := rfl
@[simp] theorem State.putTmp_trailingOnes : (s.putTmp p x y w h f).trailingOnes = s.trailingOnes := rfl
@[simp] theorem State.putTmp_level : (s.putTmp p x y w h f).level = s.level := rfl
@[simp] theorem State.putTmp_levelIdx : (s.putTmp p x y w h f).levelIdx = s.levelIdx := rfl
@[simp] theorem State.putTmp_suffixLength : (s.putTmp p x y w h f).suffixLength = s.suffixLength := rfl
@[simp] theorem State.putTmp_zerosLeft : (s.putTmp p x y w h f).zerosLeft = s.zerosLeft := rfl
@[simp] theorem State.putTmp_runBefore : (s.putTmp p x y w h f).runBefore = s.runBefore := rfl
@[simp] theorem State.putTmp_maxCoeff : (s.putTmp p x y w h f).maxCoeff = s.maxCoeff := rfl
@[simp] theorem State.putTmp_blk : (s.putTmp p x y w h f).blk = s.blk := rfl
@[simp] theorem State.putTmp_mb : (s.putTmp p x y w h f).mb = s.mb := rfl
@[simp] theorem State.putTmp_pmx : (s.putTmp p x y w h f).pmx = s.pmx := rfl
@[simp] theorem State.putTmp_pmy : (s.putTmp p x y w h f).pmy = s.pmy := rfl
@[simp] theorem State.putTmp_pnnz : (s.putTmp p x y w h f).pnnz = s.pnnz := rfl
@[simp] theorem State.putTmp_pmode : (s.putTmp p x y w h f).pmode = s.pmode := rfl
@[simp] theorem State.putTmp_res : (s.putTmp p x y w h f).res = s.res := rfl
@[simp] theorem State.putTmp_bitpos : (s.putTmp p x y w h f).bitpos = s.bitpos := rfl
@[simp] theorem State.putTmp_bsLen : (s.putTmp p x y w h f).bsLen = s.bsLen := rfl
@[simp] theorem State.putTmp_mbX : (s.putTmp p x y w h f).mbX = s.mbX := rfl
@[simp] theorem State.putTmp_mbY : (s.putTmp p x y w h f).mbY = s.mbY := rfl
@[simp] theorem State.putTmp_vlcReady : (s.putTmp p x y w h f).vlcReady = s.vlcReady := rfl
@[simp] theorem State.putTmp_engine : (s.putTmp p x y w h f).engine = s.engine := rfl
@[simp] theorem State.putTmp_errKind : (s.putTmp p x y w h f).errKind = s.errKind := rfl
@[simp] theorem State.putTmp_errMbX : (s.putTmp p x y w h f).errMbX = s.errMbX := rfl
@[simp] theorem State.putTmp_errMbY : (s.putTmp p x y w h f).errMbY = s.errMbY := rfl
@[simp] theorem State.putTmp_errBitpos : (s.putTmp p x y w h f).errBitpos = s.errBitpos := rfl
@[simp] theorem State.putTmp_cr0 : (s.putTmp p x y w h f).cr0 = s.cr0 := rfl
@[simp] theorem State.putTmp_cr1 : (s.putTmp p x y w h f).cr1 = s.cr1 := rfl
@[simp] theorem State.putTmp_cr2 : (s.putTmp p x y w h f).cr2 = s.cr2 := rfl
@[simp] theorem State.putTmp_cr3 : (s.putTmp p x y w h f).cr3 = s.cr3 := rfl
@[simp] theorem State.putTmp_skipRun : (s.putTmp p x y w h f).skipRun = s.skipRun := rfl
@[simp] theorem State.putTmp_cr9 : (s.putTmp p x y w h f).cr9 = s.cr9 := rfl
@[simp] theorem State.putTmp_cr10 : (s.putTmp p x y w h f).cr10 = s.cr10 := rfl
@[simp] theorem State.putTmp_cr11 : (s.putTmp p x y w h f).cr11 = s.cr11 := rfl
@[simp] theorem State.putTmp_cache : (s.putTmp p x y w h f).cache = s.cache := rfl
@[simp] theorem State.putTmp_tabs : (s.putTmp p x y w h f).tabs = s.tabs := rfl
@[simp] theorem State.putTmp_coefs : (s.putTmp p x y w h f).coefs = s.coefs := rfl
@[simp] theorem State.putTmp_mc : (s.putTmp p x y w h f).mc = s.mc := rfl
@[simp] theorem State.putTmp_pcm : (s.putTmp p x y w h f).pcm = s.pcm := rfl
@[simp] theorem State.putTmp_nbAvail : (s.putTmp p x y w h f).nbAvail = s.nbAvail := rfl
@[simp] theorem State.putTmp_nbIntra : (s.putTmp p x y w h f).nbIntra = s.nbIntra := rfl
@[simp] theorem State.putTmp_chromaQp : (s.putTmp p x y w h f).chromaQp = s.chromaQp := rfl
@[simp] theorem State.putTmp_bs : (s.putTmp p x y w h f).bs = s.bs := rfl
@[simp] theorem State.putTmp_bsGen : (s.putTmp p x y w h f).bsGen = s.bsGen := rfl
@[simp] theorem State.putTmp_pic : (s.putTmp p x y w h f).pic = s.pic := rfl
@[simp] theorem State.putTmp_refs : (s.putTmp p x y w h f).refs = s.refs := rfl
@[simp] theorem State.putTmp_port : (s.putTmp p x y w h f).port = s.port := rfl
@[simp] theorem State.putTmp_status : (s.putTmp p x y w h f).status = s.status := rfl
@[simp] theorem State.putTmp_hostBuf : (s.putTmp p x y w h f).hostBuf = s.hostBuf := rfl
@[simp] theorem State.putTmp_freeCtr : (s.putTmp p x y w h f).freeCtr = s.freeCtr := rfl

end Puttmp

section Advancemb

variable (s : State)

@[simp] theorem State.advanceMb_totalCoeff : s.advanceMb.totalCoeff = s.totalCoeff := rfl
@[simp] theorem State.advanceMb_trailingOnes : s.advanceMb.trailingOnes = s.trailingOnes := rfl
@[simp] theorem State.advanceMb_level : s.advanceMb.level = s.level := rfl
@[simp] theorem State.advanceMb_levelIdx : s.advanceMb.levelIdx = s.levelIdx := rfl
@[simp] theorem State.advanceMb_suffixLength : s.advanceMb.suffixLength = s.suffixLength := rfl
@[simp] theorem State.advanceMb_zerosLeft : s.advanceMb.zerosLeft = s.zerosLeft := rfl
@[simp] theorem State.advanceMb_runBefore : s.advanceMb.runBefore = s.runBefore := rfl
@[simp] theorem State.advanceMb_maxCoeff : s.advanceMb.maxCoeff = s.maxCoeff := rfl
@[simp] theorem State.advanceMb_blk : s.advanceMb.blk = s.blk := rfl
@[simp] theorem State.advanceMb_mb : s.advanceMb.mb = Mb.undef := rfl
@[simp] theorem State.advanceMb_pmx : s.advanceMb.pmx = s.pmx := rfl
@[simp] theorem State.advanceMb_pmy : s.advanceMb.pmy = s.pmy := rfl
@[simp] theorem State.advanceMb_pnnz : s.advanceMb.pnnz = s.pnnz := rfl
@[simp] theorem State.advanceMb_pmode : s.advanceMb.pmode = s.pmode := rfl
@[simp] theorem State.advanceMb_res : s.advanceMb.res = s.res := rfl
@[simp] theorem State.advanceMb_bitpos : s.advanceMb.bitpos = s.bitpos := rfl
@[simp] theorem State.advanceMb_bsLen : s.advanceMb.bsLen = s.bsLen := rfl
@[simp] theorem State.advanceMb_vlcReady : s.advanceMb.vlcReady = s.vlcReady := rfl
@[simp] theorem State.advanceMb_errKind : s.advanceMb.errKind = s.errKind := rfl
@[simp] theorem State.advanceMb_errMbX : s.advanceMb.errMbX = s.errMbX := rfl
@[simp] theorem State.advanceMb_errMbY : s.advanceMb.errMbY = s.errMbY := rfl
@[simp] theorem State.advanceMb_errBitpos : s.advanceMb.errBitpos = s.errBitpos := rfl
@[simp] theorem State.advanceMb_cr0 : s.advanceMb.cr0 = s.cr0 := rfl
@[simp] theorem State.advanceMb_cr1 : s.advanceMb.cr1 = s.cr1 := rfl
@[simp] theorem State.advanceMb_cr2 : s.advanceMb.cr2 = s.cr2 := rfl
@[simp] theorem State.advanceMb_cr3 : s.advanceMb.cr3 = s.cr3 := rfl
@[simp] theorem State.advanceMb_skipRun : s.advanceMb.skipRun = s.skipRun := rfl
@[simp] theorem State.advanceMb_cr9 : s.advanceMb.cr9 = s.cr9 := rfl
@[simp] theorem State.advanceMb_cr10 : s.advanceMb.cr10 = s.cr10 := rfl
@[simp] theorem State.advanceMb_cr11 : s.advanceMb.cr11 = s.cr11 := rfl
@[simp] theorem State.advanceMb_cache : s.advanceMb.cache = s.cache := rfl
@[simp] theorem State.advanceMb_tabs : s.advanceMb.tabs = s.tabs := rfl
@[simp] theorem State.advanceMb_coefs : s.advanceMb.coefs = s.coefs := rfl
@[simp] theorem State.advanceMb_mc : s.advanceMb.mc = s.mc := rfl
@[simp] theorem State.advanceMb_tmp : s.advanceMb.tmp = s.tmp := rfl
@[simp] theorem State.advanceMb_pcm : s.advanceMb.pcm = s.pcm := rfl
@[simp] theorem State.advanceMb_nbAvail : s.advanceMb.nbAvail = s.nbAvail := rfl
@[simp] theorem State.advanceMb_nbIntra : s.advanceMb.nbIntra = s.nbIntra := rfl
@[simp] theorem State.advanceMb_chromaQp : s.advanceMb.chromaQp = s.chromaQp := rfl
@[simp] theorem State.advanceMb_bs : s.advanceMb.bs = s.bs := rfl
@[simp] theorem State.advanceMb_bsGen : s.advanceMb.bsGen = s.bsGen := rfl
@[simp] theorem State.advanceMb_pic : s.advanceMb.pic = s.pic := rfl
@[simp] theorem State.advanceMb_refs : s.advanceMb.refs = s.refs := rfl
@[simp] theorem State.advanceMb_port : s.advanceMb.port = s.port := rfl
@[simp] theorem State.advanceMb_status : s.advanceMb.status = s.status := rfl
@[simp] theorem State.advanceMb_hostBuf : s.advanceMb.hostBuf = s.hostBuf := rfl
@[simp] theorem State.advanceMb_freeCtr : s.advanceMb.freeCtr = s.freeCtr := rfl

end Advancemb

/-! ### When a skip run is too long (43_mb_type_motion.md R302, 60_exceptions.md R471) -/

/-- A run that the rest of the picture holds is none. -/
theorem State.skipRunTooLong_fits {s : State} {k : Nat} (h : k ≤ s.mbsLeft) : s.skipRunTooLong k = false := by
  have : s.mbsLeft ≤ s.picW * s.picH := Nat.sub_le ..
  simp only [State.skipRunTooLong, Bool.or_eq_false_iff, Bool.and_eq_false_iff, decide_eq_false_iff_not]
  exact ⟨by omega, .inl (by omega)⟩

/-- A run longer than the picture is one. -/
theorem State.skipRunTooLong_over {s : State} {k : Nat} (h : s.picW * s.picH < k) : s.skipRunTooLong k = true := by
  simp only [State.skipRunTooLong, decide_eq_true h, Bool.true_or]

/-- A run that is too long is longer than the rest of the picture. -/
theorem State.mbsLeft_lt_of_tooLong {s : State} {k : Nat} (h : s.skipRunTooLong k = true) : s.mbsLeft < k := by
  refine Nat.lt_of_not_le fun hk => ?_
  rw [State.skipRunTooLong_fits hk] at h
  cases h

end Sys2Proof.Machine
end

