-- ==== Sys2Proof/Tests/Slice0.lean ====
section
/-! SUPPORT. Tests: words and vectors of the spec, one ill-formed term for each check of `Instr.wellFormed`, and for each
statement with hypotheses a witness that meets them. Expected values come from spec/ (its file or rule is named). -/

namespace Sys2Proof.Tests

-- one theorem after another: many at once ask for more threads than the memory limit allows
set_option Elab.async false

open Sys2Proof Sys2Proof.Machine Sys2Proof.Stated

/-- The `len` bits of `v`, written first bit first. -/
def w (len v : Nat) : List Bool := (List.range len).map fun j => v.testBit (len - 1 - j)

/-- The answer is this. -/
def gives {α : Type} [DecidableEq α] (r : Except DecodeError α) (a : α) : Bool :=
  match r with
  | .ok b => decide (b = a)
  | .error _ => false

/-- The answer is this error. -/
def fails {α : Type} (r : Except DecodeError α) (e : DecodeError) : Bool :=
  match r with
  | .ok _ => false
  | .error f => decide (f = e)

/-- Each bit string, read where its element is expected, is its instruction, takes every bit, and is its encoding. -/
def spell (l : List (ElemCtx × List Bool × Instr)) : Bool :=
  l.all fun e => gives (decodeBits e.1 e.2.1) (e.2.2, []) && decide (encode e.2.2 = e.2.1)

/-- Each command word decodes to its instruction and is its encoding. -/
def words (l : List (Command × Instr)) : Bool :=
  l.all fun e => gives (decodeWord e.1) e.2 && decide (encodeWord e.2 = some e.1)

/-! ### Decoding: words of 30_encoding.md R102 -/

/-- 0x01 to 0x0F. -/
theorem test_decode_host_and_reader : words [
    (0x0100000000000000#64, .vlcInit), (0x0200000000000000#64, .reset), (0x03030000_0000001A#64, .crWrite 3 26),
    (0x040D0000_00000000#64, .crRead 13), (0x05010140_00001000#64, .tabWrite 1 1 0x40 4096),
    (0x06000000_00000018#64, .bsLoad 24), (0x07000000_00000007#64, .bsSeek 7), (0x08030000_00000000#64, .peek 3),
    (0x09200000_00000000#64, .skip 32), (0x0A010000_00000000#64, .read 1), (0x0B000000_00000000#64, .readUe),
    (0x0C000000_00000000#64, .readSe), (0x0D200000_00000000#64, .readTe 32), (0x0E000000_00000000#64, .align),
    (0x0F000000_00000000#64, .bitsLeft)] = true := by decide +kernel

/-- 0x10 to 0x33. -/
theorem test_decode_residual_and_slice : words [
    (0x10050000_00000000#64, .readCoeffToken 5), (0x11000000_00000000#64, .readTrailingSigns),
    (0x12000000_00000000#64, .readLevel), (0x13000000_00000000#64, .readTotalZeros),
    (0x14000000_00000000#64, .readRunBefore), (0x18000010_80000014#64, .decodeResidual 0 0 16 0x80000014#32),
    (0x18050210_20100000#64, .decodeResidual 5 2 16 0x20100000#32), (0x20000000_00000000#64, .cacheFill),
    (0x21170000_00000000#64, .predNnz 23), (0x220F0401_0000001F#64, .predMv 15 4 1 31),
    (0x23080001_00000002#64, .predMv16x8 8 1 2), (0x24040001_00000002#64, .predMv8x16 4 1 2),
    (0x25000000_00000000#64, .predMvPskip), (0x260F0000_00000000#64, .predI4Mode 15),
    (0x27000000_00000000#64, .cacheWriteback), (0x30000000_00020003#64, .sliceStart 0x00020003#32),
    (0x31000000_00000000#64, .mbDecode), (0x32000000_00000000#64, .mbRecon), (0x33000000_00000000#64, .sliceEnd)]
      = true := by decide +kernel

/-- 0x38 to 0x56: the phase is x + 4 * y. -/
theorem test_decode_motion : words [
    (0x38030000_FFFFFFFE#64, .mcSet 3 0xFFFFFFFE#32), (0x40000000_00000000#64, .qpelMc00),
    (0x41000000_00000000#64, .qpelMc10), (0x42000000_00000000#64, .qpelMc20), (0x43000000_00000000#64, .qpelMc30),
    (0x44000000_00000000#64, .qpelMc01), (0x45000000_00000000#64, .qpelMc11), (0x46000000_00000000#64, .qpelMc21),
    (0x47000000_00000000#64, .qpelMc31), (0x48000000_00000000#64, .qpelMc02), (0x49000000_00000000#64, .qpelMc12),
    (0x4A000000_00000000#64, .qpelMc22), (0x4B000000_00000000#64, .qpelMc32), (0x4C000000_00000000#64, .qpelMc03),
    (0x4D000000_00000000#64, .qpelMc13), (0x4E000000_00000000#64, .qpelMc23), (0x4F000000_00000000#64, .qpelMc33),
    (0x50020000_00000000#64, .mcChroma 2), (0x5102011F_00000000#64, .weightUni 2 1 31),
    (0x52001F03_00000000#64, .weightBi 0 31 3), (0x540C0808_00000000#64, .mcPart 12 8 8),
    (0x55000000_00000000#64, .implicitWeight), (0x56010200_0000001F#64, .waitRow 1 2 31)] = true := by decide +kernel

/-- 0x60 to 0x67. -/
theorem test_decode_transforms : words [
    (0x60170000_00000000#64, .idct4Add 23), (0x61000000_00000000#64, .idct4DcAdd 0), (0x62030000_00000000#64, .idct8Add 3),
    (0x63020000_00000000#64, .idct8DcAdd 2), (0x64000000_00000280#64, .lumaDcDequantIdct 640),
    (0x65010000_00000080#64, .chromaDcDequantIdct 1 128), (0x66010000_FFFFFFFF#64, .chroma422DcDequantIdct 1 0xFFFFFFFF#32),
    (0x67031400_00000000#64, .intraPred 3 20)] = true := by decide +kernel

/-- Words that are no instruction (R101, R104; 95 V-CR): reserved opcodes, a bit in an unused field, an operand outside
its set. -/
theorem test_decode_refuses :
    [0x00#8, 0x15#8, 0x17#8, 0x19#8, 0x1F#8, 0x28#8, 0x2F#8, 0x34#8, 0x37#8, 0x39#8, 0x3F#8, 0x53#8, 0x57#8, 0x5F#8, 0x68#8,
      0xFF#8].all (fun op => fails (decodeWord (mkWord op 0 0 0 0)) .unknownOpcode) = true
    ∧ fails (decodeWord 0x0100000100000000#64) .unusedField = true ∧ fails (decodeWord 0x2300010000000000#64) .unusedField = true
    ∧ fails (decodeWord 0x040E000000000000#64) .operand = true ∧ fails (decodeWord 0x0821000000000000#64) .operand = true := by
  decide +kernel

/-! ### Decoding: codewords of the bitstream elements -/

/-- The 26 intra entries in an I slice (43_mb_type_motion.md R306). -/
theorem test_decode_i_mb_types : spell [
    (.mbType .i, (w 1 0b1), .iMbType0 .i),
    (.mbType .i, (w 3 0b010), .iMbType1 .i),
    (.mbType .i, (w 3 0b011), .iMbType2 .i),
    (.mbType .i, (w 5 0b00100), .iMbType3 .i),
    (.mbType .i, (w 5 0b00101), .iMbType4 .i),
    (.mbType .i, (w 5 0b00110), .iMbType5 .i),
    (.mbType .i, (w 5 0b00111), .iMbType6 .i),
    (.mbType .i, (w 7 0b0001000), .iMbType7 .i),
    (.mbType .i, (w 7 0b0001001), .iMbType8 .i),
    (.mbType .i, (w 7 0b0001010), .iMbType9 .i),
    (.mbType .i, (w 7 0b0001011), .iMbType10 .i),
    (.mbType .i, (w 7 0b0001100), .iMbType11 .i),
    (.mbType .i, (w 7 0b0001101), .iMbType12 .i),
    (.mbType .i, (w 7 0b0001110), .iMbType13 .i),
    (.mbType .i, (w 7 0b0001111), .iMbType14 .i),
    (.mbType .i, (w 9 0b000010000), .iMbType15 .i),
    (.mbType .i, (w 9 0b000010001), .iMbType16 .i),
    (.mbType .i, (w 9 0b000010010), .iMbType17 .i),
    (.mbType .i, (w 9 0b000010011), .iMbType18 .i),
    (.mbType .i, (w 9 0b000010100), .iMbType19 .i),
    (.mbType .i, (w 9 0b000010101), .iMbType20 .i),
    (.mbType .i, (w 9 0b000010110), .iMbType21 .i),
    (.mbType .i, (w 9 0b000010111), .iMbType22 .i),
    (.mbType .i, (w 9 0b000011000), .iMbType23 .i),
    (.mbType .i, (w 9 0b000011001), .iMbType24 .i),
    (.mbType .i, (w 9 0b000011010), .iMbType25 .i)] = true := by decide +kernel

/-- Intra entries moved up by 5 and by 23 (R305; 95 V-MB). -/
theorem test_decode_intra_in_p_and_b : spell [
    (.mbType .p, (w 5 0b00110), .iMbType0 .p),
    (.mbType .p, (w 9 0b000011111), .iMbType25 .p),
    (.mbType .b, (w 9 0b000011000), .iMbType0 .b),
    (.mbType .b, (w 11 0b00000110001), .iMbType25 .b)] = true := by decide +kernel

/-- The P entries (R307). -/
theorem test_decode_p_mb_types : spell [
    (.mbType .p, (w 1 0b1), .pMbType0),
    (.mbType .p, (w 3 0b010), .pMbType1),
    (.mbType .p, (w 3 0b011), .pMbType2),
    (.mbType .p, (w 5 0b00100), .pMbType3),
    (.mbType .p, (w 5 0b00101), .pMbType4)] = true := by decide +kernel

/-- The B entries (R308). -/
theorem test_decode_b_mb_types : spell [
    (.mbType .b, (w 1 0b1), .bMbType0),
    (.mbType .b, (w 3 0b010), .bMbType1),
    (.mbType .b, (w 3 0b011), .bMbType2),
    (.mbType .b, (w 5 0b00100), .bMbType3),
    (.mbType .b, (w 5 0b00101), .bMbType4),
    (.mbType .b, (w 5 0b00110), .bMbType5),
    (.mbType .b, (w 5 0b00111), .bMbType6),
    (.mbType .b, (w 7 0b0001000), .bMbType7),
    (.mbType .b, (w 7 0b0001001), .bMbType8),
    (.mbType .b, (w 7 0b0001010), .bMbType9),
    (.mbType .b, (w 7 0b0001011), .bMbType10),
    (.mbType .b, (w 7 0b0001100), .bMbType11),
    (.mbType .b, (w 7 0b0001101), .bMbType12),
    (.mbType .b, (w 7 0b0001110), .bMbType13),
    (.mbType .b, (w 7 0b0001111), .bMbType14),
    (.mbType .b, (w 9 0b000010000), .bMbType15),
    (.mbType .b, (w 9 0b000010001), .bMbType16),
    (.mbType .b, (w 9 0b000010010), .bMbType17),
    (.mbType .b, (w 9 0b000010011), .bMbType18),
    (.mbType .b, (w 9 0b000010100), .bMbType19),
    (.mbType .b, (w 9 0b000010101), .bMbType20),
    (.mbType .b, (w 9 0b000010110), .bMbType21),
    (.mbType .b, (w 9 0b000010111), .bMbType22)] = true := by decide +kernel

/-- The sub-types, in one quadrant each (R309). -/
theorem test_decode_sub_mb_types : spell [
    (.subMbType .p 0, (w 1 0b1), .pSubMbType0 0),
    (.subMbType .p 1, (w 3 0b010), .pSubMbType1 1),
    (.subMbType .p 2, (w 3 0b011), .pSubMbType2 2),
    (.subMbType .p 3, (w 5 0b00100), .pSubMbType3 3),
    (.subMbType .b 0, (w 1 0b1), .bSubMbType0 0),
    (.subMbType .b 1, (w 3 0b010), .bSubMbType1 1),
    (.subMbType .b 2, (w 3 0b011), .bSubMbType2 2),
    (.subMbType .b 3, (w 5 0b00100), .bSubMbType3 3),
    (.subMbType .b 0, (w 5 0b00101), .bSubMbType4 0),
    (.subMbType .b 1, (w 5 0b00110), .bSubMbType5 1),
    (.subMbType .b 2, (w 5 0b00111), .bSubMbType6 2),
    (.subMbType .b 3, (w 7 0b0001000), .bSubMbType7 3),
    (.subMbType .b 0, (w 7 0b0001001), .bSubMbType8 0),
    (.subMbType .b 1, (w 7 0b0001010), .bSubMbType9 1),
    (.subMbType .b 2, (w 7 0b0001011), .bSubMbType10 2),
    (.subMbType .b 3, (w 7 0b0001100), .bSubMbType11 3),
    (.subMbType .b 0, (w 7 0b0001101), .bSubMbType12 0)] = true := by decide +kernel

/-- First, middle and last codeword of the six token tables (31_vlc_tables.md R141 to R146). -/
theorem test_decode_coeff_tokens : spell [
    (.token 0, (w 1 0b1), .coeffToken0 0 0),
    (.token 0, (w 14 0b00000000001110), .coeffToken0 1 9),
    (.token 0, (w 16 0b0000000000001000), .coeffToken0 3 16),
    (.token 1, (w 2 0b11), .coeffToken1 0 0),
    (.token 1, (w 11 0b00000001010), .coeffToken1 1 9),
    (.token 1, (w 14 0b00000000000100), .coeffToken1 3 16),
    (.token 2, (w 4 0b1111), .coeffToken2 0 0),
    (.token 2, (w 8 0b00001110), .coeffToken2 1 9),
    (.token 2, (w 10 0b0000000010), .coeffToken2 3 16),
    (.token 3, (w 6 0b000011), .coeffToken3 0 0),
    (.token 3, (w 6 0b100001), .coeffToken3 1 9),
    (.token 3, (w 6 0b111111), .coeffToken3 3 16),
    (.token 4, (w 2 0b01), .chromaDcCoeffToken 0 0),
    (.token 4, (w 7 0b0000011), .chromaDcCoeffToken 1 3),
    (.token 4, (w 7 0b0000000), .chromaDcCoeffToken 3 4),
    (.token 5, (w 1 0b1), .chroma422DcCoeffToken 0 0),
    (.token 5, (w 10 0b0000000110), .chroma422DcCoeffToken 1 5),
    (.token 5, (w 11 0b00000000100), .chroma422DcCoeffToken 3 8)] = true := by decide +kernel

/-- Three codewords of each total-zeros table (R147, R148). -/
theorem test_decode_total_zeros : spell [
    (.zeros 1, (w 1 0b1), .totalZeros1 0),
    (.zeros 1, (w 6 0b000010), .totalZeros1 8),
    (.zeros 1, (w 9 0b000000001), .totalZeros1 15),
    (.zeros 2, (w 3 0b111), .totalZeros2 0),
    (.zeros 2, (w 4 0b0011), .totalZeros2 7),
    (.zeros 2, (w 6 0b000000), .totalZeros2 14),
    (.zeros 3, (w 4 0b0101), .totalZeros3 0),
    (.zeros 3, (w 3 0b011), .totalZeros3 7),
    (.zeros 3, (w 6 0b000000), .totalZeros3 13),
    (.zeros 4, (w 5 0b00011), .totalZeros4 0),
    (.zeros 4, (w 3 0b100), .totalZeros4 6),
    (.zeros 4, (w 5 0b00000), .totalZeros4 12),
    (.zeros 5, (w 4 0b0101), .totalZeros5 0),
    (.zeros 5, (w 3 0b100), .totalZeros5 6),
    (.zeros 5, (w 5 0b00000), .totalZeros5 11),
    (.zeros 6, (w 6 0b000001), .totalZeros6 0),
    (.zeros 6, (w 3 0b100), .totalZeros6 5),
    (.zeros 6, (w 6 0b000000), .totalZeros6 10),
    (.zeros 7, (w 6 0b000001), .totalZeros7 0),
    (.zeros 7, (w 2 0b11), .totalZeros7 5),
    (.zeros 7, (w 6 0b000000), .totalZeros7 9),
    (.zeros 8, (w 6 0b000001), .totalZeros8 0),
    (.zeros 8, (w 2 0b11), .totalZeros8 4),
    (.zeros 8, (w 6 0b000000), .totalZeros8 8),
    (.zeros 9, (w 6 0b000001), .totalZeros9 0),
    (.zeros 9, (w 2 0b10), .totalZeros9 4),
    (.zeros 9, (w 5 0b00001), .totalZeros9 7),
    (.zeros 10, (w 5 0b00001), .totalZeros10 0),
    (.zeros 10, (w 2 0b11), .totalZeros10 3),
    (.zeros 10, (w 4 0b0001), .totalZeros10 6),
    (.zeros 11, (w 4 0b0000), .totalZeros11 0),
    (.zeros 11, (w 3 0b010), .totalZeros11 3),
    (.zeros 11, (w 3 0b011), .totalZeros11 5),
    (.zeros 12, (w 4 0b0000), .totalZeros12 0),
    (.zeros 12, (w 2 0b01), .totalZeros12 2),
    (.zeros 12, (w 3 0b001), .totalZeros12 4),
    (.zeros 13, (w 3 0b000), .totalZeros13 0),
    (.zeros 13, (w 1 0b1), .totalZeros13 2),
    (.zeros 13, (w 2 0b01), .totalZeros13 3),
    (.zeros 14, (w 2 0b00), .totalZeros14 0),
    (.zeros 14, (w 2 0b01), .totalZeros14 1),
    (.zeros 14, (w 1 0b1), .totalZeros14 2),
    (.zeros 15, (w 1 0b0), .totalZeros15 0),
    (.zeros 15, (w 1 0b1), .totalZeros15 1)] = true := by decide +kernel

/-- The same for the chroma DC tables (R149). -/
theorem test_decode_chroma_total_zeros : spell [
    (.chromaDcZeros 1, (w 1 0b1), .chromaDcTotalZeros1 0),
    (.chromaDcZeros 1, (w 3 0b001), .chromaDcTotalZeros1 2),
    (.chromaDcZeros 1, (w 3 0b000), .chromaDcTotalZeros1 3),
    (.chromaDcZeros 2, (w 1 0b1), .chromaDcTotalZeros2 0),
    (.chromaDcZeros 2, (w 2 0b01), .chromaDcTotalZeros2 1),
    (.chromaDcZeros 2, (w 2 0b00), .chromaDcTotalZeros2 2),
    (.chromaDcZeros 3, (w 1 0b1), .chromaDcTotalZeros3 0),
    (.chromaDcZeros 3, (w 1 0b0), .chromaDcTotalZeros3 1),
    (.chroma422DcZeros 1, (w 1 0b1), .chroma422DcTotalZeros1 0),
    (.chroma422DcZeros 1, (w 4 0b0011), .chroma422DcTotalZeros1 4),
    (.chroma422DcZeros 1, (w 5 0b00000), .chroma422DcTotalZeros1 7),
    (.chroma422DcZeros 2, (w 3 0b000), .chroma422DcTotalZeros2 0),
    (.chroma422DcZeros 2, (w 3 0b100), .chroma422DcTotalZeros2 3),
    (.chroma422DcZeros 2, (w 3 0b111), .chroma422DcTotalZeros2 6),
    (.chroma422DcZeros 3, (w 3 0b000), .chroma422DcTotalZeros3 0),
    (.chroma422DcZeros 3, (w 2 0b10), .chroma422DcTotalZeros3 3),
    (.chroma422DcZeros 3, (w 3 0b111), .chroma422DcTotalZeros3 5),
    (.chroma422DcZeros 4, (w 3 0b110), .chroma422DcTotalZeros4 0),
    (.chroma422DcZeros 4, (w 2 0b01), .chroma422DcTotalZeros4 2),
    (.chroma422DcZeros 4, (w 3 0b111), .chroma422DcTotalZeros4 4),
    (.chroma422DcZeros 5, (w 2 0b00), .chroma422DcTotalZeros5 0),
    (.chroma422DcZeros 5, (w 2 0b10), .chroma422DcTotalZeros5 2),
    (.chroma422DcZeros 5, (w 2 0b11), .chroma422DcTotalZeros5 3),
    (.chroma422DcZeros 6, (w 2 0b00), .chroma422DcTotalZeros6 0),
    (.chroma422DcZeros 6, (w 2 0b01), .chroma422DcTotalZeros6 1),
    (.chroma422DcZeros 6, (w 1 0b1), .chroma422DcTotalZeros6 2),
    (.chroma422DcZeros 7, (w 1 0b0), .chroma422DcTotalZeros7 0),
    (.chroma422DcZeros 7, (w 1 0b1), .chroma422DcTotalZeros7 1)] = true := by decide +kernel

/-- The same for the run tables (R150, R151). -/
theorem test_decode_run_before : spell [
    (.run 1, (w 1 0b1), .runBefore1 0),
    (.run 1, (w 1 0b0), .runBefore1 1),
    (.run 2, (w 1 0b1), .runBefore2 0),
    (.run 2, (w 2 0b01), .runBefore2 1),
    (.run 2, (w 2 0b00), .runBefore2 2),
    (.run 3, (w 2 0b11), .runBefore3 0),
    (.run 3, (w 2 0b01), .runBefore3 2),
    (.run 3, (w 2 0b00), .runBefore3 3),
    (.run 4, (w 2 0b11), .runBefore4 0),
    (.run 4, (w 2 0b01), .runBefore4 2),
    (.run 4, (w 3 0b000), .runBefore4 4),
    (.run 5, (w 2 0b11), .runBefore5 0),
    (.run 5, (w 3 0b010), .runBefore5 3),
    (.run 5, (w 3 0b000), .runBefore5 5),
    (.run 6, (w 2 0b11), .runBefore6 0),
    (.run 6, (w 3 0b011), .runBefore6 3),
    (.run 6, (w 3 0b100), .runBefore6 6),
    (.run 7, (w 3 0b111), .run7 0),
    (.run 7, (w 4 0b0001), .run7 7),
    (.run 7, (w 11 0b00000000001), .run7 14)] = true := by decide +kernel

/-- The codes of the grammar (30_encoding.md R110 to R115). -/
theorem test_decode_grammar_codes : spell [
    (.u 5, (w 5 0b00110), .elemU 5 6),
    (.u 0, (w 0 0b0), .elemU 0 0),
    (.u 32, (w 32 0b11111111111111111111111111111110), .elemU 32 4294967294),
    (.ue, (w 1 0b1), .elemUe 0),
    (.ue, (w 7 0b0001000), .elemUe 7),
    (.se, (w 5 0b00110), .elemSe 3),
    (.se, (w 5 0b00111), .elemSe (-3)),
    (.te 1, (w 0 0b0), .elemTe1),
    (.te 2, (w 1 0b0), .elemTe2 1),
    (.te 2, (w 1 0b1), .elemTe2 0),
    (.te 3, (w 3 0b011), .elemTeN 3 2),
    (.levelPrefix, (w 4 0b0001), .levelPrefix 3),
    (.levelPrefix, (w 29 0b00000000000000000000000000001), .levelPrefix 28),
    (.levelSuffix 4, (w 4 0b1010), .levelSuffix 4 10),
    (.sign, (w 1 0b0), .trailingOnesSign false),
    (.sign, (w 1 0b1), .trailingOnesSign true)] = true := by decide +kernel

/-- Bits that spell no element: no codeword (95 V-CT), no macroblock type (V-MB), 32 zeros, and bits that end early. -/
theorem test_decode_refuses_codewords :
    fails (decodeBits (.token 3) (w 6 0b000010)) .noCodeword = true ∧ fails (decodeBits (.token 0) (w 4 0)) .noCodeword = true
      ∧ fails (decodeBits (.token 0) (w 6 0b000001)) .truncated = true ∧ fails (decodeBits (.run 7) (w 11 0)) .noCodeword = true
      ∧ fails (decodeBits (.mbType .i) (w 9 0b000011011)) .noEntry = true
      ∧ fails (decodeBits (.mbType .p) (w 11 0b00000100000)) .noEntry = true
      ∧ fails (decodeBits (.subMbType .p 1) (w 5 0b00101)) .noEntry = true ∧ fails (decodeBits .ue (w 32 0)) .longRun = true
      ∧ fails (decodeBits (.u 33) (w 40 0)) .operand = true ∧ fails (decodeBits (.te 33) (w 40 1)) .operand = true
      ∧ fails (decodeBits .se (w 4 0b0010)) .truncated = true := by decide +kernel

/-! ### Well-formedness: one ill-formed term for each check -/

/-- Operands of commands just outside their legal sets (R102), which the check refuses. -/
theorem test_illformed_commands :
    ([.crWrite 4 0, .crWrite 12 0, .crRead 14, .tabWrite 9 0 0 0, .bsLoad 0x80000000#32, .peek 33, .skip 33, .read 33,
      .readTe 0, .readTe 33, .readCoeffToken 6, .decodeResidual 27 0 16 0, .decodeResidual 3 0 4 0,
      .decodeResidual 25 0 15 0, .decodeResidual 0 8 16 0, .decodeResidual 0 0 16 0x01000000#32,
      .decodeResidual 0 0 16 0x00310000#32, .decodeResidual 0 0 16 0x86000000#32, .decodeResidual 0 0 15 0x20000000#32,
      .decodeResidual 16 0 16 0x20000000#32, .decodeResidual 0 0 16 0x00000080#32, .predNnz 24, .predMv 16 1 0 0,
      .predMv 0 3 0 0, .predMv 0 1 2 0, .predMv 0 1 0 32, .predMv16x8 4 0 0, .predMv16x8 0 2 0, .predMv16x8 0 0 32,
      .predMv8x16 8 0 0, .predMv8x16 0 2 0, .predMv8x16 0 0 32, .predI4Mode 16, .mcSet 12 0, .mcSet 0 0x10000#32,
      .mcSet 1 0x10000#32, .mcSet 4 6, .mcSet 5 32, .mcSet 6 2, .mcSet 7 32, .mcSet 8 2, .mcSet 9 8, .mcSet 10 8,
      .mcSet 11 2, .mcChroma 0, .mcChroma 3, .weightUni 3 0 0, .weightUni 0 2 0, .weightUni 0 0 32, .weightBi 3 0 0,
      .weightBi 0 32 0, .weightBi 0 0 32, .mcPart 16 4 4, .mcPart 0 2 4, .mcPart 0 4 12, .mcPart 5 8 8, .mcPart 10 4 8,
      .waitRow 2 0 0, .waitRow 0 32 0, .idct4Add 24, .idct4DcAdd 24, .idct8Add 4, .idct8DcAdd 4,
      .chromaDcDequantIdct 2 0, .chroma422DcDequantIdct 2 0, .intraPred 4 0, .intraPred 0 16, .intraPred 1 1,
      .intraPred 2 4, .intraPred 3 0] : List Instr).all (fun i => !i.wellFormed) = true := by decide +kernel

/-- Values of elements that their code cannot spell. -/
theorem test_illformed_elements :
    ([.elemU 33 0, .elemU 3 8, .elemUe 0xFFFFFFFF, .elemSe (-0x80000000), .elemSe 0x80000000, .elemTe2 2, .elemTeN 2 0,
      .elemTeN 33 0, .elemTeN 3 0xFFFFFFFF, .levelPrefix 32, .levelSuffix 26 0, .levelSuffix 2 4, .coeffToken0 4 4,
      .coeffToken0 2 1, .coeffToken1 0 17, .coeffToken2 3 2, .coeffToken3 1 0, .chromaDcCoeffToken 0 5,
      .chroma422DcCoeffToken 0 9, .totalZeros1 16, .totalZeros15 2, .chromaDcTotalZeros1 4, .chroma422DcTotalZeros7 2,
      .runBefore1 2, .runBefore6 7, .run7 15] : List Instr).all (fun i => !i.wellFormed) = true := by decide +kernel

/-- Macroblock types past the end of their tables. -/
theorem test_illformed_mb_types :
    ([.iMb 26 .i, .pMb 5, .bMb 23, .pSub 4 0, .bSub 13 0] : List Element).all (fun e => !e.wellFormed) = true := by
  decide +kernel

/-! ### One step on a small state -/

/-- The step ends in a next state of which this holds. -/
def after (o : Host.Outcome State Fault Refusal) (p : State → Bool) : Bool :=
  match o with
  | .next t => p t
  | .fault _ => false
  | .refused _ => false

/-- The step ends in this fault. -/
def faults (o : Host.Outcome State Fault Refusal) (f : Fault) : Bool :=
  match o with
  | .next _ => false
  | .fault g => decide (g = f)
  | .refused _ => false

/-- `IDLE` with the tables built. -/
def ready : State := { State.reset with vlcReady := true }

/-- `RUN` of an I slice of a 1x1 picture, the reset configuration. -/
def running : State := { ready with engine := .run }

/-- The state with these bits in the buffer and the cursor at their start. -/
def stream (s : State) (bits : List Bool) : State := { s with bs := putBits [] 0 bits, bsLen := bits.length, bitpos := 0 }

/-- The buffer of 95_test_vectors.md V-BR. -/
def vbr : State := stream ready (w 40 0xB35A2801F0)

/-- The step of `i` completes, `RES` is `r` and the cursor stands at `pos`. -/
def reads (i : Instr) (s : State) (r : Word) (pos : Nat) : Bool :=
  after (exec i s) fun t => decide (t.status = .ended .ok ∧ t.res = some r ∧ t.bitpos = pos)

/-- The step of `i` ends with error kind `k`, the cursor at `pos`. -/
def raises (i : Instr) (s : State) (k : ErrKind) (pos : Nat) : Bool :=
  after (exec i s) fun t => decide (t.status = .ended k ∧ t.errKind = k ∧ t.bitpos = pos ∧ t.errBitpos.toNat = pos)

/-- The step of `i` is turned away: only the status changes. -/
def turnsAway (i : Instr) (s : State) : Bool := after (exec i s) fun t => decide (t = refusedBy s)

/-- V-BR 1 and 9. -/
theorem test_peek : (reads (.peek 3) vbr 5 0 && reads (.peek 32) { vbr with bitpos := 21 } 0x003E0000#32 21) = true := by
  decide +kernel

/-- V-BR 2, 13 and 14. -/
theorem test_read : (reads (.read 4) vbr 11 4 && raises (.read 1) { vbr with bitpos := 40 } .insufficientBits 40
    && reads (.read 0) { vbr with bitpos := 40 } 0 40) = true := by decide +kernel

/-- V-BR, more single cases: `SKIP 32` with 31 bits left. -/
theorem test_skip : (raises (.skip 32) { vbr with bitpos := 9 } .insufficientBits 9
    && after (exec (.skip 31) { vbr with bitpos := 9 }) fun t => decide (t.bitpos = 40 ∧ t.res = none)) = true := by
  decide +kernel

/-- V-BR 5 and 10. -/
theorem test_read_ue : (reads .readUe { vbr with bitpos := 10 } 2 13
    && raises .readUe { vbr with bitpos := 21 } .insufficientBits 32
    && raises .readUe (stream ready (w 32 0)) .corruptedSyntax 32) = true := by decide +kernel

/-- V-BR 6 and 7. -/
theorem test_read_se : (reads .readSe { vbr with bitpos := 13 } 1 16 && reads .readSe { vbr with bitpos := 16 } (-2) 21)
    = true := by decide +kernel

/-- `READ_TE` of 1, 2 and 3 candidates. -/
theorem test_read_te : (reads (.readTe 1) (stream ready []) 0 0 && reads (.readTe 2) (stream ready (w 1 0)) 1 1
    && reads (.readTe 3) (stream ready (w 3 0b011)) 2 3) = true := by decide +kernel

/-- `ALIGN` at 13, at 16, and at 13 of 14 bits. -/
theorem test_align :
    ((after (exec .align { vbr with bitpos := 13 }) fun t => decide (t.bitpos = 16))
    && (after (exec .align { vbr with bitpos := 16 }) fun t => decide (t.bitpos = 16))
    && after (exec .align { vbr with bitpos := 13, bsLen := 14 }) fun t => decide (t.bitpos = 14)) = true := by
  decide +kernel

/-- V-BR 8. -/
theorem test_bits_left : reads .bitsLeft { vbr with bitpos := 21 } 19 21 = true := by decide +kernel

/-- V-CT: `RES = 4 N + T` and the bits consumed. -/
theorem test_coeff_token : ([(0, w 1 1, 0, 1), (0, w 16 0b1000, 67, 16), (1, w 5 0b00111, 9, 5), (2, w 9 0b000001010, 49, 9),
    (3, w 6 0, 4, 6), (4, w 7 0, 19, 7), (5, w 13 0b0000000000111, 32, 13)] :
      List (BitVec 8 × List Bool × Nat × Nat)).all (fun e =>
      reads (.readCoeffToken e.1) (stream ready e.2.1) (BitVec.ofNat 32 e.2.2.1) e.2.2.2) = true := by decide +kernel

/-- V-CT: no codeword, and a codeword that runs past the end. -/
theorem test_coeff_token_errors : (raises (.readCoeffToken 3) (stream ready (w 6 0b000111)) .corruptedSyntax 0
    && raises (.readCoeffToken 0) (stream ready (w 4 0)) .corruptedSyntax 0
    && raises (.readCoeffToken 0) (stream ready (w 6 1)) .insufficientBits 0) = true := by decide +kernel

/-- A block of `n` coefficients of 16, `t` of them trailing ones. -/
def block (t n : Nat) (bits : List Bool) : State :=
  { stream ready bits with
    totalCoeff := some (BitVec.ofNat 5 n), trailingOnes := some (BitVec.ofNat 2 t), maxCoeff := some 16 }

/-- V-LV: T = 3, N = 3, bits 010; T = 1, N = 12, bit 1. -/
theorem test_trailing_signs :
    ((after (exec .readTrailingSigns (block 3 3 (w 3 0b010))) fun t =>
      decide (t.level = [(0, 1), (1, -1), (2, 1)] ∧ t.suffixLength = some 0 ∧ t.bitpos = 3))
    && after (exec .readTrailingSigns (block 1 12 (w 1 1))) fun t =>
      decide (t.level = [(0, -1)] ∧ t.suffixLength = some 1)) = true := by decide +kernel

/-- `READ_LEVEL` with suffix length `sl`, of the level after `t` trailing ones (`first`) or of a later one. -/
def levelAt (sl : BitVec 3) (first : Bool) (bits : List Bool) : State :=
  { block 0 12 bits with suffixLength := some sl, levelIdx := some (if first then 0 else 1) }

/-- V-LV: (suffix length, first, bits, level, suffix length after). -/
theorem test_read_level : ([(0, false, w 7 1, 4, 2), (0, true, w 4 1, -3, 1), (0, false, w 19 0b11111, -15, 2),
    (0, false, w 28 0x1000, 16, 2), (1, true, w 2 0b10, 2, 1), (2, false, w 4 0b0111, -4, 2), (3, false, w 7 0b0001000, 13, 4),
    (6, false, w 28 0x1FFF, -2528, 6)] : List (BitVec 3 × Bool × List Bool × Int × BitVec 3)).all (fun e =>
      after (exec .readLevel (levelAt e.1 e.2.1 e.2.2.1)) fun t =>
        decide (t.res = some (BitVec.ofInt 32 e.2.2.2.1) ∧ t.suffixLength = some e.2.2.2.2
          ∧ t.bitpos = e.2.2.1.length)) = true := by decide +kernel

/-- V-LV: twenty-nine zeros and a one; thirty-two zeros. -/
theorem test_read_level_prefix : (raises .readLevel (levelAt 1 false (w 60 0x40000000)) .invalidLevelPrefix 30
    && raises .readLevel (levelAt 1 false (w 60 0)) .invalidLevelPrefix 32) = true := by decide +kernel

/-- V-TZ: (N, MAX_COEFF, bits, zeros, consumed). -/
theorem test_total_zeros : ([(1, 16, w 9 1, 15, 9), (3, 16, w 4 0b0101, 0, 4), (8, 16, w 6 1, 0, 6), (16, 16, [], 0, 0),
    (15, 15, [], 0, 0), (1, 4, w 3 0, 3, 3), (1, 8, w 5 0, 7, 5), (4, 8, w 3 0b111, 4, 3)] :
      List (Nat × BitVec 5 × List Bool × Word × Nat)).all (fun e =>
      reads .readTotalZeros { block 0 e.1 e.2.2.1 with maxCoeff := some e.2.1 } e.2.2.2.1 e.2.2.2.2) = true := by
  decide +kernel

/-- V-RB: (ZEROS_LEFT, bits, run, ZEROS_LEFT after). -/
theorem test_run_before : ([(1, w 1 0, 1, 0), (6, w 3 0b100, 6, 0), (9, w 4 1, 7, 2), (14, w 11 1, 14, 0)] :
      List (BitVec 6 × List Bool × Word × BitVec 6)).all (fun e =>
      after (exec .readRunBefore { stream ready e.2.1 with zerosLeft := some e.1 }) fun t =>
        decide (t.res = some e.2.2.1 ∧ t.zerosLeft = some e.2.2.2 ∧ t.bitpos = e.2.1.length)) = true := by decide +kernel

/-- V-RB: a run longer than the zeros left (R224), and none left. -/
theorem test_run_before_errors :
    (raises .readRunBefore { stream ready (w 5 1) with zerosLeft := some 7 } .negativeZerosLeft 5
      && turnsAway .readRunBefore { ready with zerosLeft := some 0 }) = true := by decide +kernel

/-- Neighbour counts so that block 0 predicts count `2 * n` halved, and the zigzag scan (95 P1) in table 0. -/
def neighbours (s : State) (n : BitVec 8) : State :=
  { s with
    cache := { s.cache with nnz := [(4, n), (11, n)] }
    tabs := { s.tabs with
      scan := [(0, 0), (1, 1), (2, 4), (3, 8), (4, 5), (5, 2), (6, 3), (7, 6), (8, 9), (9, 12), (10, 13), (11, 10), (12, 7),
        (13, 11), (14, 14), (15, 15)] } }

/-- The block of 41_cavlc_residual.md R230, with a quantizer of 64 (95 P1, step 38). -/
def r230 : State :=
  let s := neighbours (stream running (w 24 0x08E5ED)) 64
  { s with tabs := { s.tabs with dequant4 := (List.range 16).map fun k => (320 + k, 4096#32) } }

/-- 95 P1, step 38. -/
theorem test_decode_residual : (after (exec (.decodeResidual 0 0 16 0x80000014#32) r230) fun t =>
    decide (t.coefs.coef = [(1, 192), (2, -64), (5, -64), (6, 64), (8, 64)] ∧ t.res = some 5 ∧ t.bitpos = 24
      ∧ Cells.look t.cache.nnz 12 = some 5 ∧ t.totalCoeff = none ∧ t.level = [])) = true := by decide +kernel

/-- 95 V-RES E7 (R224): the coefficient stored before the error stays. -/
theorem test_decode_residual_error :
    (after (exec (.decodeResidual 0 0 16 0) (neighbours (stream running (w 14 0b00100001100001)) 64)) fun t =>
      decide (t.status = .ended .negativeZerosLeft ∧ t.engine = .error ∧ t.pic.corrupt = true ∧ t.bitpos = 14
        ∧ t.coefs.coef = [(9, 1)])) = true := by decide +kernel

/-- R511 and 95 P4, steps 28 to 30. -/
theorem test_reset : (after (exec .reset { running with engine := .error, bitpos := 14, errKind := .negativeZerosLeft })
    fun t => decide (t.engine = .idle ∧ t.vlcReady = true ∧ t.bitpos = 0 ∧ t.errKind = .ok)) = true := by decide +kernel

/-- 95 V-CR. -/
theorem test_vlc_init : ((after (exec .vlcInit State.reset) fun t => decide (t.vlcReady = true ∧ t.statusWord = 0x100#32))
    && turnsAway .vlcInit running) = true := by decide +kernel

/-- V-CR: every bit written, the unnamed ones read 0; register 6 is not writable. -/
theorem test_cr_write : ((after (exec (.crWrite 0 0xFFFFFFFF#32) State.reset) fun t => decide (t.cr0 = 0x7FF#32))
    && turnsAway (.crWrite 6 0) State.reset) = true := by decide +kernel

/-- V-CR, and 95 P4 step 23. -/
theorem test_cr_read : (reads (.crRead 5) State.reset 0xFFFFFFFF#32 0
    && reads (.crRead 6) { running with engine := .error, errKind := .negativeZerosLeft, pic := { running.pic with corrupt := true } }
      0x332#32 0 && turnsAway (.crRead 14) State.reset) = true := by decide +kernel

/-- 95 P1, steps 2 to 33, and P2, step 5. -/
theorem test_tab_write : ((after (exec (.tabWrite 0 0 2 4) ready) fun t => decide (t.tabs.scan = [(2, 4)]))
    && (after (exec (.tabWrite 1 1 0x4F 4096) ready) fun t => decide (t.tabs.dequant4 = [((0 * 128 + 20) * 16 + 15, 4096#32)]))
    && after (exec (.tabWrite 3 0 0x9A 26) ready) fun t => decide (t.tabs.chromaQp = [(128 + 26, 26)])) = true := by
  decide +kernel

/-- R171, R514: past the end; a value outside the range; an index outside the table. -/
theorem test_host_refusals : (turnsAway (.bsSeek 41) vbr && turnsAway (.tabWrite 0 0 0 64) ready
    && turnsAway (.tabWrite 0 2 0 0) ready && turnsAway (.tabWrite 3 0 52 0) ready) = true := by decide +kernel

/-- R171, R72: the bytes of the host's buffer, most significant bit first. -/
theorem test_bs_load : (after (exec (.bsLoad 14) { ready with hostBuf := [0x13, 0xD4], bitpos := 0 }) fun t =>
    decide (t.bsLen = 14 ∧ t.bsBits 0 14 = w 14 0b00010011110101)) = true := by decide +kernel

/-- V-CR: `SLICE_START` before `VLC_INIT`, with interlaced macroblocks, with `qscale` 52, and as it should be; an address outside
the picture is found before the configuration (R474). -/
theorem test_slice_start : (turnsAway (.sliceStart 0) State.reset && turnsAway (.sliceStart 0) { ready with cr3 := 52 }
    && turnsAway (.sliceStart 1) { ready with cr0 := 0x21 }
    && (after (exec (.sliceStart 0) { ready with cr0 := 0x21 }) fun t => decide (t = { ready with cr0 := 0x21, status := .ended .unsupported }))
    && after (exec (.sliceStart 0) ready) fun t => decide (t.engine = .run ∧ t.skipRun = 0xFFFFFFFF#32)) = true := by
  decide +kernel

/-- 95 P4, step 26: back to `IDLE`, the error kept. -/
theorem test_slice_end : ((after (exec .sliceEnd { running with engine := .error, errKind := .negativeZerosLeft }) fun t =>
    decide (t.engine = .idle ∧ t.errKind = .negativeZerosLeft)) && turnsAway .sliceEnd ready) = true := by decide +kernel

/-! ### The neighbour context -/

/-- `RUN` of a P slice with one reference of list 0. -/
def runningP : State := { running with cr2 := 0x00040000#32 }

/-- V-NNZ: (left, top, PNNZ). -/
theorem test_pred_nnz : ([(1, 2, 2), (16, 15, 16), (64, 5, 5), (16, 64, 16), (64, 64, 0)] :
    List (BitVec 8 × BitVec 8 × BitVec 5)).all (fun e =>
      after (exec (.predNnz 0) { running with cache := { running.cache with nnz := [(4, e.2.1), (11, e.1)] } }) fun t =>
        decide (t.pnnz = some e.2.2)) = true := by decide +kernel

/-- V-I4: (left, top, PMODE). -/
theorem test_pred_i4_mode : ([(1, 0, 0), (8, -1, 2), (8, 8, 8)] : List (BitVec 8 × BitVec 8 × BitVec 4)).all (fun e =>
      after (exec (.predI4Mode 0) { running with cache := { running.cache with i4 := [(4, e.2.1), (11, e.1)] } }) fun t =>
        decide (t.pmode = some e.2.2)) = true := by decide +kernel

/-- Left (slot 11), top (slot 4) and diagonal (slot 8) neighbours of block 0, as reference and vector. -/
def around (a b c : BitVec 8 × Mv) : State :=
  { runningP with
    cache := { runningP.cache with
      ref := [(3, -2), (4, b.1), (8, c.1), (11, a.1)]
      mv := [(3, ⟨0, 0⟩), (4, b.2), (8, c.2), (11, a.2)] } }

/-- V-MV 1, 2, 6, 7 and 8. -/
theorem test_pred_mv : ([
    (around (0, ⟨4, -2⟩) (0, ⟨8, 0⟩) (0, ⟨-4, 6⟩), 0, 4, 0), (around (0, ⟨4, -2⟩) (0, ⟨8, 0⟩) (-2, ⟨0, 0⟩), 0, 4, 0),
    (around (0, ⟨10, 10⟩) (1, ⟨20, -20⟩) (2, ⟨30, 5⟩), 1, 20, -20), (around (0, ⟨10, 10⟩) (1, ⟨20, -20⟩) (2, ⟨30, 5⟩), 3, 20, 5),
    (around (3, ⟨10, 10⟩) (-2, ⟨0, 0⟩) (-2, ⟨0, 0⟩), 0, 10, 10)] : List (State × Word × BitVec 16 × BitVec 16)).all (fun e =>
      after (exec (.predMv 0 4 0 e.2.1) e.1) fun t => decide (t.pmx = some e.2.2.1 ∧ t.pmy = some e.2.2.2)) = true := by
  decide +kernel

/-- R270: the upper half takes the top neighbour's vector; the lower half the left one's (slot 27). -/
theorem test_pred_mv_16x8 :
    ((after (exec (.predMv16x8 0 0 0) (around (1, ⟨4, -2⟩) (0, ⟨8, 0⟩) (-1, ⟨0, 0⟩))) fun t => decide (t.pmx = some 8))
    && after (exec (.predMv16x8 8 0 0) { runningP with
        cache := { runningP.cache with ref := [(27, 0)], mv := [(27, ⟨7, 9⟩)] } }) fun t =>
      decide (t.pmx = some 7 ∧ t.pmy = some 9)) = true := by decide +kernel

/-- R271: the left half takes the left neighbour's vector; the right half the diagonal's (slot 8). -/
theorem test_pred_mv_8x16 :
    ((after (exec (.predMv8x16 0 0 0) (around (0, ⟨4, -2⟩) (1, ⟨8, 0⟩) (-1, ⟨0, 0⟩))) fun t => decide (t.pmx = some 4))
    && after (exec (.predMv8x16 4 0 0) (around (1, ⟨4, -2⟩) (1, ⟨8, 0⟩) (0, ⟨-4, 6⟩))) fun t =>
      decide (t.pmx = some (-4) ∧ t.pmy = some 6)) = true := by decide +kernel

/-- V-MV, `PRED_MV_PSKIP` (a), (c) and (e). -/
theorem test_pred_mv_pskip : ([(around (-2, ⟨0, 0⟩) (0, ⟨8, 0⟩) (0, ⟨-4, 6⟩), 0, 0),
    (around (0, ⟨0, 0⟩) (0, ⟨40, 40⟩) (0, ⟨-4, 6⟩), 0, 0), (around (0, ⟨4, -2⟩) (0, ⟨8, 0⟩) (0, ⟨-4, 6⟩), 4, 0)] :
    List (State × BitVec 16 × BitVec 16)).all (fun e =>
      after (exec .predMvPskip e.1) fun t => decide (t.pmx = some e.2.1 ∧ t.pmy = some e.2.2)) = true := by decide +kernel

/-- A macroblock register as an inter 16x16 macroblock leaves it. -/
def interMb : Mb := { Mb.undef with kind := some .inter16x16, skip := some false, cbp := some 0 }

/-- The state of 42_neighbor_cache.md R263: macroblock (1, 0) of a picture two wide, its left neighbour written. -/
def r263 : State :=
  { runningP with
    cr1 := 0x00010002#32, mbX := 1
    pic := { running.pic with
      prepared := true
      arrays := { PicArrays.undef with
        slice := [(0, 0)], mbType := [(0, interMb)]
        nnz := (List.range 24).map fun n => (n, if n = 5 then 2 else if n = 13 then 1 else 0)
        ref := (List.range 4).map fun q => (q, 0), mv := (List.range 16).map fun n => (n, ⟨6, -2⟩) } } }

/-- R263. -/
theorem test_cache_fill : (after (exec .cacheFill r263) fun t =>
    [(11, 2), (19, 0), (27, 1), (35, 0), (4, 64), (7, 64)].all (fun e => decide (Cells.look t.cache.nnz e.1 = some e.2))
    && [11, 19, 27, 35].all (fun k => decide (Cells.look t.cache.ref k = some 0 ∧ Cells.look t.cache.mv k = some ⟨6, -2⟩
      ∧ Cells.look t.cache.i4 k = some 2))
    && [3, 4, 5, 6, 7, 8].all (fun k => decide (Cells.look t.cache.ref k = some (-2) ∧ Cells.look t.cache.mv k = some ⟨0, 0⟩))
    && decide (Cells.look t.cache.i4 4 = some (-1) ∧ t.nbAvail = [(0, true), (1, false), (2, false), (3, false)])) = true := by
  decide +kernel

/-- The slots of the sixteen luma blocks (10_state.md R42), and of the eight chroma blocks after them. -/
def slots : List Nat := (List.range 24).map scan8

/-- A macroblock with every one of its own slots written, in a P slice. -/
def decoded : State :=
  { runningP with
    mb := interMb
    pic := { running.pic with prepared := true }
    cache := { runningP.cache with
      nnz := Cells.putList [] ((List.range 24).map fun n => (scan8 n, BitVec.ofNat 8 (n % 17)))
      ref := Cells.putList [] ((List.range 16).map fun n => (scan8 n, 0))
      mv := Cells.putList [] ((List.range 16).map fun n => (scan8 n, ⟨BitVec.ofNat 16 n, -2⟩)) } }

/-- R278: which slot goes to which entry. -/
theorem test_cache_writeback : (after (exec .cacheWriteback decoded) fun t =>
    decide (t.picSlice 0 = some 0 ∧ Cells.look t.pic.arrays.nnz 21 = some 4 ∧ Cells.look t.pic.arrays.mv 7 = some ⟨7, -2⟩
      ∧ t.pic.arrays.ref = [(0, 0), (1, 0), (2, 0), (3, 0)] ∧ t.pic.arrays.i4 = [] ∧ t.pic.arrays.cbp = [(0, 0)])) = true := by
  decide +kernel

/-! ### Macroblocks -/

/-- 95 P2 before step 8. -/
def p2 : State :=
  { stream running (w 14 0b00010011110101) with
    cr3 := 26, cr2 := 0xE#32, tabs := { running.tabs with chromaQp := [(26, 26), (154, 26)] }
    pic := { running.pic with prepared := true } }

/-- P2, step 8 (43_mb_type_motion.md R354). -/
theorem test_mb_decode_intra : (after (exec .mbDecode p2) fun t =>
    decide (t.mb.kind = some .intra16x16 ∧ t.mb.i16Mode = some 3 ∧ t.mb.cbp = some 16 ∧ t.mb.chromaMode = some 0
      ∧ t.bitpos = 14 ∧ t.chromaQp = [(0, 26), (1, 26)] ∧ Cells.look t.cache.nnz 48 = some 0 ∧ t.coefs = Coefs.zero
      ∧ t.status = .ended .ok)) = true := by decide +kernel

/-- P3, step 6: a P slice of a picture two wide, bits 011. -/
theorem test_mb_decode_skipped : (after (exec .mbDecode
    { stream runningP (w 3 0b011) with cr1 := 0x00010002#32, pic := { running.pic with prepared := true } }) fun t =>
    decide (t.skipRun = 1 ∧ t.mb.kind = some .inter16x16 ∧ t.mb.skip = some true ∧ t.bitpos = 3
      ∧ Cells.look t.cache.ref (scan8 15) = some 0
      ∧ Cells.look t.cache.nnz (scan8 23) = some 0)) = true := by decide +kernel

/-- P2, step 9, from the registers step 8 leaves: written back, and past the last macroblock. -/
theorem test_mb_recon : (after (exec .mbRecon
    { p2 with
      mb := { Mb.undef with
        kind := some .intra16x16, skip := some false, dct8x8 := some false, i16Mode := some 3, cbp := some 16, chromaMode := some 0
        nnzSum := [(0, 0), (1, 0), (2, 0), (3, 0)] }
      chromaQp := [(0, 26), (1, 26)]
      nbAvail := [(0, false), (1, false), (2, false), (3, false)], nbIntra := [(0, false), (1, false), (2, false), (3, false)]
      cache := { Caches.undef with nnz := Cells.putList [] ((List.range 27).map fun n => (scan8 n, 0)) } }) fun t =>
    decide (t.engine = .done ∧ t.mbX = 0 ∧ t.mbY = 1 ∧ t.picSlice 0 = some 3 ∧ t.pic.arrays.cbp = [(0, 16)]
      ∧ t.pic.arrays.qscale = [(0, 26)] ∧ t.pic.arrays.ref = [] ∧ t.mb = Mb.undef)) = true := by decide +kernel

/-! ### Motion compensation -/

/-- The plane `E` of 44_motion_comp.md section 2. -/
def planeE : Cells Sample :=
  let rows : List (List (BitVec 14)) := [[20, 27, 48, 83, 132, 195, 16, 107], [33, 43, 67, 105, 157, 223, 47, 141],
    [72, 85, 112, 153, 208, 21, 104, 201], [137, 153, 183, 227, 29, 101, 187, 31], [228, 247, 24, 71, 132, 207, 40, 143],
    [89, 111, 147, 197, 5, 83, 175, 25], [232, 1, 40, 93, 160, 241, 80, 189], [145, 173, 215, 15, 85, 169, 11, 123]]
  (List.range 8).flatMap fun y => (List.range 8).map fun x => (2 ^ 20 * y + x, (rows.getD y []).getD x 0)

/-- The reference: `E` in every plane, complete. -/
def reference : RefPic := ⟨⟨planeE, planeE, planeE, 9⟩, 0x7FFFFFFF#32, PicArrays.undef⟩

/-- The operand registers: a 2x2 block at (0, 0), from (sx, sy) of reference 0 of list 0. -/
def operands (sx sy : Word) (fx fy : BitVec 3) : McRegs :=
  ⟨some 0, some 0, some sx, some sy, some 2, some 2, some 0, some 0, some 0, some fx, some fy, some 0⟩

/-- A P slice with the reference, and planes of 100. -/
def compensating (m : McRegs) : State :=
  let flat : Cells Sample := (List.range 4).flatMap fun y => (List.range 4).map fun x => (2 ^ 20 * y + x, 100#14)
  { runningP with refs := [(0, reference)], mc := m, pic := { running.pic with prepared := true, planes := ⟨flat, flat, flat, 0⟩ } }

/-- The four samples of a 2x2 block at (0, 0) of plane `p`, in the order (0,0), (1,0), (0,1), (1,1). -/
def corner (t : State) (p : Nat) : List Nat := [t.sample p 0 0, t.sample p 1 0, t.sample p 0 1, t.sample p 1 1]

/-- The examples of R376 to R391 at (2, 3). -/
theorem test_luma_phases : ([(.qpelMc00, [183, 227, 24, 71]), (.qpelMc10, [209, 177, 19, 86]), (.qpelMc20, [235, 126, 14, 100]),
    (.qpelMc30, [231, 78, 43, 116]), (.qpelMc01, [138, 183, 53, 97]), (.qpelMc11, [164, 132, 48, 112]),
    (.qpelMc21, [173, 113, 54, 97]), (.qpelMc31, [187, 102, 69, 83]), (.qpelMc02, [92, 138, 82, 123]),
    (.qpelMc12, [101, 119, 88, 108]), (.qpelMc22, [110, 100, 94, 93]), (.qpelMc32, [124, 89, 109, 79]),
    (.qpelMc03, [58, 105, 115, 160]), (.qpelMc13, [53, 119, 142, 111]), (.qpelMc23, [62, 100, 148, 96]),
    (.qpelMc33, [76, 89, 163, 82])] : List (Instr × List Nat)).all (fun e =>
      after (exec e.1 (compensating (operands 2 3 0 0))) fun t => decide (corner t 0 = e.2)) = true := by decide +kernel

/-- R394: at (1, 1) with fractions 3 and 5; at (7, 7), every tap the corner. -/
theorem test_mc_chroma :
    ((after (exec (.mcChroma 1) (compensating (operands 1 1 3 5))) fun t => decide (t.sample 1 0 0 = 79 ∧ t.sample 2 0 0 = 100))
    && after (exec (.mcChroma 2) (compensating (operands 7 7 3 5))) fun t => decide (corner t 2 = [123, 123, 123, 123])) = true := by
  decide +kernel

/-- R375 with `MC_AVG`: the average of 100 and 183, rounded up. -/
theorem test_average : (after (exec .qpelMc00 (compensating { operands 2 3 0 0 with avg := some 1 })) fun t =>
    decide (t.sample 0 0 0 = 142)) = true := by decide +kernel

/-- R371: which register, and the values turned away. -/
theorem test_mc_set : ((after (exec (.mcSet 3 0xFFFFFFFF#32) running) fun t => decide (t.mc.srcY = some 0xFFFFFFFF#32))
    && turnsAway (.mcSet 0 16) running && (after (exec (.mcSet 0 15) running) fun t => decide (t.mc.dstX = some 15))
    && turnsAway (.mcSet 4 3) running) = true := by decide +kernel

/-- R400: D = 100, w = 3, ld = 1, o = -2; and w = 3, o = 0 of D = 200. -/
theorem test_weight_uni : (after (exec (.weightUni 0 0 0) { compensating (operands 0 0 0 0) with
      cr9 := 1, tabs := { Tables.undef with lumaWeight := [(0, 3), (1, -2)] } }) fun t =>
    decide (corner t 0 = [148, 148, 148, 148] ∧ t.sample 0 2 0 = 100)) = true := by decide +kernel

/-- R401: D = 100, T = 50, implicit weights -32 and 96; with no weighting it is turned away. -/
theorem test_weight_bi :
    ((after (exec (.weightBi 0 0 0) { compensating (operands 0 0 0 0) with
        cr2 := 0x80040000#32, tmp := [(0, 50), (1, 50), (16, 50), (17, 50)]
        tabs := { Tables.undef with implicitWeight := [(0, -32)] } }) fun t => decide (corner t 0 = [25, 25, 25, 25]))
    && turnsAway (.weightBi 0 0 0) (compensating (operands 0 0 0 0))) = true := by decide +kernel

/-- R405: counts 0 and 8, the current one 12, 2 and 20. -/
theorem test_implicit_weight : ([(12, -32), (2, 48), (20, 32)] : List (Word × BitVec 8)).all (fun e =>
    after (exec .implicitWeight { ready with
      cr2 := 0x01040001#32, cr10 := e.1, tabs := { Tables.undef with refPoc := [(0, 0), (32, 8)], refLong := [(0, false), (32, false)] } })
    fun t => decide (t.tabs.implicitWeight = [(0, e.2)])) = true := by decide +kernel

/-- R372: row 31 with progress 30 waits, row 30 does not; with progress -1 not even row 0 is there. -/
theorem test_wait_row :
    ([(30, 31, .waiting), (30, 30, .ended .ok), (0xFFFFFFFF#32, 0, .waiting)] : List (Word × Word × Status)).all (fun e =>
      let s := { runningP with refs := [(0, { reference with progress := e.1 })] }
      after (exec (.waitRow 0 0 e.2.1) s) fun t => decide (t = { s with status := e.2.2 })) = true := by decide +kernel

/-- R408: vector (8, 12): luma from (2, 3), chroma from (1, 1) with fractions 0 and 4. -/
theorem test_mc_part : (after (exec (.mcPart 0 4 4) { compensating McRegs.undef with
      cache := { Caches.undef with ref := [(12, 0)], mv := [(12, ⟨8, 12⟩)] } }) fun t =>
    decide (corner t 0 = [183, 227, 24, 71] ∧ t.sample 1 0 0 = (4 * 8 * 43 + 4 * 8 * 85 + 32) / 64)) = true := by decide +kernel

/-! ### Transforms -/

/-- `RUN` with these coefficients, and samples of 128 in every plane. -/
def coefficients (coef lumaDc chromaDc : Cells Word) : State :=
  let flat : Cells Sample := (List.range 8).flatMap fun y => (List.range 8).map fun x => (2 ^ 20 * y + x, 128#14)
  { running with coefs := ⟨coef, lumaDc, chromaDc⟩, pic := { running.pic with prepared := true, planes := ⟨flat, flat, flat, 0⟩ } }

/-- Row `y` of the first `n` samples of the luma plane. -/
def row (t : State) (n y : Nat) : List Nat := (List.range n).map fun x => t.sample 0 x y

/-- 95 P1, step 40. -/
theorem test_idct4_add : (after (exec (.idct4Add 0) (coefficients [(1, 192), (2, -64), (5, -64), (6, 64), (8, 64)] [] [])) fun t =>
    decide ((List.range 4).map (row t 4) = [[131, 130, 128, 127], [129, 129, 126, 124], [129, 130, 127, 122], [131, 133, 129, 123]]
      ∧ t.coefs.coef = [])) = true := by decide +kernel

/-- V-TR, the gate: 640 gives +10, -33 gives -1. -/
theorem test_idct4_dc_add : ((after (exec (.idct4DcAdd 0) (coefficients [(0, 640), (1, 7)] [] [])) fun t =>
      decide (row t 4 3 = [138, 138, 138, 138] ∧ t.coefs.coef = [(1, 7)]))
    && after (exec (.idct4DcAdd 16) (coefficients [(256, -33)] [] [])) fun t => decide (t.sample 1 0 0 = 127)) = true := by
  decide +kernel

/-- V-TR: c[1] = 64. -/
theorem test_idct8_add : (after (exec (.idct8Add 0) (coefficients [(1, 64)] [] [])) fun t =>
    decide (row t 8 7 = [130, 129, 129, 128, 128, 127, 127, 127])) = true := by decide +kernel

/-- V-TR: c[0] = -640. -/
theorem test_idct8_dc_add : (after (exec (.idct8DcAdd 0) (coefficients [(0, -640)] [] [])) fun t =>
    decide (row t 8 0 = List.replicate 8 118)) = true := by decide +kernel

/-- V-TR: the third example; (-1, 9, -3, 7) ... at blocks 0, 1, 4, 5, 8 and 15. -/
theorem test_luma_dc : (after (exec (.lumaDcDequantIdct 640) (coefficients [] [(0, 3), (1, -1), (5, 2), (15, -5)] [])) fun t =>
    decide ([0, 1, 4, 5, 2, 3, 8, 15].map (fun n => t.coefAt (16 * n)) = [-2, 23, -7, 18, 23, -2, -12, 3] ∧ t.coefs.lumaDc = []))
      = true := by decide +kernel

/-- R432: v = 10, -2, 3, 1 with 13312. -/
theorem test_chroma_dc : (after (exec (.chromaDcDequantIdct 1 13312) (coefficients [] [] [(8, 10), (9, -2), (10, 3), (11, 1)])) fun t =>
    decide (t.coefs.coef = [(320, 1248), (336, 1456), (352, 416), (368, 1040)] ∧ t.coefs.chromaDc = [])) = true := by
  decide +kernel

/-- R434: v[0][0] = 4 with 256: all eight outputs 4. -/
theorem test_chroma422_dc : (after (exec (.chroma422DcDequantIdct 0 256) (coefficients [] [] [(0, 4)])) fun t =>
    decide (t.coefs.chromaDc = (List.range 8).map fun k => (k, 4#32))) = true := by decide +kernel

/-- R440: an intra block completes, whatever the external predictor gives; a block whose mode is `undef` is a model fault. -/
theorem test_intra_pred :
    ((after (exec (.intraPred 0 0) { coefficients [] [] [] with
        cache := { Caches.undef with i4 := [(12, 2)] }, nbIntra := [(0, false), (1, false), (2, false), (3, false)] }) fun t =>
      decide (t.status = .ended .ok ∧ t.sample 0 4 0 = 128))
    && faults (exec (.intraPred 0 0) (coefficients [] [] [])) .uninitialisedRead) = true := by decide +kernel

/-! ### The step -/

/-- A word that does not decode, and a request that ends, leave the port (R101, R483); one that waits stays. -/
theorem test_step_port :
    ((after (step { ready with port := [.command 0x6800000000000000#64, .command 0x0100000000000000#64] }) fun t =>
        decide (t = { ready with port := [.command 0x0100000000000000#64], status := .ended .illegalCommand }))
    && (after (step { runningP with refs := [(0, { reference with progress := 3 })], port := [.command 0x5600000000000004#64] }) fun t =>
        decide (t.status = .waiting ∧ t.port = [.command 0x5600000000000004#64]))
    && after (step { runningP with
          refs := [(0, { reference with progress := 3 })], status := .waiting
          port := [.command 0x5600000000000004#64, .platform (.progress 0 0 4)] }) fun t =>
        decide (t.refs = [(0, { reference with progress := 4 })] ∧ t.port = [.command 0x5600000000000004#64])) = true := by
  decide +kernel

/-- An element at the cursor: `mb_type` 0001001 in an I slice is entry 8 (R306). -/
theorem test_step_element : (after (step { stream running (w 8 0b00010011) with port := [.element (.mbType .i)] }) fun t =>
    decide (t.bitpos = 7 ∧ t.mb.i16Mode = some 3 ∧ t.mb.cbp = some 16 ∧ t.port = [])) = true := by decide +kernel

/-- A placed word runs as the very next step. -/
theorem test_with_fetch_word : ((after (step (State.reset.withFetchWord 64 0x0100000000000000)) fun t => decide (t.vlcReady = true))
    && after (step ({ running with bitpos := 3, bsLen := 3 }.withFetchWord 16 0b0001001)) fun t =>
      decide (t.bitpos = 10 ∧ t.mb.i16Mode = some 3)) = true := by decide +kernel

/-! ### Witnesses: for each statement with hypotheses, a state and operands that meet them, clause by clause -/

/-- A word that decodes, as the statements say it. -/
theorem gives_ok {α : Type} [DecidableEq α] {r : Except DecodeError α} {a : α} (h : gives r a = true) : r = .ok a := by
  unfold gives at h
  split at h
  · exact congrArg _ (of_decide_eq_true h)
  · cases h

/-- A word that does not decode, as the statements say it. -/
theorem fails_error {α : Type} {r : Except DecodeError α} {e : DecodeError} (h : fails r e = true) : r = .error e := by
  unfold fails at h
  split at h
  · cases h
  · exact congrArg _ (of_decide_eq_true h)

/-- A step that answers a next state, as the statements say it. -/
theorem after_next {o : Host.Outcome State Fault Refusal} {p : State → Bool} (h : after o p = true) :
    ∃ t, o = .next t ∧ p t = true := by
  unfold after at h
  split at h
  · exact ⟨_, rfl, h⟩
  · cases h
  · cases h

/-- `CommandRoundTrip`. -/
theorem test_meets_CommandRoundTrip :
    (Instr.predMv 15 4 1 31).element = none ∧ (Instr.predMv 15 4 1 31).wellFormed = true := by decide

/-- `ElementRoundTrip`, at the longest codeword. -/
theorem test_meets_ElementRoundTrip :
    (Instr.coeffToken0 3 16).element = some (.token 0 3 16) ∧ (Instr.coeffToken0 3 16).wellFormed = true := by decide +kernel

/-- `DecodedWordIsItsEncoding`. -/
theorem test_meets_DecodedWordIsItsEncoding : decodeWord 0x220F04010000001F#64 = .ok (.predMv 15 4 1 31) :=
  gives_ok (by decide +kernel)

/-- `WordsOfNoCommand`, at the first and the last reserved opcode. -/
theorem test_meets_WordsOfNoCommand_reserved : [0x0000000000000000#64, 0xFF00000000000000#64].all (fun c =>
    let s := { ready with port := [.command c] }
    reservedOpcode (opOf c).toNat && decide (s.port = .command c :: [] ∧ s.status ≠ .waiting)) = true := by decide +kernel

/-- `WordsOfNoCommand`: an opcode of a row with a bit too many, and one of no row. -/
theorem test_meets_WordsOfNoCommand :
    (unusedBits (opOf 0x2300010000000000#64).toNat = some 0x0000FF0000000000#64
      ∧ 0x2300010000000000#64 &&& 0x0000FF0000000000#64 ≠ 0) ∧ unusedBits (opOf 0x5300000000000000#64).toNat = none := by
  decide +kernel

/-- `StepRunsTheRequest`, clauses one to three. -/
theorem test_meets_StepRunsTheRequest :
    State.reset.port = []
      ∧ (let s := { State.reset with port := [.command 0x0100000000000000#64] }
         s.port = .command 0x0100000000000000#64 :: [] ∧ s.status ≠ .waiting ∧ decodeWord 0x0100000000000000#64 = .ok .vlcInit)
      ∧ let s := { State.reset with port := [.command 0x0100000100000000#64] }
        s.port = .command 0x0100000100000000#64 :: [] ∧ s.status ≠ .waiting
          ∧ decodeWord 0x0100000100000000#64 = .error .unusedField :=
  ⟨rfl, ⟨rfl, by decide, gives_ok (by decide +kernel)⟩, rfl, by decide, fails_error (by decide +kernel)⟩

/-- `StepRunsTheRequest`, the element. -/
theorem test_meets_StepRunsTheRequest_element :
    let s := { stream running (w 8 0b00010011) with port := [.element (.mbType .i)] }
    s.port = .element (.mbType .i) :: [] ∧ decodeBits (.mbType .i) s.bitsAhead = .ok (.iMbType8 .i, [true]) :=
  ⟨rfl, gives_ok (by decide +kernel)⟩

/-- A `WAIT_ROW` for row 4 that waits. -/
def waitingForRow (next : List Request) : State :=
  { runningP with
    refs := [(0, { reference with progress := 3 })], status := .waiting
    port := .command 0x5600000000000004#64 :: next }

/-- `WaitingCommandIsTakenUpAgain`. -/
theorem test_meets_WaitingCommandIsTakenUpAgain :
    ((waitingForRow [.platform (.progress 0 0 4)]).port = .command 0x5600000000000004#64 :: .platform (.progress 0 0 4) :: []
        ∧ (waitingForRow [.platform (.progress 0 0 4)]).status = .waiting)
      ∧ ((waitingForRow [.platform .powerOn]).port = .command 0x5600000000000004#64 :: .platform .powerOn :: []
        ∧ (waitingForRow [.platform .powerOn]).status = .waiting)
      ∧ (let next : List Request := [.command 0x3100000000000000#64]
         (waitingForRow next).port = .command 0x5600000000000004#64 :: next ∧ (∀ act more, next ≠ .platform act :: more)
           ∧ (waitingForRow next).status = .waiting ∧ decodeWord 0x5600000000000004#64 = .ok (.waitRow 0 0 4))
      ∧ (waitingForRow []).refPic 0 0 = some { reference with progress := 3 } ∧ (waitingForRow []).engine = .run :=
  ⟨⟨rfl, rfl⟩, ⟨rfl, rfl⟩, ⟨rfl, nofun, rfl, gives_ok (by decide +kernel)⟩, rfl, rfl⟩

/-- `WaitingCommandIsTakenUpAgain`: acts that are not power-on. -/
theorem test_meets_WaitingCommandIsTakenUpAgain_acts :
    [PlatformAct.bytes [1], .newPicture, .reference 0 0 reference, .progress 0 0 4].all (fun act => decide (act ≠ .powerOn)) = true := by
  decide +kernel

/-- R77: in `RUN` a new picture does nothing, and a reference put in place rewrites its samples and keeps its counter. -/
theorem test_platform_in_run :
    let s := waitingForRow []
    s.platformAct .newPicture = s
      ∧ (s.platformAct (.reference 0 0 { reference with progress := 2 })).refPic 0 0 = some { reference with progress := 3 }
      ∧ (s.platformAct (.reference 0 1 reference)).refPic 0 1 = none := by decide +kernel

/-- `AcceptedStates`: in `IDLE`, `RUN`, `ERROR` and `DONE`. -/
theorem test_meets_AcceptedStates : ([(.mbDecode, .idle), (.vlcInit, .run), (.peek 1, .error), (.mbDecode, .done)] :
    List (Instr × EngState)).all (fun e => decide (e.1.element = none) && !accepts e.1 e.2) = true := by decide +kernel

/-- `OperandsAndTablesChecked`, an operand. -/
theorem test_meets_OperandsAndTablesChecked : (Instr.peek 33).element = none ∧ (Instr.peek 33).wellFormed = false := by decide

/-- `OperandsAndTablesChecked`, the tables. -/
theorem test_meets_OperandsAndTablesChecked_tables : usesTables .readLevel = true ∧ State.reset.vlcReady = false := by decide

/-- `EveryEnding`: a command that completes, one turned away, one that raises, one that waits. -/
theorem test_meets_EveryEnding :
    (∃ t, exec .bitsLeft ready = .next t ∧ decide (t.status = .ended .ok) = true)
      ∧ (∃ t, exec (.peek 33) ready = .next t ∧ decide (t = refusedBy ready) = true)
      ∧ (∃ t, exec (.read 1) ready = .next t ∧ decide (t = raised ready .insufficientBits) = true)
      ∧ ∃ t, exec (.waitRow 0 0 4) (waitingForRow []) = .next t ∧ decide (t.status = .waiting) = true :=
  ⟨after_next (by decide +kernel), after_next (by decide +kernel), after_next (by decide +kernel), after_next (by decide +kernel)⟩

/-- `StepKeepsCanonicalForm`: a step that writes a cache and a coefficient buffer. -/
theorem test_meets_StepKeepsCanonicalForm :
    let s := { r230 with port := [.command 0x1800001080000014#64] }
    s.memWf = true ∧ ∃ t, step s = .next t ∧ decide (t.coefs ≠ s.coefs) = true :=
  ⟨by decide +kernel, after_next (by decide +kernel)⟩

/-- `StepKeepsRegistersLegal`: each of the three invariants at a state in `RUN`. -/
theorem test_meets_StepKeepsRegistersLegal :
    let s := { p2 with port := [.command 0x3100000000000000#64] }
    (∃ t, step s = .next t ∧ decide (t.bitpos = 14) = true) ∧ s.cursorOk = true ∧ s.regsOk = true ∧ s.runOk = true :=
  ⟨after_next (by decide +kernel), by decide +kernel⟩

/-- `ParametersOnlyByTheirCommands`: a command that is none of those named. -/
theorem test_meets_ParametersOnlyByTheirCommands :
    (∃ t, exec .mbDecode p2 = .next t ∧ decide (t.bitpos = 14) = true)
      ∧ (∀ len, Instr.mbDecode ≠ .bsLoad len) ∧ (∀ r v, Instr.mbDecode ≠ .crWrite r v)
      ∧ (∀ a b c d, Instr.mbDecode ≠ .tabWrite a b c d) ∧ Instr.mbDecode ≠ .implicitWeight ∧ Instr.mbDecode ≠ .reset :=
  ⟨after_next (by decide +kernel), nofun, nofun, nofun, nofun, nofun⟩

/-- `StickyFlags`: with both flags set. -/
theorem test_meets_StickyFlags :
    let s := { vbr with pic := { vbr.pic with corrupt := true } }
    (∃ t, exec (.read 4) s = .next t ∧ decide (t.status = .ended .ok) = true) ∧ s.vlcReady = true ∧ s.pic.corrupt = true
      ∧ Instr.read 4 ≠ .vlcInit ∧ Instr.read 4 ≠ .reset ∧ ∀ d, Instr.read 4 ≠ .sliceStart d :=
  ⟨after_next (by decide +kernel), rfl, rfl, nofun, nofun, nofun⟩

/-- `StickyFlags`: a command that waits, and one that is turned away. -/
theorem test_meets_StickyFlags_endings :
    (∃ t, exec (.waitRow 0 0 4) (waitingForRow []) = .next t ∧ decide (t.status = .waiting) = true)
      ∧ ∃ t, exec (.peek 33) ready = .next t ∧ decide (t = { ready with status := t.status }) = true :=
  ⟨after_next (by decide +kernel), after_next (by decide +kernel)⟩

/-- `BitstreamLoadAndSeek`, at the greatest length and at the last bit of the buffer. -/
theorem test_meets_BitstreamLoadAndSeek :
    let s := { ready with hostBuf := [0x13, 0xD4] }
    s.engine = .idle ∧ (0x7FFFFFFF#32).toNat < 2 ^ 31 ∧ 15 / 8 < s.hostBuf.length ∧ 15 < (0x7FFFFFFF#32).toNat := by decide +kernel

/-- `ControlRegisterRead`, at 13 and 14. -/
theorem test_meets_ControlRegisterRead : 13 < (14#8).toNat ∧ (13#8).toNat ≤ 13 := by decide

/-- `TableWrite`. -/
theorem test_meets_TableWrite : ready.engine = .idle ∧ ready.bitDepthLegal = true := by decide +kernel

/-- `PeekSkipAndAlign`, at 32 bits and at the end of the buffer. -/
theorem test_meets_PeekSkipAndAlign : reading vbr = true ∧ (32#8).toNat ≤ 32 ∧ vbr.bsLen ≤ 40 := by decide +kernel

/-- `ReadAndBitsLeft`: bits that spell a number, bits that are not there, and the bounds of a range. -/
theorem test_meets_ReadAndBitsLeft :
    (reading vbr = true ∧ (4#8).toNat ≤ 32 ∧ vbr.bitpos + 4 ≤ vbr.bsLen ∧ spells vbr vbr.bitpos 4 (11#32).toNat)
      ∧ (let s := { vbr with bitpos := 9 }
         reading s = true ∧ (32#8).toNat ≤ 32 ∧ s.bsLen < s.bitpos + (32#8).toNat)
      ∧ (3 ≤ (3#8).toNat ∧ (3#8).toNat ≤ 32) ∧ 3 ≤ (32#8).toNat ∧ (32#8).toNat ≤ 32 := by
  unfold spells; decide +kernel

/-- `ExpGolomb`, first clause, at no zeros and at thirty-one. -/
theorem test_meets_ExpGolomb :
    (let s := stream ready (w 1 1)
     reading s = true ∧ zerosThenOne s 0 = true ∧ s.bitpos + 2 * 0 + 1 ≤ s.bsLen ∧ spells s (s.bitpos + 0 + 1) 0 0)
      ∧ let s := stream ready (w 63 0x80000001)
        reading s = true ∧ zerosThenOne s 31 = true ∧ s.bitpos + 2 * 31 + 1 ≤ s.bsLen ∧ spells s (s.bitpos + 31 + 1) 31 1 := by
  unfold spells; decide +kernel

/-- `ExpGolomb`, the errors: thirty-two zeros; no one; no room for the rest; and a step that fails. -/
theorem test_meets_ExpGolomb_errors :
    zerosAhead (stream ready (w 32 0)) 32 = true
      ∧ (let s := stream ready (w 31 0)
         s.bitpos + 31 = s.bsLen ∧ zerosAhead s 31 = true)
      ∧ (let s := stream ready (w 3 1)
         zerosThenOne s 2 = true ∧ s.bsLen < s.bitpos + 2 * 2 + 1)
      ∧ ∃ u, exec .readUe (stream ready (w 3 1)) = .next u ∧ decide (u.status ≠ .ended .ok) = true :=
  ⟨by decide +kernel, by decide +kernel, by decide +kernel, after_next (by decide +kernel)⟩

/-- `CoeffToken`: a codeword, and no codeword (V-CT). -/
theorem test_meets_CoeffToken :
    (let s := stream ready (w 2 0b01)
     reading s = true ∧ s.vlcReady = true ∧ (0#8).toNat ≤ 5 ∧ (⟨5, 2, 1⟩ : Vlc.Code) ∈ Vlc.token 0 ∧ codeNext s ⟨5, 2, 1⟩ = true)
      ∧ let s := stream ready (w 6 0b000111)
        reading s = true ∧ s.vlcReady = true ∧ (3#8).toNat ≤ 5 ∧ ∀ c ∈ Vlc.token 3, codeNext s c = false := by decide +kernel

/-- `CoeffToken`, a codeword that runs past the end: thirteen bits of a codeword of sixteen, whose rest is zeros. -/
theorem test_meets_CoeffToken_past_the_end :
    let s := stream ready (w 13 1)
    reading s = true ∧ s.vlcReady = true ∧ (⟨67, 16, 8⟩ : Vlc.Code) ∈ Vlc.token 0 ∧ codeNext s ⟨67, 16, 8⟩ = true
      ∧ s.bsLen < s.bitpos + 16 := by decide +kernel

/-- `TrailingSigns`: as many coefficients as fit, and none. -/
theorem test_meets_TrailingSigns :
    (let s := block 3 16 (w 3 0b010)
     reading s = true ∧ s.totalCoeff = some 16 ∧ s.maxCoeff = some 16 ∧ s.trailingOnes = some 3 ∧ 1 ≤ (16#5).toNat
       ∧ (16#5).toNat ≤ (16#5).toNat ∧ s.bitpos + (3#2).toNat ≤ s.bsLen)
      ∧ let s := block 0 0 []
        reading s = true ∧ s.totalCoeff = some 0 ∧ s.maxCoeff = some 16 ∧ (0#5).toNat = 0 := by decide +kernel

/-- The registers `ReadLevelValue` asks for, with suffix length `sl` at level `idx` of 16. -/
def levelState (sl : BitVec 3) (idx : BitVec 5) (bits : List Bool) : State :=
  { block 0 16 bits with suffixLength := some sl, levelIdx := some idx }

/-- Its hypotheses for a whole statement. -/
def levelReady (s : State) (sl : BitVec 3) (idx : BitVec 5) : Bool :=
  decide (reading s = true ∧ s.vlcReady = true ∧ s.levelIdx = some idx ∧ s.totalCoeff = some 16 ∧ s.trailingOnes = some 0
    ∧ s.suffixLength = some sl ∧ (16#5).toNat ≤ 16 ∧ sl.toNat ≤ 6)

/-- `ReadLevelValue`, first clause, at the longest prefix and the greatest suffix length. -/
theorem test_meets_ReadLevelValue :
    let s := levelState 6 15 (w 54 (2 ^ 25 + 5))
    levelReady s 6 15 = true ∧ (15#5).toNat < (16#5).toNat ∧ zerosThenOne s 28 = true
      ∧ s.bitpos + 28 + 1 + (levelCode 6 28).2 ≤ s.bsLen ∧ spells s (s.bitpos + 28 + 1) (levelCode 6 28).2 5 := by
  unfold spells; decide +kernel

/-- `ReadLevelValue`, the errors: prefixes of 29 and 31; thirty-two zeros; no level left. -/
theorem test_meets_ReadLevelValue_errors :
    (let s := levelState 0 0 (w 30 1)
     levelReady s 0 0 = true ∧ (0#5).toNat < (16#5).toNat ∧ zerosThenOne s 29 = true ∧ s.bitpos + 29 + 1 ≤ s.bsLen)
      ∧ (let s := levelState 0 0 (w 32 1)
         levelReady s 0 0 = true ∧ zerosThenOne s 31 = true ∧ s.bitpos + 31 + 1 ≤ s.bsLen)
      ∧ (let s := levelState 0 0 (w 32 0)
         levelReady s 0 0 = true ∧ zerosAhead s 32 = true)
      ∧ levelReady (levelState 0 16 []) 0 16 = true ∧ (16#5).toNat ≤ (16#5).toNat := by decide +kernel

/-- `TotalZeros`: all there; a codeword; no codeword (V-TZ); more than the block holds. -/
theorem test_meets_TotalZeros :
    (let s := { block 0 15 [] with maxCoeff := some 15 }
     reading s = true ∧ s.vlcReady = true ∧ s.totalCoeff = some 15 ∧ s.maxCoeff = some 15 ∧ 1 ≤ (15#5).toNat)
      ∧ (let s := block 0 15 (w 1 1)
         s.totalCoeff = some 15 ∧ s.maxCoeff = some 16 ∧ (⟨1, 1, 1⟩ : Vlc.Code) ∈ zerosTable 16 15 ∧ codeNext s ⟨1, 1, 1⟩ = true
           ∧ (15#5).toNat < (16#5).toNat)
      ∧ (let s := block 0 1 (w 9 0)
         s.totalCoeff = some 1 ∧ s.maxCoeff = some 16 ∧ ∀ c ∈ zerosTable 16 1, codeNext s c = false)
      ∧ let s := { block 0 5 [] with maxCoeff := some 4 }
        s.totalCoeff = some 5 ∧ s.maxCoeff = some 4 ∧ (4#5).toNat < (5#5).toNat := by decide +kernel

/-- `RunBefore`: a codeword with one zero left; no codeword with eight (V-RB); none left. -/
theorem test_meets_RunBefore :
    (let s := { stream ready (w 1 0) with zerosLeft := some 1 }
     reading s = true ∧ s.vlcReady = true ∧ s.zerosLeft = some 1 ∧ (⟨1, 1, 0⟩ : Vlc.Code) ∈ Vlc.run 1
       ∧ 0 < (1#6).toInt ∧ codeNext s ⟨1, 1, 0⟩ = true)
      ∧ (let s := { stream ready (w 11 0) with zerosLeft := some 8 }
         s.zerosLeft = some 8 ∧ 0 < (8#6).toInt ∧ ∀ c ∈ Vlc.run 7, codeNext s c = false)
      ∧ { ready with zerosLeft := some 0 }.zerosLeft = some 0 ∧ (0#6).toInt ≤ 0 := by decide +kernel

/-- What the three statements about a residual block of table 0 ask of block 1 with `MAX_COEFF` 15, and of block 0. -/
def blockReady (s : State) (blk mc : BitVec 8) (d : Word) (c : Vlc.Code) : Bool :=
  decide (reading s = true ∧ s.vlcReady = true ∧ s.bitDepthLegal = true
    ∧ Instr.wellFormed (.decodeResidual blk 0 mc d) = true ∧ (d.extractLsb' 0 7).toNat ≤ s.maxQp
    ∧ tokenTable s blk.toNat mc.toNat = some (Vlc.token 0) ∧ c ∈ Vlc.token 0 ∧ codeNext s c = true
    ∧ s.bitpos + c.len ≤ s.bsLen)

/-- `ResidualOfEmptyBlock`: bit 1 in table 0. -/
theorem test_meets_ResidualOfEmptyBlock :
    blockReady (neighbours (stream running (w 1 1)) 64) 0 16 0 ⟨0, 1, 1⟩ = true ∧ (⟨0, 1, 1⟩ : Vlc.Code).sym = 0 := by
  decide +kernel

/-- `TooManyCoefficients`: sixteen of fifteen (R207). -/
theorem test_meets_TooManyCoefficients :
    blockReady { stream running (w 16 0b100) with cache := { Caches.undef with nnz := [(5, 64), (12, 64)] } } 1 15 0x00010000#32
      ⟨64, 16, 4⟩ = true ∧ 15 < (⟨64, 16, 4⟩ : Vlc.Code).sym / 4 := by decide +kernel

/-- The stream 01, sign 1, total zeros 1, with the tables of R230. -/
def oneCoefficient : State := { r230 with bs := putBits [] 0 (w 4 0b0111), bsLen := 4 }

/-- `ResidualDequantizes`. -/
theorem test_meets_ResidualDequantizes :
    let s := oneCoefficient
    reading s = true ∧ s.vlcReady = true ∧ s.bitDepthLegal = true ∧ 20 ≤ s.maxQp
      ∧ tokenTable s 0 16 = some (Vlc.token 0) ∧ (⟨5, 2, 1⟩ : Vlc.Code) ∈ Vlc.token 0 ∧ codeNext s ⟨5, 2, 1⟩ = true
      ∧ (⟨0, 1, 1⟩ : Vlc.Code) ∈ Vlc.zeros 1 ∧ s.bitpos + 2 + 1 + 1 ≤ s.bsLen
      ∧ codeNext { s with bitpos := s.bitpos + 2 + 1 } ⟨0, 1, 1⟩ = true ∧ Cells.look s.tabs.scan 0 = some 0
      ∧ Cells.look s.tabs.dequant4 ((0 * 128 + 20) * 16 + 0) = some 4096 ∧ (4096#32).toNat < 2 ^ 30 := by decide +kernel

/-- Steps that all complete, as the statements say it. -/
theorem after_steps {p : Steps Unit} {s : State} (h : (afterSteps p s).isSome = true) : ∃ u, afterSteps p s = some u :=
  Option.isSome_iff_exists.mp h

/-- `ResidualBySteps`: R230, five coefficients with runs between them. -/
theorem test_meets_ResidualBySteps :
    let s := r230
    (reading s = true ∧ s.vlcReady = true ∧ s.bitDepthLegal = true
        ∧ Instr.wellFormed (.decodeResidual 0 0 16 0x80000014#32) = true ∧ ((0x80000014#32).extractLsb' 0 7).toNat ≤ s.maxQp)
      ∧ ∃ u, afterSteps (residualOperands 0 0 16 0x80000014#32).steps s = some u :=
  ⟨by decide +kernel, after_steps (by decide +kernel)⟩

/-- R223 with `DEQUANT8` into an 8x8 quadrant: level 1 at entry 17 of scan 2, raster 5, factor 640. -/
theorem test_residual_8x8 :
    let s := { oneCoefficient with
      bs := putBits [] 0 (w 4 0b0101), tabs := { Tables.undef with scan := [(2 * 64 + 16, 5)], dequant8 := [(20 * 64 + 5, 640)] } }
    after (exec (.decodeResidual 4 2 16 0xE0100014#32) { s with cache := { Caches.undef with nnz := [(6, 64), (13, 64)] } }) (fun t =>
      decide (t.coefs.coef = [(64 + 5, 10)])) = true := by decide +kernel

/-- `ReadingFrame` and `ResidualStaysInItsBlock`: a block that stores coefficients. -/
theorem test_meets_ReadingFrame :
    readsBits (.decodeResidual 0 0 16 0x80000014#32) = true
      ∧ ∃ t, exec (.decodeResidual 0 0 16 0x80000014#32) r230 = .next t ∧ decide (t.coefs ≠ r230.coefs) = true :=
  ⟨rfl, after_next (by decide +kernel)⟩

/-- `ResidualStaysInItsBlock`. -/
theorem test_meets_ResidualStaysInItsBlock :
    ∃ t, exec (.decodeResidual 0 0 16 0x80000014#32) r230 = .next t ∧ decide (t.coefs ≠ r230.coefs) = true :=
  after_next (by decide +kernel)

/-- `SliceFraming`: from each state. -/
theorem test_meets_SliceFraming :
    (ready.engine ≠ .run ∧ ready.vlcReady = true) ∧ firstOk ready 0 = true ∧ configOk ready = true ∧ sliceOk ready = true ∧ running.engine ≠ .idle := by
  decide +kernel

/-- `CacheFillLoadsTheBorders`: with a neighbour that is available. -/
theorem test_meets_CacheFillLoadsTheBorders :
    r263.engine = .run ∧ neighboursKnown r263 = true ∧ neighbour r263 (-1) 0 = some 0 := by decide +kernel

/-- `CountAndModePredictors`, each clause at the greatest block number. -/
theorem test_meets_CountAndModePredictors :
    (let s := { running with cache := { Caches.undef with nnz := [(scan8 23 - 8, 1), (scan8 23 - 1, 2)] } }
     s.engine = .run ∧ (23#8).toNat ≤ 23 ∧ Cells.look s.cache.nnz (scan8 23 - 1) = some 2
       ∧ Cells.look s.cache.nnz (scan8 23 - 8) = some 1)
      ∧ Cells.look running.cache.nnz (scan8 23 - 1) = none ∧ 23 < (24#8).toNat
      ∧ (let s := { running with cache := { Caches.undef with i4 := [(scan8 15 - 8, 1), (scan8 15 - 1, 2)] } }
         (15#8).toNat ≤ 15 ∧ Cells.look s.cache.i4 (scan8 15 - 1) = some 2 ∧ Cells.look s.cache.i4 (scan8 15 - 8) = some 1)
      ∧ Cells.look running.cache.i4 (scan8 15 - 1) = none ∧ 15 < (16#8).toNat := by decide +kernel

/-- `VectorPredictor`: V-MV 1. -/
theorem test_meets_VectorPredictor :
    let s := around (0, ⟨4, -2⟩) (0, ⟨8, 0⟩) (0, ⟨-4, 6⟩)
    s.engine = .run ∧ (0#8).toNat ≤ 15 ∧ (4#8).toNat = 4 ∧ (0#8).toNat < s.listCount ∧ (31#32).toNat ≤ 31
      ∧ slotMotion s 0 (scan8 0 - 1) = some (0, ⟨4, -2⟩) ∧ slotMotion s 0 (scan8 0 - 8) = some (0, ⟨8, 0⟩)
      ∧ diagonalMotion s 0 (scan8 0) 4 = some (0, ⟨-4, 6⟩) := by decide +kernel

/-- `DirectionalVectorPredictors`: each partition's neighbour. -/
theorem test_meets_DirectionalVectorPredictors :
    let s := around (0, ⟨4, -2⟩) (0, ⟨8, 0⟩) (0, ⟨-4, 6⟩)
    s.engine = .run ∧ (0#8).toNat < s.listCount ∧ (31#32).toNat ≤ 31
      ∧ ((0#8).toNat = 0 ∧ slotMotion s 0 4 = some (0, ⟨8, 0⟩))
      ∧ ((8#8).toNat = 8 ∧ slotMotion { s with cache := { s.cache with ref := [(27, 0)], mv := [(27, ⟨7, 9⟩)] } } 0 27 = some (0, ⟨7, 9⟩))
      ∧ slotMotion s 0 11 = some (0, ⟨4, -2⟩) ∧ ((4#8).toNat = 4 ∧ diagonalMotion s 0 14 2 = some (0, ⟨-4, 6⟩)) := by decide +kernel

/-- `WriteBack`. -/
theorem test_meets_WriteBack :
    decoded.engine = .run ∧ decoded.mb.kind = some .inter16x16 ∧ decoded.mb.cbp.isSome ∧ decoded.mbX.toNat < decoded.picW
      ∧ decoded.mbY.toNat < decoded.picH ∧ ownSlotsWritten decoded .inter16x16 = true := by decide +kernel

/-- `SkippedMacroblock`. -/
theorem test_meets_SkippedMacroblock :
    let s := { r263 with skipRun := 1 }
    s.engine = .run ∧ s.sliceType = .p ∧ 0 < s.skipRun.toInt ∧ neighboursKnown s = true := by decide +kernel

/-- `SkippedMacroblock`, a run to be read: one that fits a picture of two, and one that does not. -/
theorem test_meets_SkippedMacroblock_run :
    (r263.engine = .run ∧ r263.sliceType ≠ .i ∧ r263.skipRun = -1 ∧ r263.picW * r263.picH = 2)
      ∧ (∃ t, exec .readUe (stream r263 (w 3 0b011)) = .next t ∧ decide (t.status = .ended .ok ∧ t.res = some 2) = true)
      ∧ ∃ t, exec .readUe (stream r263 (w 5 0b00100)) = .next t ∧ decide (t.status = .ended .ok ∧ t.res = some 3) = true :=
  ⟨by decide +kernel, after_next (by decide +kernel), after_next (by decide +kernel)⟩

/-- `SkippedMacroblock`, where the two rules of a long run differ: two macroblocks to skip and one left. -/
theorem test_meets_SkippedMacroblock_left :
    macroblocksLeft r263 < (2#32).toNat ∧ (2#32).toNat ≤ r263.picW * r263.picH ∧ 0 ≤ (2#32).toInt := by decide +kernel

/-- A picture prepared, an I slice at `mb_type` 25, and room for its samples. -/
def pcmAhead : State :=
  { stream running (w 9 0b000011010) with
    cr2 := 2#32, bsLen := 16 + 384 * 8, pic := { running.pic with prepared := true } }

/-- `PcmMacroblock`, with just enough bits. -/
theorem test_meets_PcmMacroblock :
    let s := pcmAhead
    s.engine = .run ∧ s.sliceType = .i ∧ s.bitDepthLegal = true ∧ neighboursKnown s = true ∧ codeNext s ⟨25, 9, 0b000011010⟩ = true
      ∧ s.bitpos + 9 ≤ s.bsLen ∧ s.chromaFormat = 1 ∧ (s.bitpos + 9 + 7) / 8 * 8 + 384 * s.bitDepth ≤ s.bsLen := by decide +kernel

/-- A P slice of a picture of one macroblock, with these bits ahead, after the run of R302. -/
def codedP (bits : List Bool) : State :=
  { stream runningP bits with
    skipRun := 0, cr3 := 26, tabs := p2.tabs, refs := [(0, reference)], pic := { running.pic with prepared := true } }

/-- `MacroblockDecodesBySteps`: R354; a 16x16 partition with vector (3, -1) and no residual (R334); four quadrants of one piece. -/
theorem test_meets_MacroblockDecodesBySteps :
    (p2.engine = .run ∧ ∃ u, afterSteps decodeSteps p2 = some u)
      ∧ (∃ u, afterSteps decodeSteps (codedP (w 10 0b1001100111)) = some u)
      ∧ ∃ u, afterSteps decodeSteps (codedP (w 18 0b001001111111111111)) = some u :=
  ⟨⟨rfl, after_steps (by decide +kernel)⟩, after_steps (by decide +kernel), after_steps (by decide +kernel)⟩

/-- R314, R346: an Intra4x4 macroblock of an I slice, every mode the predicted one (2, with nothing around it), chroma mode 0, coded
block pattern 0 (code 3), so no quantizer delta. -/
theorem test_mb_decode_intra4x4 : (after (exec .mbDecode
    { stream running (w 23 0b11111111111111111100100) with cr2 := 0xE#32, cr3 := 26, pic := { running.pic with prepared := true } }) fun t =>
    decide (t.mb.kind = some .intra4x4 ∧ t.mb.cbp = some 0 ∧ t.mb.chromaMode = some 0
      ∧ t.mb.i4Mode = (List.range 16).map (fun n => (n, 2)) ∧ t.cr3 = 26 ∧ t.bitpos = 23)) = true := by decide +kernel

/-- R334: bits 1, 00110, 011 and a coded block pattern of 0: reference 0 and the vector (3, -1). -/
theorem test_mb_decode_inter : (after (exec .mbDecode (codedP (w 10 0b1001100111))) fun t =>
    decide (Cells.look t.cache.ref 12 = some 0 ∧ Cells.look t.cache.mv 39 = some ⟨3, -1⟩ ∧ t.mb.cbp = some 0 ∧ t.bitpos = 10)) = true := by
  decide +kernel

/-- `McRegisterWrite`. -/
theorem test_meets_McRegisterWrite : running.engine = .run := by decide

/-- `LumaPhases`: into the picture, past its edge, into the scratch buffer, and averaged with it. -/
theorem test_meets_LumaPhases :
    let s := compensating (operands 2 3 0 0)
    (phaseOf .qpelMc32 = some (3, 2) ∧ s.engine = .run ∧ s.bitDepthLegal = true ∧ s.refPic 0 0 = some reference
      ∧ rowsReady s reference 0 ⟨⟨0, 0, 2, 2⟩, 2, 3, 0, 0⟩ 3 = true)
      ∧ (operandsAre s.mc ⟨⟨0, 0, 2, 2⟩, 2, 3, 0, 0⟩ 0 0 ∧ inPlane s 0 ⟨0, 0, 2, 2⟩ = true)
      ∧ (operandsAre { s.mc with dstX := some 15 } ⟨⟨15, 0, 2, 2⟩, 2, 3, 0, 0⟩ 0 0 ∧ inPlane s 0 ⟨15, 0, 2, 2⟩ = false)
      ∧ operandsAre { s.mc with buf := some 1 } ⟨⟨0, 0, 2, 2⟩, 2, 3, 0, 0⟩ 0 1 := by
  unfold operandsAre; decide +kernel

/-- `LumaPhases` and `ChromaInterpolation`: the scratch buffer averaged with, written before and not, for luma and for Cr. -/
theorem test_meets_LumaPhases_scratch :
    operandsAre { operands 2 3 0 0 with buf := some 1, avg := some 1 } ⟨⟨0, 0, 2, 2⟩, 2, 3, 0, 0⟩ 1 1
      ∧ (∀ p, p < 3 → ∀ dx, dx < 2 → ∀ dy, dy < 2 →
          (Cells.look ([0, 1, 16, 17].map fun k => (256 * p + k, (5 : Sample))) (scratch p (0 + dx) (0 + dy))).isSome = true)
      ∧ ∀ p, p < 3 → Cells.look (compensating (operands 2 3 0 0)).tmp (scratch p (0 + 0) (0 + 0)) = none := by
  unfold operandsAre; decide +kernel

/-- R375: the scratch buffer averaged with: 5 and 183, 6 and 227. -/
theorem test_average_scratch : (after (exec .qpelMc00 { compensating { operands 2 3 0 0 with avg := some 1, buf := some 1 } with
      tmp := [(0, 5), (1, 6), (16, 7), (17, 8)] }) fun t => decide (t.tmp = [(0, 94), (1, 117), (16, 16), (17, 40)])) = true := by
  decide +kernel

/-- R83: with row 0 published, the clamped rows above the picture are read; row 1 is not published. -/
theorem test_rows_published :
    let s := compensating (operands 0 0 0 0)
    let r := { reference with progress := 0 }
    s.published r 1 0 = true ∧ s.published r 1 1 = false ∧ s.published r 0 0 = true ∧ s.published r 0 1 = false := by decide +kernel

/-- `ChromaInterpolation`: with chroma, into the picture and into the scratch buffer; and without. -/
theorem test_meets_ChromaInterpolation :
    (let s := compensating (operands 1 1 3 5)
     s.engine = .run ∧ s.bitDepthLegal = true ∧ (2#8).toNat = 2 ∧ s.chromaFormat ≠ 0
       ∧ operandsAre s.mc ⟨⟨0, 0, 2, 2⟩, 1, 1, 0, 0⟩ 0 0 ∧ s.mc.fx = some 3 ∧ s.mc.fy = some 5 ∧ s.refPic 0 0 = some reference
       ∧ rowsReady s reference 2 ⟨⟨0, 0, 2, 2⟩, 1, 1, 0, 0⟩ 1 = true ∧ inPlane s 2 ⟨0, 0, 2, 2⟩ = true
       ∧ operandsAre { s.mc with dstY := some 7 } ⟨⟨0, 7, 2, 2⟩, 1, 1, 0, 0⟩ 0 0 ∧ inPlane s 2 ⟨0, 7, 2, 2⟩ = false)
      ∧ let s := { running with cr0 := 0x420#32 }
        s.engine = .run ∧ s.bitDepthLegal = true ∧ s.chromaFormat = 0 := by
  unfold operandsAre; decide +kernel

/-- `WeightedPrediction`, one list. -/
theorem test_meets_WeightedPrediction_uni :
    let s := { compensating (operands 0 0 0 0) with tabs := { Tables.undef with lumaWeight := [(0, 3), (1, -2)] } }
    s.engine = .run ∧ s.bitDepthLegal = true ∧ (0#8).toNat ≤ 2 ∧ destinationIs s.mc ⟨0, 0, 2, 2⟩ ∧ inPlane s 0 ⟨0, 0, 2, 2⟩ = true
      ∧ weightOf s 0 0 0 0 = some 3 ∧ weightOf s 0 0 0 1 = some (-2) := by
  unfold destinationIs; decide +kernel

/-- `WeightedPrediction`, two lists: explicit weights of a chroma plane, implicit weights of luma, and none in use. -/
theorem test_meets_WeightedPrediction_bi :
    let m := operands 0 0 0 0
    (let s := { compensating m with
       cr2 := 0x40040000#32, tmp := [(512, 50), (513, 50), (528, 50), (529, 50)]
       tabs := { Tables.undef with chromaWeight := [(2, 1), (3, 5), (130, 1), (131, 6)] } }
     s.engine = .run ∧ inPlane s 2 ⟨0, 0, 2, 2⟩ = true ∧ s.useWeight = 1
       ∧ (∀ dx, dx < 2 → ∀ dy, dy < 2 → (Cells.look s.tmp (256 * 2 + 16 * ((0 + dy) % 16) + (0 + dx) % 16)).isSome = true)
       ∧ (weightOf s 2 0 0 0).map BitVec.toInt = some 1 ∧ (weightOf s 2 1 0 0).map BitVec.toInt = some 1
       ∧ weightOf s 2 0 0 1 = some 5 ∧ weightOf s 2 1 0 1 = some 6)
      ∧ (let s := { compensating m with
           cr2 := 0x80040000#32, tmp := [(0, 50), (1, 50), (16, 50), (17, 50)], tabs := { Tables.undef with implicitWeight := [(0, -32)] } }
         s.useWeight = 2 ∧ (Cells.look s.tabs.implicitWeight (0 * 32 + 0)).map BitVec.toInt = some (-32)
           ∧ ∀ dx, dx < 2 → ∀ dy, dy < 2 → (Cells.look s.tmp (256 * 0 + 16 * ((0 + dy) % 16) + (0 + dx) % 16)).isSome = true)
      ∧ (compensating m).useWeight = 0 ∧ destinationIs m ⟨0, 0, 2, 2⟩ := by
  unfold destinationIs; decide +kernel

/-- `ImplicitWeights`, with one reference of each list. -/
theorem test_meets_ImplicitWeights :
    let s := { ready with
      cr2 := 0x01040001#32, tabs := { Tables.undef with refPoc := [(0, 0), (32, 8)], refLong := [(0, false), (32, false)] } }
    reading s = true ∧ s.refCount 0 = 1 ∧ s.refCount 1 = 1
      ∧ (∀ l, l < 2 → ∀ r, r < 1 → (Cells.look s.tabs.refLong (l * 32 + r)).isSome = true
          ∧ (Cells.look s.tabs.refPoc (l * 32 + r)).isSome = true)
      ∧ Cells.look s.tabs.refLong 0 = some false ∧ Cells.look s.tabs.refLong (32 + 0) = some false
      ∧ Cells.look s.tabs.refPoc 0 = some 0 ∧ Cells.look s.tabs.refPoc (32 + 0) = some 8 := by decide +kernel

/-- `WaitForRow`: in use; and each way to be turned away. -/
theorem test_meets_WaitForRow :
    (let s := waitingForRow []
     s.engine = .run ∧ (0#8).toNat < s.listCount ∧ (0#8).toNat < s.refCount 0 ∧ (0#8).toNat ≤ 31
       ∧ s.refPic 0 0 = some { reference with progress := 3 })
      ∧ ready.engine ≠ .run ∧ runningP.listCount ≤ (1#8).toNat ∧ runningP.refCount 0 ≤ (1#8).toNat := by decide +kernel

/-- A B slice with a reference in each list, block 0 predicted from both, and weights. -/
def bothLists (cr2 : Word) (progress : Word) : State :=
  { compensating McRegs.undef with
    cr2 := cr2, refs := [(0, reference), (32, { reference with progress := progress })]
    cache := { Caches.undef with ref := [(12, 0), (87, 0)], mv := [(12, ⟨8, 12⟩), (87, ⟨-3, 5⟩)] }
    tabs := { Tables.undef with
      lumaWeight := [(0, 1), (1, 0), (64, 2), (65, 1)]
      chromaWeight := [(0, 1), (1, 0), (2, 1), (3, 0), (128, 2), (129, 1), (130, 2), (131, 1)] } }

/-- `PartitionPrediction`, the steps: both lists averaged, both lists weighted, one list weighted. -/
theorem test_meets_PartitionPrediction_steps :
    ((bothLists 0x01040001#32 31).engine = .run ∧ Instr.wellFormed (.mcPart 0 4 4) = true)
      ∧ (∃ u, afterSteps (partSteps 0 4 4) (bothLists 0x01040001#32 31) = some u)
      ∧ (∃ u, afterSteps (partSteps 0 4 4) (bothLists 0x41040001#32 31) = some u)
      ∧ ∃ u, afterSteps (partSteps 0 4 4) { bothLists 0x40040000#32 31 with refs := [(0, reference)] } = some u :=
  ⟨by decide +kernel, after_steps (by decide +kernel), after_steps (by decide +kernel), after_steps (by decide +kernel)⟩

/-- R408, R373: the second list's row is not there: the command waits, and what the first list wrote stays. -/
theorem test_mc_part_waits : (after (exec (.mcPart 0 4 4) (bothLists 0x01040001#32 5)) fun t =>
    decide (t.status = .waiting ∧ corner t 0 = [183, 227, 24, 71])) = true := by decide +kernel

/-- `PartitionPrediction`: a 4x4 partition of a P slice, its row (3 + 4 + 2) there and not. -/
theorem test_meets_PartitionPrediction :
    let s := { compensating McRegs.undef with cache := { Caches.undef with ref := [(12, 0)], mv := [(12, ⟨8, 12⟩)] } }
    s.engine = .run ∧ s.bitDepthLegal = true ∧ s.chromaFormat ≤ 1 ∧ s.useWeight ≠ 1 ∧ Instr.wellFormed (.mcPart 0 4 4) = true
      ∧ s.mbX.toNat < s.picW ∧ s.mbY.toNat < s.picH ∧ s.mbX.toNat < 4096 ∧ s.mbY.toNat < 4096 ∧ s.listCount = 1 ∧ 0 ≤ (0#8).toInt
      ∧ Cells.look s.cache.ref (75 * 0 + scan8 0) = some 0 ∧ (0#8).toNat < s.refCount 0 ∧ (0#8).toNat ≤ 31
      ∧ Cells.look s.cache.mv (75 * 0 + scan8 0) = some ⟨8, 12⟩ ∧ s.refPic 0 0 = some reference
      ∧ rowNeeded s (0 + (12#16).toInt / 4) 4 = 9 ∧ 9 ≤ reference.progress.toInt ∧ (8#32).toInt < 9 := by
  decide +kernel

/-- `PartitionPrediction`, the hypothesis over the lists in use. -/
theorem test_meets_PartitionPrediction_lists :
    let s := { compensating McRegs.undef with cache := { Caches.undef with ref := [(12, 0)], mv := [(12, ⟨8, 12⟩)] } }
    ∀ k, k < s.listCount → ∃ c, Cells.look s.cache.ref (75 * k + scan8 (0#8).toNat) = some c ∧ (0 ≤ c.toInt ↔ k = 0) := by
  intro s k h
  have hl : s.listCount = 1 := by decide +kernel
  have hk : k = 0 := by omega
  subst hk
  exact ⟨0, by decide +kernel, by decide⟩

/-- `InverseTransforms` and `DcOnlyTransforms`, at the last block and the last quadrant. -/
theorem test_meets_InverseTransforms :
    let s := coefficients [(1, 64)] [] []
    s.engine = .run ∧ s.bitDepthLegal = true ∧ (23#8).toNat ≤ 23 ∧ inPlane s (samplesOf s 23).1 (samplesOf s 23).2 = true
      ∧ (3#8).toNat ≤ 3 ∧ inPlane s 0 (quadrantOf s 3) = true := by decide +kernel

/-- `DcOnlyTransforms`. -/
theorem test_meets_DcOnlyTransforms :
    let s := coefficients [(0, 640)] [] []
    s.engine = .run ∧ s.bitDepthLegal = true ∧ (23#8).toNat ≤ 23 ∧ inPlane s (samplesOf s 23).1 (samplesOf s 23).2 = true
      ∧ (3#8).toNat ≤ 3 ∧ inPlane s 0 (quadrantOf s 3) = true := by decide +kernel

/-- `DcOnlyEqualsFull`, the first two clauses. -/
theorem test_meets_DcOnlyEqualsFull :
    let s := coefficients [(0, 640)] [] []
    s.memWf = true ∧ (∀ k, 1 ≤ k → k < 16 → s.coefAt (16 * (0#8).toNat + k) = 0)
      ∧ ∀ k, 1 ≤ k → k < 64 → s.coefAt (64 * (0#8).toNat + k) = 0 := by
  intro s
  have h : ∀ k, k < 64 → k = 0 ∨ s.coefAt (0 + k) = 0 := by decide +kernel
  exact ⟨by decide +kernel, fun k h1 h2 => (h k (by omega)).resolve_left (by omega),
    fun k h1 h2 => (h k h2).resolve_left (by omega)⟩

/-- `DcOnlyEqualsFull`, the last clause, for both transforms: all coefficients 0 and no sample written yet. -/
theorem test_meets_DcOnlyEqualsFull_zero :
    running.memWf = true ∧ (∀ x y, running.sample 0 x y < 2 ^ running.bitDepth) ∧ running.bitDepthLegal = true
      ∧ 15 < running.planeW 0 ∧ (∀ k, k < 64 → running.coefAt (64 * (0#8).toNat + k) = 0)
      ∧ (∃ t, exec (.idct4Add 0) running = .next t ∧ decide (t.status = .ended .ok) = true)
      ∧ ∃ t, exec (.idct8Add 0) running = .next t ∧ decide (t.status = .ended .ok) = true :=
  ⟨by decide +kernel, fun _ _ => Nat.mod_lt _ (by decide), by decide +kernel, by decide +kernel, by decide +kernel,
    after_next (by decide +kernel), after_next (by decide +kernel)⟩

/-- `DcTransforms`. -/
theorem test_meets_DcTransforms : running.engine = .run ∧ (1#8).toNat ≤ 1 := by decide

/-- `IntraPrediction`, for a luma block and for chroma; and a mode that is `undef`. -/
theorem test_meets_IntraPrediction :
    let s := { running with
      cache := { Caches.undef with i4 := [(12, 2)] }, mb := { Mb.undef with chromaMode := some 0 }
      nbIntra := [(0, false), (1, false), (2, false), (3, false)] }
    s.engine = .run ∧ s.bitDepthLegal = true ∧ Instr.wellFormed (.intraPred 0 0) = true ∧ intraModeOf s 0 0 = some 2
      ∧ (∀ k, k < 4 → Cells.look s.nbIntra k = some false) ∧ inPlane s 0 ⟨0, 0, 4, 4⟩ = true
      ∧ Instr.wellFormed (.intraPred 3 20) = true ∧ s.chromaFormat ≠ 0 ∧ intraModeOf s 3 20 = some 0
      ∧ inPlane s 2 ⟨0, 0, 8, 8⟩ = true ∧ intraModeOf s 0 1 = none := by decide +kernel

/-- `IntraPrediction`, the blocks of the witness. -/
theorem test_meets_IntraPrediction_blocks :
    intraBlockOf running 0 0 = (0, ⟨0, 0, 4, 4⟩) ∧ intraBlockOf running 3 20 = (2, ⟨0, 0, 8, 8⟩) := ⟨rfl, rfl⟩

/-- `MacroblockReconstruction`, the steps: an Inter16x16 macroblock whose block 0 has one coefficient (R458), and one of no residual
in the 8x8 transform. -/
theorem test_meets_MacroblockReconstruction_steps :
    let s := { decoded with
      refs := [(0, reference)], mb := { interMb with cbp := some 1, dct8x8 := some false }, coefs := ⟨[(0, 640)], [], []⟩
      cache := { decoded.cache with nnz := Cells.putList [] ((List.range 24).map fun n => (scan8 n, if n = 0 then 1 else 0)) } }
    (s.engine = .run ∧ ∃ u, afterSteps reconSteps s = some u)
      ∧ ∃ u, afterSteps reconSteps { s with
          coefs := Coefs.zero, mb := { interMb with dct8x8 := some true, nnzSum := [(0, 0), (1, 0), (2, 0), (3, 0)] } } = some u :=
  ⟨⟨rfl, after_steps (by decide +kernel)⟩, after_steps (by decide +kernel)⟩

/-- `MacroblockReconstruction`, of luma alone. -/
theorem test_meets_MacroblockReconstruction :
    let s := { decoded with
      cr0 := 0x420#32, mb := { interMb with kind := some .intraPcm, cbp := some 47 }
      pcm := (List.range 256).map fun k => (k, BitVec.ofNat 14 k) }
    s.engine = .run ∧ s.bitDepthLegal = true ∧ s.chromaFormat ≤ 1 ∧ s.mb.kind = some .intraPcm ∧ s.mbX.toNat < s.picW
      ∧ s.mbY.toNat < s.picH ∧ ownSlotsWritten s .intraPcm = true ∧ s.chromaFormat ≠ 1
      ∧ ∀ k, k < 256 → (Cells.look s.pcm k).isSome = true := by decide +kernel

/-- `ReconstructionStaysInMacroblock`: a transform that writes samples. -/
theorem test_meets_ReconstructionStaysInMacroblock :
    let s := { coefficients [(0, 640)] [] [] with cr1 := 0x00010002#32 }
    ofOneMacroblock (.idct4Add 0) = true ∧ s.chromaFormat ≤ 1 ∧ s.mbX.toNat < 4096 ∧ s.mbY.toNat < 4096 ∧ 16 < s.planeW 0
      ∧ inMacroblock s 0 16 0 = false
      ∧ ∃ t, exec (.idct4Add 0) s = .next t ∧ decide (t.sample 0 0 0 ≠ s.sample 0 0 0) = true :=
  ⟨rfl, by decide +kernel, by decide +kernel, by decide +kernel, by decide +kernel, by decide +kernel, after_next (by decide +kernel)⟩

/-- `FramesOfOtherCommands`: one command of each group that gives a next state. -/
theorem test_meets_FramesOfOtherCommands :
    (predicts .predMvPskip = true ∧ compensates .qpelMc00 = true ∧ transforms (.idct4Add 0) = true)
      ∧ (∃ t, exec .predMvPskip (around (0, ⟨4, -2⟩) (0, ⟨8, 0⟩) (0, ⟨-4, 6⟩)) = .next t ∧ decide (t.pmx = some 4) = true)
      ∧ (∃ t, exec .cacheFill r263 = .next t ∧ decide (t.cache ≠ r263.cache) = true)
      ∧ (∃ t, exec .cacheWriteback decoded = .next t ∧ decide (t.pic ≠ decoded.pic) = true)
      ∧ (∃ t, exec .mbDecode p2 = .next t ∧ decide (t.bitpos = 14) = true)
      ∧ ∃ t, exec .qpelMc00 (compensating (operands 2 3 0 0)) = .next t ∧ decide (t.sample 0 0 0 = 183) = true :=
  ⟨by decide, after_next (by decide +kernel), after_next (by decide +kernel), after_next (by decide +kernel),
    after_next (by decide +kernel), after_next (by decide +kernel)⟩

/-- `ElementsComplete`: what the grammar expects of each kind of element, with an element of it (the chroma tables, a run and
a macroblock type among them). -/
theorem test_meets_ElementsComplete :
    ((Instr.elemUe 7).element = some (.ue 7) ∧ expects ready (.ue 7))
      ∧ ((Instr.iMbType8 .i).element = some (.iMb 8 .i) ∧ expects { running with cr2 := 2#32 } (.iMb 8 .i))
      ∧ ((Instr.pSubMbType3 2).element = some (.pSub 3 2) ∧ expects { runningP with mb := { interMb with kind := some .inter8x8 } } (.pSub 3 2))
      ∧ ((Instr.coeffToken0 3 16).element = some (.token 0 3 16) ∧ expects ready (.token 0 3 16))
      ∧ ((Instr.totalZeros15 1).element = some (.zeros 15 1) ∧ expects (block 0 15 []) (.zeros 15 1))
      ∧ ((Instr.run7 14).element = some (.run 7 14) ∧ expects { ready with zerosLeft := some 14 } (.run 7 14)) :=
  ⟨⟨rfl, rfl⟩, ⟨rfl, rfl, rfl⟩, ⟨rfl, rfl, rfl, rfl⟩, ⟨rfl, rfl, rfl⟩, ⟨rfl, rfl, rfl, rfl, by decide, 16, rfl, by decide⟩,
    rfl, rfl, rfl, 14, rfl, by decide, Or.inr ⟨rfl, by decide⟩⟩

/-- `ElementsComplete`, the rest of its hypotheses: the value is one its code can spell and its bits are there. -/
theorem test_meets_ElementsComplete_bits :
    (Instr.coeffToken0 3 16).wellFormed = true ∧ (Instr.run7 14).wellFormed = true
      ∧ (let s := stream ready (w 16 0b1000)
         s.bitpos + (Element.token 0 3 16).bits.length ≤ s.bsLen)
      ∧ let s := { stream ready (w 11 1) with zerosLeft := some 14 }
        s.bitpos + (Element.run 7 14).bits.length ≤ s.bsLen := by decide +kernel

end Sys2Proof.Tests
end

section
/-! Proofs. The bit reader as rules for its operations (40_bitreader_vlc.md R172 to R179): the number the next bits spell, what
reading answers where the bits are there and where they are not, and how a command that puts an answer in `RES` ends. -/

namespace Sys2Proof.Machine

open Sys2Proof.Stated

variable {s t : State}

/-! ### The number a run of bits spells -/

theorem numberOf_concat (bits : List Bool) (b : Bool) : numberOf (bits ++ [b]) = 2 * numberOf bits + b.toNat := by
  simp [numberOf]

theorem State.bsBits_succ_last (s : State) (pos n : Nat) :
    s.bsBits pos (n + 1) = s.bsBits pos n ++ [s.bsBit (pos + n)] := by
  induction n generalizing pos with
  | zero => rfl
  | succ n ih =>
    calc s.bsBits pos (n + 1 + 1)
        = s.bsBit pos :: (s.bsBits (pos + 1) n ++ [s.bsBit (pos + 1 + n)]) := by rw [← ih]; rfl
      _ = s.bsBits pos (n + 1) ++ [s.bsBit (pos + (n + 1))] := by rw [Nat.add_right_comm]; rfl

/-- The last of `n + 1` bits is the lowest one of the number, the others spell its half. -/
theorem spells_succ (s : State) (pos n x : Nat) :
    spells s pos (n + 1) x ↔ spells s pos n (x / 2) ∧ x % 2 = (s.bsBit (pos + n)).toNat := by
  have hbit : x.testBit 0 = s.bsBit (pos + n) ↔ x % 2 = (s.bsBit (pos + n)).toNat := by
    rw [Nat.testBit_zero]
    cases s.bsBit (pos + n) <;> simp
  have hhalf : x < 2 ^ (n + 1) ↔ x / 2 < 2 ^ n := by rw [Nat.pow_succ]; omega
  have hrest : (∀ j, j < n → x.testBit (n - j) = s.bsBit (pos + j))
      ↔ ∀ j, j < n → (x / 2).testBit (n - 1 - j) = s.bsBit (pos + j) :=
    forall₂_congr fun j hj => by rw [Nat.testBit_div_two, show n - 1 - j + 1 = n - j by omega]
  simp only [spells, Nat.forall_lt_succ_right, Nat.add_sub_cancel, Nat.sub_self, hhalf, hrest, hbit, and_assoc]

/-- Exactly one number is spelt by `n` bits: the one the reader computes. -/
theorem spells_iff (s : State) (pos n x : Nat) : spells s pos n x ↔ numberOf (s.bsBits pos n) = x := by
  induction n generalizing x with
  | zero => simp [spells, State.bsBits, numberOf, eq_comm]
  | succ n ih =>
    rw [spells_succ, ih, State.bsBits_succ_last, numberOf_concat]
    have := (s.bsBit (pos + n)).toNat_lt
    omega

theorem State.peekBits_one (s : State) : s.peekBits 1 = (s.bsBit s.bitpos).toNat := by
  simp [State.peekBits, State.bsBits, numberOf]

/-! ### Reading -/

theorem skipBits_ok {n : Nat} (h : s.bitpos + n ≤ s.bsLen) :
    skipBits n s = .ok () { s with bitpos := s.bitpos + n } :=
  Op.bind_ok (Op.require_true _ (decide_eq_true h))

theorem skipBits_insufficient {n : Nat} (h : s.bsLen < s.bitpos + n) :
    skipBits n s = .error (.raised .insufficientBits) s :=
  Op.bind_error (Op.require_false _ (decide_eq_false (Nat.not_le.mpr h)))

theorem readBits_ok {n : Nat} (h : s.bitpos + n ≤ s.bsLen) :
    readBits n s = .ok (s.peekBits n) { s with bitpos := s.bitpos + n } :=
  Op.bind_ok (skipBits_ok h)

theorem readBits_insufficient {n : Nat} (h : s.bsLen < s.bitpos + n) :
    readBits n s = .error (.raised .insufficientBits) s :=
  (Op.bind_ok (Op.read_run _ s)).trans (Op.bind_error (skipBits_insufficient h))

theorem readTe_one : readTe 1 = pure 0 := rfl

theorem readTe_two : readTe 2 = (readBits 1 >>= fun b => pure (1 - b)) := rfl

theorem readTe_of_three_le {range : Nat} (h : 3 ≤ range) : readTe range = readUe := by
  rw [readTe, if_neg (by omega), if_neg (by omega)]

/-! ### A command that puts a number in `RES` -/

theorem raise_eq_raised (s : State) (k : ErrKind) : s.raise k = raised s k := rfl

theorem setRes_natCast (v : Nat) (s : State) : setRes v s = .ok () { s with res := some (BitVec.ofNat 32 v) } := by
  rw [setRes, Op.modify_run, BitVec.ofInt_natCast]

/-- The command completes with the number its body answers. -/
theorem command_setRes_ok {accepted legal : Bool} {m : Op Nat} {v : Nat} (h : (accepted && legal) = true)
    (hm : m s = .ok v t) :
    command accepted legal (m >>= fun v => setRes v) s
      = .next { t with res := some (BitVec.ofNat 32 v), status := .ended .ok } := by
  have hbody : (m >>= fun v => setRes v) s = .ok () { t with res := some (BitVec.ofNat 32 v) } := by
    rw [Op.bind_ok hm, setRes_natCast]
  exact command_ok h hbody

/-- The command ends with the error its body raises. -/
theorem command_setRes_raised {accepted legal : Bool} {m : Op Nat} {k : ErrKind} (h : (accepted && legal) = true)
    (hm : m s = .error (.raised k) t) : command accepted legal (m >>= fun v => setRes v) s = .next (raised t k) := by
  rw [command_run h, Op.bind_error hm, ← raise_eq_raised]
  rfl

/-! ### The commands -/

/-- Where there are three candidates or more, the two commands accept the same states and have the same body. -/
theorem exec_readTe_of_three_le {range : BitVec 8} (hlo : 3 ≤ range.toNat) (hhi : range.toNat ≤ 32) :
    exec (.readTe range) s = exec .readUe s := by
  have hl : Legal.range range = true := decide_eq_true ⟨by omega, hhi⟩
  show execReadTe range s = execReadUe s
  rw [execReadTe, execReadUe, readTe_of_three_le hlo, hl]

section
variable (h : reading s = true)
include h

theorem accepts_reading {legal : Bool} (hl : legal = true) : (s.isIdleOrRun && legal) = true :=
  Bool.and_eq_true_iff.mpr ⟨h, hl⟩

theorem exec_read_ok {n : BitVec 8} {v : Word} (hn : n.toNat ≤ 32) (hb : s.bitpos + n.toNat ≤ s.bsLen)
    (hv : spells s s.bitpos n.toNat v.toNat) :
    exec (.read n) s = .next { s with bitpos := s.bitpos + n.toNat, res := some v, status := .ended .ok } := by
  have hpeek : s.peekBits n.toNat = v.toNat := (spells_iff ..).mp hv
  calc exec (.read n) s
      = .next { s with
          bitpos := s.bitpos + n.toNat, res := some (BitVec.ofNat 32 (s.peekBits n.toNat)), status := .ended .ok } :=
        command_setRes_ok (accepts_reading h (decide_eq_true hn)) (readBits_ok hb)
    _ = _ := by rw [hpeek, BitVec.ofNat_toNat, BitVec.setWidth_eq]

theorem exec_read_insufficient {n : BitVec 8} (hn : n.toNat ≤ 32) (hb : s.bsLen < s.bitpos + n.toNat) :
    exec (.read n) s = .next (raised s .insufficientBits) :=
  command_setRes_raised (accepts_reading h (decide_eq_true hn)) (readBits_insufficient hb)

theorem exec_readTe_one : exec (.readTe 1) s = .next { s with res := some 0, status := .ended .ok } :=
  command_setRes_ok (accepts_reading h rfl) (congrFun readTe_one s)

theorem exec_readTe_two : exec (.readTe 2) s = .next
    (if s.bitpos + 1 ≤ s.bsLen then
      { s with bitpos := s.bitpos + 1, res := some (if s.bsBit s.bitpos then 0 else 1), status := .ended .ok }
    else raised s .insufficientBits) := by
  have hl : (s.isIdleOrRun && Legal.range 2) = true := accepts_reading h rfl
  by_cases hb : s.bitpos + 1 ≤ s.bsLen
  · have hread : readTe 2 s = .ok (1 - (s.bsBit s.bitpos).toNat) { s with bitpos := s.bitpos + 1 } := by
      rw [readTe_two, Op.bind_ok (readBits_ok hb), s.peekBits_one, Op.pure_run]
    rw [if_pos hb]
    refine (command_setRes_ok hl hread).trans ?_
    cases s.bsBit s.bitpos <;> rfl
  · rw [if_neg hb]
    exact command_setRes_raised hl (Op.bind_error (readBits_insufficient (Nat.not_le.mp hb)))

theorem exec_bitsLeft : exec .bitsLeft s
    = .next { s with res := some (BitVec.ofNat 32 (s.bsLen - s.bitpos)), status := .ended .ok } :=
  command_setRes_ok (accepts_reading h rfl) (Op.read_run _ s)

end

/-- Settles O23: each clause is the rule of its command above. -/
theorem readAndBitsLeft : Obligations.ReadAndBitsLeft := fun _ h =>
  ⟨fun _ _ hn => ⟨exec_read_ok h hn, exec_read_insufficient h hn⟩, exec_readTe_one h, exec_readTe_two h,
    fun _ => exec_readTe_of_three_le, exec_bitsLeft h⟩

end Sys2Proof.Machine
end

section
/-! Proofs. The VLC look-up as rules (40_bitreader_vlc.md R180), for every table no codeword of which begins another (30_encoding.md
R117), and `READ_RUN_BEFORE` on top of it (41_cavlc_residual.md R220, R224). -/

namespace Sys2Proof.Machine

open Sys2Proof.Stated

variable {s t : State} {table : List Vlc.Code} {c : Vlc.Code}

/-! ### The codeword the next bits spell -/

/-- The first bits from `pos` on are the `n` bits of `v`, first bit highest. -/
theorem bitsOf_isPrefixOf_bsBits (s : State) {n m : Nat} (v pos : Nat) (h : n ≤ m) :
    (bitsOf n v).isPrefixOf (s.bsBits pos m) = true ↔ ∀ j, j < n → v.testBit (n - 1 - j) = s.bsBit (pos + j) := by
  induction n generalizing pos m with
  | zero => simp [bitsOf]
  | succ n ih =>
    obtain ⟨m, rfl⟩ : ∃ k, m = k + 1 := ⟨m - 1, by omega⟩
    have hrest : (∀ j, j < n → v.testBit (n + 1 - 1 - (j + 1)) = s.bsBit (pos + (j + 1)))
        ↔ ∀ j, j < n → v.testBit (n - 1 - j) = s.bsBit (pos + 1 + j) :=
      forall₂_congr fun j _ => by rw [show n + 1 - 1 - (j + 1) = n - 1 - j by omega, show pos + (j + 1) = pos + 1 + j by omega]
    rw [Nat.forall_lt_succ_left, hrest, ← ih (pos + 1) (Nat.le_of_succ_le_succ h)]
    simp [bitsOf, State.bsBits]

/-- What the look-up asks of a codeword is that it comes next; it looks at 16 bits. -/
theorem string_isPrefixOf_eq_codeNext (s : State) (h : c.len ≤ 16) :
    c.string.isPrefixOf (s.bsBits s.bitpos 16) = codeNext s c := by
  rw [Bool.eq_iff_iff, Vlc.Code.string, bitsOf_isPrefixOf_bsBits s _ _ h]
  simp [codeNext]

/-- A table the look-up decodes without a choice (R117): every codeword fits the 16 bits it looks at, and none begins another. -/
structure PrefixFree (table : List Vlc.Code) : Prop where
  len_le : ∀ c ∈ table, c.len ≤ 16
  eq_of_prefix : ∀ c ∈ table, ∀ d ∈ table, c.string <+: d.string → c = d

/-- At most one codeword comes next. -/
theorem PrefixFree.eq_of_isPrefixOf (ht : PrefixFree table) {d : Vlc.Code} {bits : List Bool} (hc : c ∈ table)
    (hd : d ∈ table) (hcb : c.string.isPrefixOf bits = true) (hdb : d.string.isPrefixOf bits = true) : c = d := by
  rcases List.prefix_or_prefix_of_prefix (List.isPrefixOf_iff_prefix.mp hcb) (List.isPrefixOf_iff_prefix.mp hdb) with h | h
  · exact ht.eq_of_prefix c hc d hd h
  · exact (ht.eq_of_prefix d hd c hc h).symm

theorem nextCode_eq_some (ht : PrefixFree table) (hc : c ∈ table) (h : codeNext s c = true) :
    s.nextCode table = some c := by
  rw [← string_isPrefixOf_eq_codeNext s (ht.len_le c hc)] at h
  cases hf : s.nextCode table with
  | none => exact absurd h (List.find?_eq_none.mp hf c hc)
  | some d =>
    rw [State.nextCode] at hf
    have hd := List.find?_some hf
    rw [ht.eq_of_isPrefixOf hc (List.mem_of_find?_eq_some hf) h hd]

theorem nextCode_eq_none (ht : PrefixFree table) (h : ∀ c ∈ table, codeNext s c = false) :
    s.nextCode table = none :=
  List.find?_eq_none.mpr fun c hc => by simp [string_isPrefixOf_eq_codeNext s (ht.len_le c hc), h c hc]

/-! ### The look-up -/

section
variable (hv : s.vlcReady = true)
include hv

/-- With the tables built, a codeword found is read past. -/
theorem vlcDecode_of_nextCode (h : s.nextCode table = some c) :
    vlcDecode table s = (skipBits c.len >>= fun _ => pure c.sym) s := by
  rw [vlcDecode, Op.bind_ok (Op.require_true _ hv), Op.bind_ok (Op.read_run _ s), h, Op.bind_ok (Op.orStop_some c _ s)]

theorem vlcDecode_ok (h : s.nextCode table = some c) (hb : s.bitpos + c.len ≤ s.bsLen) :
    vlcDecode table s = .ok c.sym { s with bitpos := s.bitpos + c.len } := by
  rw [vlcDecode_of_nextCode hv h, Op.bind_ok (skipBits_ok hb), Op.pure_run]

theorem vlcDecode_insufficient (h : s.nextCode table = some c) (hb : s.bsLen < s.bitpos + c.len) :
    vlcDecode table s = .error (.raised .insufficientBits) s := by
  rw [vlcDecode_of_nextCode hv h, Op.bind_error (skipBits_insufficient hb)]

theorem vlcDecode_corrupted (h : s.nextCode table = none) :
    vlcDecode table s = .error (.raised .corruptedSyntax) s := by
  rw [vlcDecode, Op.bind_ok (Op.require_true _ hv), Op.bind_ok (Op.read_run _ s), h, Op.bind_error (Op.orStop_none _ s)]

end

/-! ### How a command whose body stops ends -/

theorem command_raised {accepted legal : Bool} {body : Op Unit} {k : ErrKind} (h : (accepted && legal) = true)
    (hb : body s = .error (.raised k) t) : command accepted legal body s = .next (raised t k) := by
  rw [command_run h, hb]
  rfl

theorem command_rejected {accepted legal : Bool} {body : Op Unit} (h : (accepted && legal) = true)
    (hb : body s = .error (.rejected .illegalCommand) t) : command accepted legal body s = .next (refusedBy s) := by
  rw [command_run h, hb]
  rfl

/-! ### `READ_RUN_BEFORE` -/

/-- In no run-before table does a codeword begin another (R150, R151). -/
theorem run_prefixFree (n : Nat) : PrefixFree (Vlc.run n) :=
  match n with
  | 0 | 1 | 2 | 3 | 4 | 5 | 6 => ⟨by decide, by decide⟩
  | _ + 7 => show PrefixFree Vlc.run7 from ⟨by decide, by decide⟩

theorem runTable_prefixFree (zl : Int) : PrefixFree (runTable zl) := run_prefixFree _

/-- What a run leaves in the run and the zeros left (R220). -/
def afterRun (zl : Int) (run : Nat) (s : State) : State :=
  { s with runBefore := some (BitVec.ofNat 4 run), zerosLeft := some (BitVec.ofInt 6 (zl - run)) }

theorem useRun_ok {zl : Int} {run : Nat} (s : State) (h : (run : Int) ≤ zl) :
    useRun zl run s = .ok () { afterRun zl run s with res := some (BitVec.ofNat 32 run) } := by
  have hleft : decide (0 ≤ zl - run) = true := decide_eq_true (by omega)
  rw [useRun, Op.bind_ok (Op.modify_run _ s), Op.bind_ok (Op.require_true _ hleft), setRes_natCast]
  rfl

theorem useRun_negative {zl : Int} {run : Nat} (s : State) (h : ¬ (run : Int) ≤ zl) :
    useRun zl run s = .error (.raised .negativeZerosLeft) (afterRun zl run s) := by
  have hleft : decide (0 ≤ zl - run) = false := decide_eq_false (by omega)
  rw [useRun, Op.bind_ok (Op.modify_run _ s), Op.bind_error (Op.require_false _ hleft)]
  rfl

section
variable {z : BitVec 6} (hz : s.zerosLeft = some z)
include hz

theorem zerosLeft_run : zerosLeft s = .ok z.toInt s :=
  Op.need_some (by rw [hz, Option.map_some])

/-- While zeros are left, a codeword is looked up and the run used. -/
theorem readRunBefore_run (h : 0 < z.toInt) :
    readRunBefore s = (vlcDecode (runTable z.toInt) >>= fun run => useRun z.toInt run) s := by
  rw [readRunBefore, Op.bind_ok (zerosLeft_run hz), Op.bind_ok (Op.require_true _ (decide_eq_true h))]

theorem readRunBefore_rejected (h : z.toInt ≤ 0) :
    readRunBefore s = .error (.rejected .illegalCommand) s := by
  rw [readRunBefore, Op.bind_ok (zerosLeft_run hz),
    Op.bind_error (Op.require_false _ (decide_eq_false (Int.not_lt.mpr h)))]

variable (hr : reading s = true)
include hr

theorem exec_readRunBefore_code (hv : s.vlcReady = true) (hc : c ∈ runTable z.toInt) (hpos : 0 < z.toInt)
    (hnext : codeNext s c = true) :
    exec .readRunBefore s = .next (
      let u := afterRun z.toInt c.sym { s with bitpos := s.bitpos + c.len }
      if s.bsLen < s.bitpos + c.len then raised s .insufficientBits
      else if (c.sym : Int) ≤ z.toInt then { u with res := some (BitVec.ofNat 32 c.sym), status := .ended .ok }
      else raised u .negativeZerosLeft) := by
  have hcode : s.nextCode (runTable z.toInt) = some c := nextCode_eq_some (runTable_prefixFree _) hc hnext
  by_cases hb : s.bsLen < s.bitpos + c.len
  · rw [if_pos hb]
    refine command_raised (accepts_reading hr hv) ?_
    rw [readRunBefore_run hz hpos, Op.bind_error (vlcDecode_insufficient hv hcode hb)]
  · have hbody : readRunBefore s = useRun z.toInt c.sym { s with bitpos := s.bitpos + c.len } := by
      rw [readRunBefore_run hz hpos, Op.bind_ok (vlcDecode_ok hv hcode (Nat.not_lt.mp hb))]
    rw [if_neg hb]
    by_cases hle : (c.sym : Int) ≤ z.toInt
    · rw [if_pos hle]
      exact command_ok (accepts_reading hr hv) (hbody.trans (useRun_ok _ hle))
    · rw [if_neg hle]
      exact command_raised (accepts_reading hr hv) (hbody.trans (useRun_negative _ hle))

theorem exec_readRunBefore_noCode (hv : s.vlcReady = true) (h : ∀ c ∈ runTable z.toInt, codeNext s c = false)
    (hpos : 0 < z.toInt) : exec .readRunBefore s = .next (raised s .corruptedSyntax) := by
  refine command_raised (accepts_reading hr hv) ?_
  rw [readRunBefore_run hz hpos, Op.bind_error (vlcDecode_corrupted hv (nextCode_eq_none (runTable_prefixFree _) h))]

theorem exec_readRunBefore_noZeros (hv : s.vlcReady = true) (h : z.toInt ≤ 0) :
    exec .readRunBefore s = .next (refusedBy s) :=
  command_rejected (accepts_reading hr hv) (readRunBefore_rejected hz h)

end

/-- Settles O29: in the table of `ZEROS_LEFT` no codeword begins another, so the one that comes next is the one looked up. -/
theorem runBefore : Obligations.RunBefore := fun _ _ hr hv hz =>
  ⟨fun _ hc hpos hnext => exec_readRunBefore_code hz hr hv hc hpos hnext,
    fun h hpos => exec_readRunBefore_noCode hz hr hv h hpos, exec_readRunBefore_noZeros hz hr hv⟩

end Sys2Proof.Machine
end

section
/-! Proofs. `PRED_NNZ` and `PRED_I4MODE` (42_neighbor_cache.md R264, R274): each reads the slot to the left and the one above, and a
command that keeps only what its predictor writes ends as the predictor does. -/

namespace Sys2Proof.Machine

open Sys2Proof.Stated

variable {s t : State}

/-! ### Two values that must both be there -/

/-- Whichever of two values is `undef`, reading both is a model fault. -/
theorem need_need_none {α β γ : Type} {f : State → Option α} {g : State → Option β} {k : α → β → Op γ}
    (h : f s = none ∨ g s = none) :
    (Op.need f >>= fun a => Op.need g >>= k a) s = .error (.faulted .uninitialisedRead) s := by
  cases hf : f s with
  | none => exact Op.bind_error (Op.need_none hf)
  | some a =>
    have hg : g s = none := h.resolve_left (by simp [hf])
    rw [Op.bind_ok (Op.need_some hf), Op.bind_error (Op.need_none hg)]

/-! ### The predictors -/

theorem i4Prediction_cast (left top : Int) :
    (i4Prediction left top : Int) = if min left top < 0 then 2 else min left top := by
  unfold i4Prediction
  split
  · rfl
  · exact Int.toNat_of_nonneg (by omega)

theorem predNnz_ok {n : Nat} {left top : BitVec 8} (hl : Cells.look s.cache.nnz (scan8 n - 1) = some left)
    (ht : Cells.look s.cache.nnz (scan8 n - 8) = some top) :
    let p := nnzPrediction left.toNat top.toNat
    predNnz n s = .ok p { s with pnnz := some (BitVec.ofNat 5 p), res := some (BitVec.ofNat 32 p) } :=
  (Op.bind_ok (Op.need_some hl)).trans (Op.bind_ok (Op.need_some ht))

theorem predI4Mode_ok {n : Nat} {left top : BitVec 8} (hl : Cells.look s.cache.i4 (scan8 n - 1) = some left)
    (ht : Cells.look s.cache.i4 (scan8 n - 8) = some top) :
    let m := i4Prediction left.toInt top.toInt
    predI4Mode n s = .ok m { s with pmode := some (BitVec.ofNat 4 m), res := some (BitVec.ofNat 32 m) } :=
  (Op.bind_ok (Op.need_some hl)).trans (Op.bind_ok (Op.need_some ht))

/-! ### A command that keeps only what its operation writes -/

section
variable {α : Type} {accepted legal : Bool} {m : Op α} (h : (accepted && legal) = true)
include h

theorem command_discard_ok {a : α} (hm : m s = .ok a t) :
    command accepted legal (do let _ ← m) s = .next { t with status := .ended .ok } :=
  command_ok h (Op.bind_ok hm)

theorem command_discard_faulted {f : Fault} (hm : m s = .error (.faulted f) t) :
    command accepted legal (do let _ ← m) s = .fault f := by
  rw [command_run h, Op.bind_error hm]
  rfl

end

/-! ### The commands -/

theorem exec_predNnz_refused {n : BitVec 8} (hn : 23 < n.toNat) : exec (.predNnz n) s = .next (refusedBy s) :=
  command_reject (Bool.and_eq_false_imp.mpr fun _ => decide_eq_false (Nat.not_le.mpr hn))

theorem exec_predI4Mode_refused {n : BitVec 8} (hn : 15 < n.toNat) : exec (.predI4Mode n) s = .next (refusedBy s) :=
  command_reject (Bool.and_eq_false_imp.mpr fun _ => decide_eq_false (Nat.not_le.mpr hn))

section
variable {n left top : BitVec 8} (hrun : s.engine = .run)
include hrun

theorem accepts_run {legal : Bool} (hl : legal = true) : (s.isRun && legal) = true :=
  Bool.and_eq_true_iff.mpr ⟨decide_eq_true hrun, hl⟩

theorem exec_predNnz_ok (hn : n.toNat ≤ 23) (hl : Cells.look s.cache.nnz (scan8 n.toNat - 1) = some left)
    (ht : Cells.look s.cache.nnz (scan8 n.toNat - 8) = some top) :
    exec (.predNnz n) s = .next (
      let sum := left.toNat + top.toNat
      let p := if sum < 64 then (sum + 1) / 2 else sum
      { s with pnnz := some (BitVec.ofNat 5 p), res := some (BitVec.ofNat 32 (p % 32)), status := .ended .ok }) := by
  have hfive (p : Nat) : BitVec.ofNat 5 (p % 32) = BitVec.ofNat 5 p := by simp [← BitVec.toNat_inj]
  refine (command_discard_ok (accepts_run hrun (decide_eq_true hn)) (predNnz_ok hl ht)).trans ?_
  simp only [nnzPrediction, hfive]

theorem exec_predNnz_undef (hn : n.toNat ≤ 23)
    (h : Cells.look s.cache.nnz (scan8 n.toNat - 1) = none ∨ Cells.look s.cache.nnz (scan8 n.toNat - 8) = none) :
    exec (.predNnz n) s = .fault .uninitialisedRead :=
  command_discard_faulted (accepts_run hrun (decide_eq_true hn)) (need_need_none h)

theorem exec_predI4Mode_ok (hn : n.toNat ≤ 15) (hl : Cells.look s.cache.i4 (scan8 n.toNat - 1) = some left)
    (ht : Cells.look s.cache.i4 (scan8 n.toNat - 8) = some top) :
    exec (.predI4Mode n) s = .next (
      let m := min left.toInt top.toInt
      { s with
        pmode := some (BitVec.ofInt 4 (if m < 0 then 2 else m)), res := some (BitVec.ofInt 32 (if m < 0 then 2 else m))
        status := .ended .ok }) := by
  refine (command_discard_ok (accepts_run hrun (decide_eq_true hn)) (predI4Mode_ok hl ht)).trans ?_
  simp only [← i4Prediction_cast, BitVec.ofInt_natCast]

theorem exec_predI4Mode_undef (hn : n.toNat ≤ 15)
    (h : Cells.look s.cache.i4 (scan8 n.toNat - 1) = none ∨ Cells.look s.cache.i4 (scan8 n.toNat - 8) = none) :
    exec (.predI4Mode n) s = .fault .uninitialisedRead :=
  command_discard_faulted (accepts_run hrun (decide_eq_true hn)) (need_need_none h)

end

/-- Settles O38: each clause is the rule of its command above. -/
theorem countAndModePredictors : Obligations.CountAndModePredictors := fun _ _ _ _ hrun =>
  ⟨exec_predNnz_ok hrun, exec_predNnz_undef hrun, exec_predNnz_refused,
    exec_predI4Mode_ok hrun, exec_predI4Mode_undef hrun, exec_predI4Mode_refused⟩

end Sys2Proof.Machine
end

section
/-! Proofs. Writing a block of a plane as one rule (20_memory.md R71, R73), the transforms that add a residual to a block
(45_reconstruction.md R420), and the two that read only coefficient 0 (R424, R428). -/

namespace Sys2Proof.Cells

theorem lookZero_dropAll {w : Nat} (b : Nat) (as : List Nat) (c : Cells (BitVec w)) :
    lookZero (dropAll c as) b = if b ∈ as then 0 else lookZero c b := by
  rw [lookZero, look_dropAll]
  split <;> rfl

end Sys2Proof.Cells

namespace Sys2Proof.Machine

open Sys2Proof.Stated

variable {s : State} {p x y w h i j k : Nat}

/-! ### The planes -/

@[simp] theorem Planes.plane_setPlane_same (pl : Planes) (p : Nat) (c : Cells Sample) : (pl.setPlane p c).plane p = c :=
  match p with
  | 0 | 1 | _ + 2 => rfl

theorem Planes.plane_setPlane_ne {q : Nat} (pl : Planes) (c : Cells Sample) (hp : p ≤ 2) (hq : q ≤ 2) (hne : q ≠ p) :
    (pl.setPlane p c).plane q = pl.plane q := by
  match p, q with
  | 0, 0 | 1, 1 | 2, 2 => exact absurd rfl hne
  | 0, 1 | 0, 2 | 1, 0 | 1, 2 | 2, 0 | 2, 1 => rfl

@[simp] theorem Planes.setPlane_gen (pl : Planes) (p : Nat) (c : Cells Sample) : (pl.setPlane p c).gen = pl.gen :=
  match p with
  | 0 | 1 | _ + 2 => rfl

theorem State.planeW_lt (s : State) (p : Nat) : s.planeW p < 2 ^ 20 := by
  have hW : s.picW < 2 ^ 16 := BitVec.isLt _
  unfold State.planeW
  split
  · omega
  · split <;> omega

/-- A row of a plane is shorter than the distance of two rows, so an index names one sample. -/
theorem sampleIndex_inj {x' y' : Nat} (hx : x < 2 ^ 20) (hx' : x' < 2 ^ 20) :
    sampleIndex x y = sampleIndex x' y' ↔ x = x' ∧ y = y' := by
  unfold sampleIndex
  omega

/-! ### Writing a block -/

theorem mem_blockCoords {c : Nat × Nat} : c ∈ blockCoords w h ↔ c.1 < w ∧ c.2 < h := by
  simp only [blockCoords, List.mem_flatMap, List.mem_map, List.mem_range]
  constructor
  · rintro ⟨j, hj, i, hi, rfl⟩
    exact ⟨hi, hj⟩
  · rintro ⟨hi, hj⟩
    exact ⟨c.2, hj, c.1, hi, rfl⟩

/-- No coordinates come twice: within a row the columns differ, and of two rows the row numbers do. -/
theorem nodup_blockCoords (w h : Nat) : (blockCoords w h).Nodup := by
  refine List.pairwise_flatMap.mpr ⟨fun j _ => ?_, ?_⟩
  · exact List.pairwise_map.mpr (List.nodup_range.imp fun hne heq => hne (congrArg Prod.fst heq))
  · refine List.nodup_range.imp fun hne c hc d hd heq => hne ?_
    obtain ⟨_, _, rfl⟩ := List.mem_map.mp hc
    obtain ⟨_, _, rfl⟩ := List.mem_map.mp hd
    exact congrArg Prod.snd heq

theorem State.look_putBlock_inside (s : State) (p y : Nat) (f : Nat → Nat → Sample) (hw : x + w ≤ 2 ^ 20) (hi : i < w)
    (hj : j < h) :
    Cells.look ((s.putBlock p x y w h f).pic.planes.plane p) (sampleIndex (x + i) (y + j)) = some (f i j) := by
  rw [State.putBlock, Planes.plane_setPlane_same]
  refine Cells.look_putList_mem _ _ ?_ (List.mem_map.mpr ⟨(i, j), mem_blockCoords.mpr ⟨hi, hj⟩, rfl⟩)
  rw [List.map_map]
  refine List.pairwise_map.mpr ((nodup_blockCoords w h).imp_of_mem fun {c d} hc hd hne heq => hne ?_)
  have hcw := (mem_blockCoords.mp hc).1
  have hdw := (mem_blockCoords.mp hd).1
  obtain ⟨h1, h2⟩ := (sampleIndex_inj (by omega) (by omega)).mp heq
  exact Prod.ext (Nat.add_left_cancel h1) (Nat.add_left_cancel h2)

theorem State.look_putBlock_outside (s : State) (p : Nat) (f : Nat → Nat → Sample)
    (hk : ∀ i < w, ∀ j < h, k ≠ sampleIndex (x + i) (y + j)) :
    Cells.look ((s.putBlock p x y w h f).pic.planes.plane p) k = Cells.look (s.pic.planes.plane p) k := by
  rw [State.putBlock, Planes.plane_setPlane_same]
  refine Cells.look_putList_ne _ _ fun e he => ?_
  obtain ⟨c, hc, rfl⟩ := List.mem_map.mp he
  obtain ⟨hi, hj⟩ := mem_blockCoords.mp hc
  exact (hk _ hi _ hj).symm

/-- A sample the planes list is read as it stands. -/
theorem State.sample_of_look {v : Sample} (hv : Cells.look (s.pic.planes.plane p) (sampleIndex x y) = some v) :
    s.sample p x y = v.toNat := by
  rw [State.sample, Planes.sample, hv]

/-- Two states of one bit depth and one allocation whose planes list the same at an index have the same sample there. -/
theorem State.sample_congr {t : State} (hdepth : t.bitDepth = s.bitDepth) (hgen : t.pic.planes.gen = s.pic.planes.gen)
    (hlook : Cells.look (t.pic.planes.plane p) (sampleIndex x y) = Cells.look (s.pic.planes.plane p) (sampleIndex x y)) :
    t.sample p x y = s.sample p x y := by
  rw [State.sample, State.sample, Planes.sample, Planes.sample, hdepth, hgen, hlook]

theorem block_has_iff {b : Block} :
    b.has x y = true ↔ b.x ≤ x ∧ x < b.x + b.w ∧ b.y ≤ y ∧ y < b.y + b.h := decide_eq_true_iff

/-- The block is written with what `f` gives, and nothing else of the planes changes. -/
theorem blockWritten_of_planes_eq {t : State} {b : Block} {f : Nat → Nat → Sample} {g : Nat → Nat → Int}
    (hplanes : t.pic.planes = (s.putBlock p b.x b.y b.w b.h f).pic.planes) (hdepth : t.bitDepth = s.bitDepth) (hp : p ≤ 2)
    (hin : inPlane s p b = true) (hf : ∀ x y, b.has x y = true → ((f (x - b.x) (y - b.y)).toNat : Int) = g x y) :
    blockWritten s t p b g := by
  have hfit := (of_decide_eq_true hin).1
  have hw := s.planeW_lt p
  have hcell : ∀ i < b.w, ∀ j < b.h, b.has (b.x + i) (b.y + j) = true := fun i hi j hj =>
    block_has_iff.mpr (by omega)
  have hgen : t.pic.planes.gen = s.pic.planes.gen := by rw [hplanes]; exact Planes.setPlane_gen ..
  refine ⟨fun x y hx => ?_, fun k hk => ?_, fun q hq hne => ?_⟩
  · split
    case isTrue hb =>
      obtain ⟨hx1, hx2, hy1, hy2⟩ := block_has_iff.mp hb
      have hlook := s.look_putBlock_inside p b.y f (by omega : b.x + b.w ≤ 2 ^ 20) (by omega : x - b.x < b.w)
        (by omega : y - b.y < b.h)
      rw [Nat.add_sub_cancel' hx1, Nat.add_sub_cancel' hy1, ← hplanes] at hlook
      rw [State.sample_of_look hlook, hf x y hb]
    case isFalse hb =>
      refine congrArg _ (State.sample_congr hdepth hgen ?_)
      rw [hplanes]
      refine s.look_putBlock_outside p f fun i hi j hj heq => hb ?_
      obtain ⟨rfl, rfl⟩ := (sampleIndex_inj (by omega) (by omega)).mp heq
      exact hcell i hi j hj
  · rw [hplanes]
    exact s.look_putBlock_outside p f fun i hi j hj => hk _ _ (hcell i hi j hj)
  · rw [hplanes]
    exact Planes.plane_setPlane_ne _ _ hp hq hne

/-! ### Adding a residual -/

theorem clip_eq_pixelMax (s : State) (v : Int) : clip s v = min (max v 0) s.pixelMax := by
  have hpow : ((2 ^ s.bitDepth : Nat) : Int) = 2 ^ s.bitDepth := Int.natCast_pow 2 s.bitDepth
  have hmax : (s.pixelMax : Int) = 2 ^ s.bitDepth - 1 := by
    rw [State.pixelMax, Int.ofNat_sub Nat.one_le_two_pow, hpow]
    rfl
  rw [clip, hmax]

theorem clip3_pixelMax (s : State) (v : Int) : clip3 0 s.pixelMax v = clip s v := by
  rw [clip3, clip_eq_pixelMax]
  split
  · omega
  · split <;> omega

theorem State.pixelMax_lt (hs : s.bitDepthLegal = true) : s.pixelMax < 2 ^ 14 := by
  have hdepth : s.bitDepth ≤ 14 := (of_decide_eq_true hs).2
  exact Nat.sub_one_lt_of_le (Nat.two_pow_pos _) (Nat.pow_le_pow_right Nat.two_pos hdepth)

theorem toNat_clipPixel (hs : s.bitDepthLegal = true) (v : Int) : ((s.clipPixel v).toNat : Int) = clip s v := by
  have hmax := State.pixelMax_lt hs
  rw [State.clipPixel, clip3_pixelMax, clip_eq_pixelMax, BitVec.toNat_ofInt]
  omega

/-- The sample (i, j) of block `b` with the residual `r` added and clipped (R422). -/
def State.withResidual (s : State) (p : Nat) (b : Block) (r : Nat → Nat → Int) (i j : Nat) : Sample :=
  s.clipPixel (s.sample p (b.x + i) (b.y + j) + r i j)

theorem addResidual_ok {pos : State → BlockPos} {b : Block} {n : Nat} {f : State → Nat → Nat → Int}
    (hpos : pos s = ⟨p, b.x, b.y⟩) (hw : b.w = n) (hh : b.h = n) (hin : inPlane s p b = true) :
    addResidual pos n f s = .ok () (s.putBlock p b.x b.y b.w b.h (s.withResidual p b (f s))) := by
  have hinside : s.insidePlane p b.x b.y n n = true := by rwa [inPlane, hw, hh] at hin
  rw [addResidual, Op.bind_ok (Op.read_run _ s), hpos, hw, hh]
  exact Op.bind_ok (Op.require_true _ hinside)

/-- The rule of every transform that adds a residual to a block and zeroes `m` coefficients from index `k` on. -/
theorem command_addResidual {pos : State → BlockPos} {b : Block} {n m : Nat} {f : State → Nat → Nat → Int}
    {g : Nat → Nat → Int} {accepted legal : Bool} (ha : (accepted && legal) = true) (hs : s.bitDepthLegal = true)
    (hpos : pos s = ⟨p, b.x, b.y⟩) (hw : b.w = n) (hh : b.h = n) (hp : p ≤ 2) (hin : inPlane s p b = true)
    (hf : ∀ i < n, ∀ j < n, f s i j = g i j) :
    ∃ t, command accepted legal (do addResidual pos n f; zeroCoefs k m) s = .next t
      ∧ residualAdded s t p b g fun i => k ≤ i ∧ i < k + m := by
  refine ⟨_, command_ok ha ((Op.bind_ok (addResidual_ok hpos hw hh hin)).trans (Op.modify_run ..)), rfl,
    Planes.setPlane_gen .., blockWritten_of_planes_eq (f := s.withResidual p b (f s)) rfl rfl hp hin fun x y hb => ?_,
    fun i hi => ?_, fun i hi => ?_⟩
  · obtain ⟨hx, hx', hy, hy'⟩ := block_has_iff.mp hb
    rw [State.withResidual, toNat_clipPixel hs, hf _ (by omega) _ (by omega), Nat.add_sub_cancel' hx, Nat.add_sub_cancel' hy]
  · rw [State.coefAt, Cells.lookZero_dropAll, if_pos (List.mem_range'_1.mpr hi)]
    rfl
  · rw [State.coefAt, Cells.lookZero_dropAll, if_neg (mt List.mem_range'_1.mp hi)]
    rfl

/-! ### Where the blocks lie -/

theorem blockX_blockY_eq : ∀ n < 16, blockX n = 4 * bx n ∧ blockY n = 4 * byRow n := by decide

theorem State.blockPos_eq (s : State) (n : Nat) :
    s.blockPos n = ⟨(samplesOf s n).1, (samplesOf s n).2.x, (samplesOf s n).2.y⟩ := by
  unfold State.blockPos samplesOf
  split
  case isTrue hluma =>
    obtain ⟨hx, hy⟩ := blockX_blockY_eq n hluma
    rw [hx, hy]
  case isFalse =>
    have hx : n % 4 % 2 = n % 2 := by omega
    have hy : n % 4 / 2 = n / 2 % 2 := by omega
    rw [hx, hy]

theorem samplesOf_size (s : State) (n : Nat) : (samplesOf s n).2.w = 4 ∧ (samplesOf s n).2.h = 4 := by
  unfold samplesOf
  split <;> exact ⟨rfl, rfl⟩

theorem samplesOf_plane_le (s : State) (n : Nat) : (samplesOf s n).1 ≤ 2 := by
  unfold samplesOf
  split
  · exact Nat.zero_le 2
  · split
    · exact Nat.le_succ 1
    · exact Nat.le_refl 2

/-! ### The transforms of coefficient 0 alone -/

/-- The arithmetic shift rounds down, as the division does: on either sign it is the shift of a natural number. -/
theorem State.dcResidual_eq (s : State) (k : Nat) : s.dcResidual k = (s.coefAt k + 32) / 64 := by
  unfold State.dcResidual
  cases s.coefAt k + 32 with
  | ofNat m => exact congrArg Int.ofNat (Nat.shiftRight_eq_div_pow m 6)
  | negSucc m => exact congrArg Int.negSucc (Nat.shiftRight_eq_div_pow m 6)

theorem used_one (k : Nat) : (fun i => k ≤ i ∧ i < k + 1) = fun i => i = k :=
  funext fun i => propext (by omega)

/-- Settles O53: both are the rule of a transform that adds a residual, with the rounded coefficient 0 at every sample and one
coefficient used. -/
theorem dcOnlyTransforms : Obligations.DcOnlyTransforms := by
  intro s n hrun hs
  rw [← used_one, ← used_one]
  refine ⟨fun hn hin => ?_, fun hn hin => ?_⟩
  · obtain ⟨hw, hh⟩ := samplesOf_size s n.toNat
    exact command_addResidual (accepts_run hrun (decide_eq_true hn)) hs (s.blockPos_eq _) hw hh (samplesOf_plane_le ..) hin
      fun _ _ _ _ => s.dcResidual_eq _
  · exact command_addResidual (accepts_run hrun (decide_eq_true hn)) hs rfl rfl rfl (Nat.zero_le 2) hin
      fun _ _ _ _ => s.dcResidual_eq _

end Sys2Proof.Machine
end

section
/-! Proofs. The host's control registers (10_state.md R30 to R38) as `CR_WRITE` stores them and `CR_READ` shows them
(70_reset_and_hazards.md R512, R513). -/

namespace Sys2Proof.Machine

open Sys2Proof.Stated

variable {s t : State} {a : BitVec 8} {d : Word} {n : Nat}

/-! ### Writing -/

/-- Masking with `k` ones keeps the low `k` bits and forces the others to 0. -/
theorem and_ones_eq_zero_append (m k : Nat) (v : BitVec (m + k)) :
    v &&& BitVec.ofNat (m + k) (2 ^ k - 1) = 0#m ++ v.extractLsb' 0 k := by
  have hk : 2 ^ k - 1 < 2 ^ (m + k) := Nat.sub_one_lt_of_le (Nat.two_pow_pos k)
    (Nat.pow_le_pow_right Nat.two_pos (Nat.le_add_left k m))
  apply BitVec.eq_of_toNat_eq
  simp [Nat.mod_eq_of_lt hk, Nat.and_two_pow_sub_one_eq_mod]

theorem State.setControlReg_zero (s : State) (d : Word) :
    s.setControlReg 0 d = { s with cr0 := 0#21 ++ d.extractLsb' 0 11 } := by
  rw [← and_ones_eq_zero_append 21 11 d]
  rfl

theorem State.setControlReg_three (s : State) (d : Word) :
    s.setControlReg 3 d = { s with cr3 := 0#25 ++ d.extractLsb' 0 7 } := by
  rw [← and_ones_eq_zero_append 25 7 d]
  rfl

theorem State.setControlReg_nine (s : State) (d : Word) :
    s.setControlReg 9 d = { s with cr9 := 0#26 ++ d.extractLsb' 0 6 } := by
  rw [← and_ones_eq_zero_append 26 6 d]
  rfl

theorem exec_crWrite_notIdle (h : s.engine ≠ .idle) : exec (.crWrite a d) s = .next (refusedBy s) :=
  command_reject (Bool.and_eq_false_imp.mpr fun hidle => absurd (of_decide_eq_true hidle) h)

theorem exec_crWrite_notWritable (h : a.toNat ∉ [0, 1, 2, 3, 9, 10, 11]) :
    exec (.crWrite a d) s = .next (refusedBy s) :=
  command_reject (Bool.and_eq_false_imp.mpr fun _ => decide_eq_false h)

theorem exec_crWrite_ok (hidle : s.engine = .idle) (ha : a.toNat = n) (hn : n ∈ [0, 1, 2, 3, 9, 10, 11])
    (ht : s.setControlReg n d = t) : exec (.crWrite a d) s = .next { t with status := .ended .ok } := by
  subst ha ht
  exact command_ok (Bool.and_eq_true_iff.mpr ⟨decide_eq_true hidle, decide_eq_true hn⟩) rfl

/-- Settles O19: outside `IDLE`, and for a register that may not be written, the command is turned away; the seven others take
the value, three of them under a mask. -/
theorem controlRegisterWrite : Obligations.ControlRegisterWrite := by
  intro s a d
  by_cases hidle : s.engine = .idle
  · rw [if_neg (absurd hidle)]
    split
    next ha => exact exec_crWrite_ok hidle ha (by decide) (s.setControlReg_zero d)
    next ha => exact exec_crWrite_ok hidle ha (by decide) rfl
    next ha => exact exec_crWrite_ok hidle ha (by decide) rfl
    next ha => exact exec_crWrite_ok hidle ha (by decide) (s.setControlReg_three d)
    next ha => exact exec_crWrite_ok hidle ha (by decide) (s.setControlReg_nine d)
    next ha => exact exec_crWrite_ok hidle ha (by decide) rfl
    next ha => exact exec_crWrite_ok hidle ha (by decide) rfl
    next => exact exec_crWrite_notWritable (by simp_all)
  · rw [if_pos hidle]
    exact exec_crWrite_notIdle hidle

/-! ### Reading -/

/-- The fields of `CR6`, the bits no field names 0 (10_state.md R36): bit by bit, only one of the shifted fields is there. -/
theorem State.statusWord_fields (s : State) :
    s.statusWord.extractLsb' 0 2 = s.engine.code ∧ s.statusWord.extractLsb' 4 4 = s.errKind.code
      ∧ s.statusWord.getLsbD 8 = s.vlcReady ∧ s.statusWord.getLsbD 9 = s.pic.corrupt
      ∧ s.statusWord.extractLsb' 2 2 = 0 ∧ s.statusWord.extractLsb' 10 22 = 0 := by
  unfold State.statusWord
  refine ⟨?engine, ?errKind, ?vlcReady, ?corrupt, ?between, ?above⟩
  case vlcReady | corrupt => grind
  case engine | errKind | between | above => ext i hi; grind

theorem exec_crRead_refused (h : 13 < a.toNat) : exec (.crRead a) s = .next (refusedBy s) :=
  command_reject (Bool.and_eq_false_imp.mpr fun _ => decide_eq_false (Nat.not_le.mpr h))

theorem exec_crRead_ok (h : a.toNat ≤ 13) :
    exec (.crRead a) s = .next { s with res := some (s.controlReg a.toNat), status := .ended .ok } :=
  command_ok (Bool.and_eq_true_iff.mpr ⟨rfl, decide_eq_true h⟩) (Op.modify_run _ s)

/-- Settles O20: the value is the one `State.controlReg` gives; two registers are made of two halves, and `CR6` of its fields. -/
theorem controlRegisterRead : Obligations.ControlRegisterRead := by
  intro s a
  refine ⟨exec_crRead_refused, fun h => ⟨s.controlReg a.toNat, exec_crRead_ok h, ?_⟩⟩
  generalize a.toNat = n
  match n with
  | 0 | 1 | 2 | 3 | 5 | 8 | 9 | 10 | 11 | 12 | _ + 13 => rfl
  | 4 | 7 => exact ⟨BitVec.extractLsb'_append_eq_right, BitVec.extractLsb'_append_eq_left⟩
  | 6 => exact s.statusWord_fields

end Sys2Proof.Machine
end


section
/-! Proofs. Command words (30_encoding.md R100 to R104): a word is its five fields, and the table of opcodes read in both directions. -/

namespace Sys2Proof

open Sys2Proof.Machine Sys2Proof.Stated

/-! ### A word is its five fields -/

theorem mkWord_fields (w : Command) : mkWord (opOf w) (aOf w) (bOf w) (cOf w) (dOf w) = w := by
  have ha : opOf w ++ aOf w = w.extractLsb' 48 16 := BitVec.extractLsb'_append_extractLsb'_eq_extractLsb' rfl
  have hb : w.extractLsb' 48 16 ++ bOf w = w.extractLsb' 40 24 := BitVec.extractLsb'_append_extractLsb'_eq_extractLsb' rfl
  have hc : w.extractLsb' 40 24 ++ cOf w = w.extractLsb' 32 32 := BitVec.extractLsb'_append_extractLsb'_eq_extractLsb' rfl
  have hd : w.extractLsb' 32 32 ++ dOf w = w.extractLsb' 0 64 := BitVec.extractLsb'_append_extractLsb'_eq_extractLsb' rfl
  rw [mkWord, ha, hb, hc, hd, BitVec.extractLsb'_eq_self]

section
variable (op a b c : BitVec 8) (d : Word)

theorem dOf_mkWord : dOf (mkWord op a b c d) = d := BitVec.extractLsb'_append_eq_right

theorem cOf_mkWord : cOf (mkWord op a b c d) = c :=
  calc cOf (mkWord op a b c d)
      = (op ++ a ++ b ++ c).extractLsb' 0 8 := BitVec.extractLsb'_append_eq_of_le (by decide)
    _ = c := BitVec.extractLsb'_append_eq_right

theorem bOf_mkWord : bOf (mkWord op a b c d) = b :=
  calc bOf (mkWord op a b c d)
      = (op ++ a ++ b ++ c).extractLsb' 8 8 := BitVec.extractLsb'_append_eq_of_le (by decide)
    _ = (op ++ a ++ b).extractLsb' 0 8 := BitVec.extractLsb'_append_eq_of_le (by decide)
    _ = b := BitVec.extractLsb'_append_eq_right

theorem aOf_mkWord : aOf (mkWord op a b c d) = a :=
  calc aOf (mkWord op a b c d)
      = (op ++ a ++ b ++ c).extractLsb' 16 8 := BitVec.extractLsb'_append_eq_of_le (by decide)
    _ = (op ++ a ++ b).extractLsb' 8 8 := BitVec.extractLsb'_append_eq_of_le (by decide)
    _ = (op ++ a).extractLsb' 0 8 := BitVec.extractLsb'_append_eq_of_le (by decide)
    _ = a := BitVec.extractLsb'_append_eq_right

theorem opOf_mkWord : opOf (mkWord op a b c d) = op :=
  calc opOf (mkWord op a b c d)
      = (op ++ a ++ b ++ c).extractLsb' 24 8 := BitVec.extractLsb'_append_eq_of_le (by decide)
    _ = (op ++ a ++ b).extractLsb' 16 8 := BitVec.extractLsb'_append_eq_of_le (by decide)
    _ = (op ++ a).extractLsb' 8 8 := BitVec.extractLsb'_append_eq_of_le (by decide)
    _ = op := BitVec.extractLsb'_append_eq_left

theorem decodeWord_mkWord : decodeWord (mkWord op a b c d) = decodeFields op a b c d := by
  rw [decodeWord, opOf_mkWord, aOf_mkWord, bOf_mkWord, cOf_mkWord, dOf_mkWord]

end

/-! ### The table of opcodes -/

theorem accept_eq_ok_iff {unusedZero : Bool} {i j : Instr} :
    accept unusedZero i = .ok j ↔ unusedZero = true ∧ i.wellFormed = true ∧ i = j := by
  unfold accept
  cases unusedZero
  · simp
  · cases i.wellFormed <;> simp

variable {i : Instr} {w : Command}

/-- The row of the table that writes a command's word reads it too, and finds the unused fields 0. -/
theorem decodeWord_of_encodeWord (h : encodeWord i = some w) : decodeWord w = accept true i := by
  cases i <;> cases h <;> exact decodeWord_mkWord ..

/-- Settles O1: a command's word, read by the row that wrote it, is accepted because its operands are legal. -/
theorem commandRoundTrip : Obligations.CommandRoundTrip := by
  intro i he hw
  have hsome : (encodeWord i).isSome = true := by
    cases i <;> first | rfl | cases he
  obtain ⟨w, h⟩ := Option.isSome_iff_exists.mp hsome
  exact ⟨w, h, (decodeWord_of_encodeWord h).trans (accept_eq_ok_iff.mpr ⟨rfl, hw, rfl⟩)⟩

/-- What a row accepts is legal, and is written with the row's opcode and fields. -/
theorem encodeWord_of_decodeFields {op a b c : BitVec 8} {d : Word} (h : decodeFields op a b c d = .ok i) :
    i.wellFormed = true ∧ encodeWord i = some (mkWord op a b c d) := by
  rw [show op = BitVec.ofNat 8 op.toNat by simp]
  unfold decodeFields at h
  generalize op.toNat = n at h ⊢
  split at h
  case h_65 => cases h
  all_goals
    obtain ⟨hz, hw, rfl⟩ := accept_eq_ok_iff.mp h
    refine ⟨hw, ?_⟩
  case h_5 | h_21 | h_24 => rfl
  all_goals
    simp only [decide_eq_true_eq] at hz
    simp only [hz]
    rfl

/-- Settles O3: the row that reads a word is the row that writes the instruction it reads. -/
theorem decodedWordIsItsEncoding : Obligations.DecodedWordIsItsEncoding := by
  intro w i h
  rw [← mkWord_fields w]
  exact encodeWord_of_decodeFields h

/-! ### Words of no command -/

theorem mkWord_and (op a b c op' a' b' c' : BitVec 8) (d d' : Word) :
    mkWord op a b c d &&& mkWord op' a' b' c' d'
      = mkWord (op &&& op') (a &&& a') (b &&& b') (c &&& c') (d &&& d') := by
  have h1 : mkWord op a b c d &&& mkWord op' a' b' c' d' = _ := BitVec.and_append
  rw [h1, BitVec.and_append, BitVec.and_append, BitVec.and_append, mkWord]

theorem accept_unusedField {unusedZero : Bool} (h : unusedZero = false) (i : Instr) :
    accept unusedZero i = .error .unusedField := by
  rw [h]
  rfl

theorem mkWord_zero : mkWord 0#8 0#8 0#8 0#8 0#32 = 0#64 := rfl

/-- An opcode without unused bits of its own has no row. -/
theorem decodeFields_unknownOpcode {op a b c : BitVec 8} {d : Word} (h : unusedBits op.toNat = none) :
    decodeFields op a b c d = .error .unknownOpcode := by
  unfold decodeFields
  generalize op.toNat = n at h ⊢
  split <;> first | rfl | cases h

/-- The row of an opcode finds a bit set in a field the opcode does not use. -/
theorem decodeFields_unusedField {op a b c : BitVec 8} {d : Word} {m : Command} (h : unusedBits op.toNat = some m)
    (hne : mkWord op a b c d &&& m ≠ 0) : decodeFields op a b c d = .error .unusedField := by
  rw [show op = BitVec.ofNat 8 op.toNat by simp] at hne
  unfold decodeFields
  generalize op.toNat = n at h hne ⊢
  split
  case h_65 =>
    unfold unusedBits at h
    simp_all
    omega
  case h_5 | h_21 | h_24 =>
    cases h
    exact absurd (BitVec.and_zero ..) hne
  all_goals
    cases h
    refine accept_unusedField (decide_eq_false fun hz => hne ?_) _
    rw [← mkWord_fields (BitVec.ofNat 64 _), mkWord_and]
    simp [hz, opOf, aOf, bOf, cOf, dOf, mkWord_zero]

theorem decodeWord_eq_decodeFields (w : Command) :
    decodeWord w = decodeFields (opOf w) (aOf w) (bOf w) (cOf w) (dOf w) := rfl

/-- A reserved opcode has no row (R104). -/
theorem unusedBits_of_reserved {n : Nat} (h : reservedOpcode n = true) : unusedBits n = none := by
  simp only [reservedOpcode, decide_eq_true_eq] at h
  simp only [unusedBits, List.mem_cons, List.not_mem_nil, or_false]
  repeat rw [if_neg (by omega)]

theorem decodeWord_of_reserved {w : Command} (h : reservedOpcode (opOf w).toNat = true) :
    decodeWord w = .error .unknownOpcode :=
  decodeFields_unknownOpcode (unusedBits_of_reserved h)

end Sys2Proof
end

section
/-! Proofs. A step runs the request at the head of the port (00_scope.md R11, 60_exceptions.md R483), and what the platform does
while a command waits (R482; 20_memory.md R77, R83). -/

namespace Sys2Proof.Machine

open Sys2Proof.Stated

variable {s : State} {w : Command} {rest : List Request}

/-! ### The request at the head of the port -/

/-- What `settle` makes of an outcome. -/
theorem settle_eq (o : Host.Outcome State Fault Refusal) :
    settle o = match o with
      | .next t => .next (if t.status = .waiting then t else { t with port := t.port.drop 1 })
      | .fault f => .fault f
      | .refused r => .refused r := by
  cases o <;> rfl

theorem step_nil (h : s.port = []) : step s = .next s := by
  rw [step, runRequest, h]

theorem step_element {ctx : ElemCtx} (h : s.port = .element ctx :: rest) : step s = settle (runElementRequest ctx s) := by
  rw [step, runRequest, h]

theorem step_command (h : s.port = .command w :: rest) : step s = runCommand w rest s := by
  rw [step, runRequest, h]

/-- A command is run unless one waits and the platform acts. -/
theorem runCommand_run (h : s.status = .waiting → ∀ act more, rest ≠ .platform act :: more) :
    runCommand w rest s = settle (runCommandWord w s) := by
  unfold runCommand
  split
  next hw => exact absurd rfl (h (of_decide_eq_true hw) _ _)
  next => rfl

/-- While a command waits an act of the platform comes first. -/
theorem runCommand_platform {act : PlatformAct} (h : s.status = .waiting) :
    runCommand w (.platform act :: rest) s
      = .next { s.platformAct act with port := act.keepsWaiting w ++ rest, status := .none } := by
  unfold runCommand
  rw [decide_eq_true h]

theorem runCommandWord_ok {i : Instr} (h : decodeWord w = .ok i) : runCommandWord w s = exec i s := by
  rw [runCommandWord, h]

/-- A word that does not decode is turned away, and leaves the port (30_encoding.md R101). -/
theorem step_command_error {e : DecodeError} (hp : s.port = .command w :: rest) (hs : s.status ≠ .waiting)
    (h : decodeWord w = .error e) : step s = .next { refusedBy s with port := rest } := by
  have hword : runCommandWord w s = .next (refusedBy s) := by
    rw [runCommandWord, h]
    rfl
  have hdrop : s.port.drop 1 = rest := by
    rw [hp]
    rfl
  rw [step_command hp, runCommand_run fun hw => absurd hw hs, hword, ← hdrop]
  rfl

theorem step_command_ok {i : Instr} (hp : s.port = .command w :: rest)
    (hs : s.status = .waiting → ∀ act more, rest ≠ .platform act :: more) (h : decodeWord w = .ok i) :
    step s = settle (exec i s) := by
  rw [step_command hp, runCommand_run hs, runCommandWord_ok h]

theorem step_element_ok {ctx : ElemCtx} {i : Instr} {r : List Bool} (hp : s.port = .element ctx :: rest)
    (h : decodeBits ctx s.bitsAhead = .ok (i, r)) : step s = settle (exec i s) := by
  rw [step_element hp, runElementRequest, h]

/-- Settles O4: a reserved opcode has no row, so its word does not decode; and what each row makes of its unused bits. -/
theorem wordsOfNoCommand : Obligations.WordsOfNoCommand := by
  refine ⟨fun s w rest hw hp hs => step_command_error hp hs (decodeWord_of_reserved hw), fun w => ?_⟩
  rw [decodeWord_eq_decodeFields]
  split
  next m hm => exact fun hne => decodeFields_unusedField hm (by rwa [mkWord_fields])
  next hm => exact decodeFields_unknownOpcode hm

/-- Settles O6: each clause is the rule of its request. -/
theorem stepRunsTheRequest : Obligations.StepRunsTheRequest :=
  ⟨fun _ => step_nil,
    fun _ _ _ _ hp hs h => (step_command_ok hp (fun hw => absurd hw hs) h).trans (settle_eq _),
    fun _ _ _ _ => step_command_error,
    fun _ _ _ _ _ hp h => (step_element_ok hp h).trans (settle_eq _)⟩

/-! ### What the platform does -/

theorem PlatformAct.keepsWaiting_of_ne {act : PlatformAct} (h : act ≠ .powerOn) (w : Command) :
    act.keepsWaiting w = [.command w] := by
  cases act with
  | powerOn => exact absurd rfl h
  | bytes | newPicture | reference | progress => rfl

theorem RefPic.toInt_raiseProgress (r : RefPic) (row : Word) :
    (r.raiseProgress row).progress.toInt = max r.progress.toInt row.toInt := by
  simp only [RefPic.raiseProgress]
  split <;> omega

/-- What a producer may do to a reference while a slice is decoded: its arrays stay and its counter does not fall (R77, R83). -/
def RefPic.Grows (old new : RefPic) : Prop := new.arrays = old.arrays ∧ old.progress.toInt ≤ new.progress.toInt

theorem RefPic.Grows.refl (r : RefPic) : r.Grows r := ⟨rfl, Int.le_refl _⟩

/-- The same of a reference that may not be in place. -/
def RefGrows (old new : Option RefPic) : Prop :=
  match old with
  | none => new = none
  | some ref => ∃ r, new = some r ∧ ref.Grows r

theorem RefGrows.refl : (r : Option RefPic) → RefGrows r r
  | none => rfl
  | some r => ⟨r, rfl, .refl r⟩

/-- One reference written: each of the others is as before. -/
theorem refGrows_put {l r : Nat} {old new : RefPic} (hold : s.refPic l r = some old) (hgrows : old.Grows new)
    (l' r' : Nat) : RefGrows (s.refPic l' r') (Cells.look (Cells.put s.refs (32 * l + r) new) (32 * l' + r')) := by
  rw [Cells.look_put]
  split
  next hsame =>
    have hs : s.refPic l' r' = some old := (congrArg (Cells.look s.refs) hsame).trans hold
    rw [hs]
    exact ⟨new, rfl, hgrows⟩
  next => exact .refl _

/-- The references while a slice is decoded. -/
theorem platformAct_grows (h : s.engine = .run) {act : PlatformAct} (ha : act ≠ .powerOn) (l' r' : Nat) :
    RefGrows (s.refPic l' r') ((s.platformAct act).refPic l' r') := by
  cases act with
  | bytes b => exact .refl _
  | newPicture =>
    have hsame : s.platformAct .newPicture = s := State.newPicture_run h
    rw [hsame]
    exact .refl _
  | reference l r pic =>
    simp only [State.platformAct, State.setReference, if_pos h]
    cases hold : s.refPic l r with
    | none => exact .refl _
    | some old =>
      exact refGrows_put hold (new := old.rewritten pic) ⟨rfl, (old.raiseProgress_le pic.progress).1⟩ l' r'
  | progress l r row =>
    simp only [State.platformAct]
    cases hold : s.refPic l r with
    | none => exact .refl _
    | some old => exact refGrows_put hold (new := old.raiseProgress row) ⟨rfl, (old.raiseProgress_le row).1⟩ l' r'
  | powerOn => exact absurd rfl ha

/-- A producer raises its counter, and changes nothing else of its reference (R83). -/
theorem platformAct_progress {l r : Nat} {row : Word} {ref : RefPic} (h : s.refPic l r = some ref) :
    (s.platformAct (.progress l r row)).refPic l r = some (ref.raiseProgress row) := by
  simp only [State.platformAct, h]
  exact Cells.look_put_same ..

/-- While a slice is decoded the platform writes its own buffer and the references. -/
theorem platformAct_eq_of_run (h : s.engine = .run) {act : PlatformAct} (ha : act ≠ .powerOn) :
    s.platformAct act = { s with hostBuf := (s.platformAct act).hostBuf, refs := (s.platformAct act).refs } := by
  obtain ⟨b, refs, heq⟩ := State.platformAct_run h act ha
  rw [heq]

/-- Settles O7: the act that comes first, the command taken up again, and what an act may write. -/
theorem waitingCommandIsTakenUpAgain : Obligations.WaitingCommandIsTakenUpAgain := by
  refine ⟨fun s w act rest hp hs ha => ?_, fun s w rest hp hs => ?_,
    fun s w i rest hp hrest _ h => (step_command_ok hp (fun _ => hrest) h).trans (settle_eq _),
    fun s l r row ref h => ⟨_, ref.toInt_raiseProgress row, platformAct_progress h⟩,
    fun s act h ha => ⟨platformAct_eq_of_run h ha, platformAct_grows h ha⟩⟩
  · rw [step_command hp, runCommand_platform hs, PlatformAct.keepsWaiting_of_ne ha]
    rfl
  · rw [step_command hp, runCommand_platform hs]
    rfl

end Sys2Proof.Machine
end

section
/-! Proofs. Bitstream elements (30_encoding.md R110 to R117): each code read back from the bits it writes, whatever follows them. -/

namespace Sys2Proof

open Sys2Proof.Machine

variable {rest : List Bool}

/-! ### Fixed-length codes (R110) -/

@[simp] theorem length_bitsOf (n v : Nat) : (bitsOf n v).length = n := by
  induction n with
  | zero => rfl
  | succ n ih => simp [bitsOf, ih]

theorem foldl_numberOf (bits : List Bool) (a : Nat) :
    bits.foldl (fun v b => 2 * v + b.toNat) a = a * 2 ^ bits.length + numberOf bits := by
  induction bits generalizing a with
  | nil => simp [numberOf]
  | cons b bits ih =>
    simp only [numberOf, List.foldl_cons, List.length_cons, ih (2 * a + b.toNat), ih (2 * 0 + b.toNat), Nat.pow_succ]
    rw [Nat.mul_zero, Nat.zero_add, Nat.add_mul, ← Nat.mul_assoc, Nat.mul_comm 2 a, Nat.mul_assoc a, Nat.mul_comm 2, Nat.add_assoc, Nat.mul_assoc a]

theorem numberOf_cons (b : Bool) (bits : List Bool) : numberOf (b :: bits) = b.toNat * 2 ^ bits.length + numberOf bits := by
  rw [numberOf, List.foldl_cons, foldl_numberOf, Nat.mul_zero, Nat.zero_add]

theorem numberOf_bitsOf (n v : Nat) : numberOf (bitsOf n v) = v % 2 ^ n := by
  induction n with
  | zero => simp [bitsOf, numberOf, Nat.mod_one]
  | succ n ih => rw [bitsOf, numberOf_cons, length_bitsOf, ih, Nat.toNat_testBit, Nat.mod_pow_succ, Nat.add_comm, Nat.mul_comm]

theorem takeNumber_bitsOf (n v : Nat) (rest : List Bool) : takeNumber n (bitsOf n v ++ rest) = .ok (v % 2 ^ n, rest) := by
  rw [takeNumber, if_pos (by simp), List.take_left' (length_bitsOf n v), List.drop_left' (length_bitsOf n v),
    numberOf_bitsOf]

/-! ### Exp-Golomb codes (R111, R112) -/

theorem takeZeros_replicate (n k : Nat) (h : k + n ≤ 31) :
    takeZeros k (List.replicate n false ++ true :: rest) = .ok (k + n, rest) := by
  induction n generalizing k with
  | zero => rfl
  | succ n ih =>
    rw [List.replicate_succ, List.cons_append, takeZeros, if_neg (by omega), ih (k + 1) (by omega), Nat.add_right_comm]
    rfl

/-- The leading one of a code number, written out, and the bits below it. -/
theorem ueBits_eq (v : Nat) :
    ueBits v = List.replicate (v + 1).log2 false ++ true :: bitsOf (v + 1).log2 (v + 1) := by
  have htop : (v + 1).testBit (v + 1).log2 = true := Nat.testBit_log2 (Nat.succ_ne_zero v)
  rw [ueBits, bitsOf, htop]

theorem takeUe_ueBits {v : Nat} (h : v ≤ 2 ^ 32 - 2) (rest : List Bool) : takeUe (ueBits v ++ rest) = .ok (v, rest) := by
  have hlog : (v + 1).log2 < 32 := (Nat.log2_lt (Nat.succ_ne_zero v)).mpr (by omega)
  have hle : 2 ^ (v + 1).log2 ≤ v + 1 := Nat.log2_self_le (Nat.succ_ne_zero v)
  have hlt : v + 1 < 2 ^ ((v + 1).log2 + 1) := Nat.lt_log2_self
  have hlow : (v + 1) % 2 ^ (v + 1).log2 = v + 1 - 2 ^ (v + 1).log2 := by
    rw [Nat.mod_eq_sub_mod hle, Nat.mod_eq_of_lt (by rw [Nat.pow_succ] at hlt; omega)]
  have hval : 2 ^ (v + 1).log2 - 1 + (v + 1 - 2 ^ (v + 1).log2) = v := by
    have := Nat.two_pow_pos (v + 1).log2
    omega
  have hzeros := takeZeros_replicate (rest := bitsOf (v + 1).log2 (v + 1) ++ rest) (v + 1).log2 0 (by omega)
  simp only [ueBits_eq, List.append_assoc, List.cons_append, takeUe, hzeros, Nat.zero_add, takeNumber_bitsOf, hlow, hval]

theorem seOfUe_ueOfSe (v : Int) : seOfUe (ueOfSe v) = v := by
  unfold seOfUe ueOfSe
  split <;> split <;> omega

theorem ueOfSe_le {v : Int} (h : -(2 ^ 31 - 1) ≤ v ∧ v ≤ 2 ^ 31 - 1) : ueOfSe v ≤ 2 ^ 32 - 2 := by
  unfold ueOfSe
  split <;> omega

/-! ### Codewords of a table (R117) -/

theorem length_string (c : Vlc.Code) : c.string.length = c.len := length_bitsOf _ _

/-- In a table where no codeword begins another, the codeword of a symbol is read back, whatever follows it. -/
theorem takeCode_codeBits {table : List Vlc.Code} (ht : PrefixFree table) {sym : Nat}
    (h : (Vlc.codeOf table sym).isSome = true) (rest : List Bool) :
    takeCode table (codeBits table sym ++ rest) = .ok (sym, rest) := by
  obtain ⟨c, hc⟩ := Option.isSome_iff_exists.mp h
  have hmem : c ∈ table := List.mem_of_find?_eq_some hc
  have hsym : c.sym = sym := by simpa using List.find?_some hc
  have hprefix : c.string.isPrefixOf (c.string ++ rest ++ List.replicate 16 false) = true := by
    rw [List.isPrefixOf_iff_prefix, List.append_assoc]
    exact List.prefix_append ..
  have hfind : table.find? (fun d => d.string.isPrefixOf (c.string ++ rest ++ List.replicate 16 false)) = some c := by
    cases hf : table.find? (fun d => d.string.isPrefixOf (c.string ++ rest ++ List.replicate 16 false)) with
    | none => exact absurd hprefix (List.find?_eq_none.mp hf c hmem)
    | some d =>
      have hd := List.find?_some hf
      rw [ht.eq_of_isPrefixOf hmem (List.mem_of_find?_eq_some hf) hprefix hd]
  have hbits : codeBits table sym = c.string := by rw [codeBits, hc]
  rw [hbits, takeCode, hfind]
  simp only [List.length_append, length_string, Nat.le_add_right, if_true, hsym, List.drop_left' (length_string c)]

/-- In no coefficient-token table does a codeword begin another (R141 to R146). -/
theorem token_prefixFree (n : Nat) : PrefixFree (Vlc.token n) :=
  match n with
  | 0 | 1 | 2 | 3 | 4 | 5 => ⟨by decide +kernel, by decide +kernel⟩
  | _ + 6 => show PrefixFree [] from ⟨by decide, by decide⟩

/-- In no total-zeros table does a codeword begin another (R147). -/
theorem zeros_prefixFree (n : Nat) : PrefixFree (Vlc.zeros n) :=
  match n with
  | 0 => show PrefixFree [] from ⟨by decide, by decide⟩
  | 1 | 2 | 3 | 4 | 5 | 6 | 7 | 8 | 9 | 10 | 11 | 12 | 13 | 14 | 15 => ⟨by decide +kernel, by decide +kernel⟩
  | _ + 16 => show PrefixFree [] from ⟨by decide, by decide⟩

/-- The same of the tables of chroma DC blocks (R148). -/
theorem chromaDcZeros_prefixFree (n : Nat) : PrefixFree (Vlc.chromaDcZeros n) :=
  match n with
  | 0 => show PrefixFree [] from ⟨by decide, by decide⟩
  | 1 | 2 | 3 => ⟨by decide +kernel, by decide +kernel⟩
  | _ + 4 => show PrefixFree [] from ⟨by decide, by decide⟩

/-- The same of the tables of 4:2:2 chroma DC blocks (R149). -/
theorem chroma422DcZeros_prefixFree (n : Nat) : PrefixFree (Vlc.chroma422DcZeros n) :=
  match n with
  | 0 => show PrefixFree [] from ⟨by decide, by decide⟩
  | 1 | 2 | 3 | 4 | 5 | 6 | 7 => ⟨by decide +kernel, by decide +kernel⟩
  | _ + 8 => show PrefixFree [] from ⟨by decide, by decide⟩

/-! ### The elements -/

theorem valueThen_ok {r : Except DecodeError (Nat × List Bool)} {f : Nat → Except DecodeError Element} {v : Nat}
    {el : Element} (h : r = .ok (v, rest)) (hf : f v = .ok el) : valueThen r f = .ok (el, rest) := by
  subst h
  simp only [valueThen, hf]

theorem mbTypeElement_intra {k : Nat} (h : k ≤ 25) (sl : SliceType) :
    mbTypeElement sl (k + intraOffset sl) = .ok (.iMb k sl) := by
  cases sl with
  | p => simp [mbTypeElement, intraOffset, h]
  | b => simp [mbTypeElement, intraOffset, h]
  | i => simp [mbTypeElement, intraOffset, h]

theorem intraOffset_le (sl : SliceType) : intraOffset sl ≤ 23 := by cases sl <;> decide

/-- An element that its code can spell is read back from its codeword, whatever follows it. -/
theorem decodeElement_bits {el : Element} (h : el.wellFormed = true) (rest : List Bool) :
    decodeElement el.ctx (el.bits ++ rest) = .ok (el, rest) := by
  cases el
  all_goals simp only [Element.ctx, Element.bits, decodeElement]
  case u n x =>
    obtain ⟨hn, hx⟩ := of_decide_eq_true h
    refine (if_pos hn).trans (valueThen_ok (takeNumber_bitsOf n x rest) ?_)
    rw [Nat.mod_eq_of_lt hx]
  case ue v => exact valueThen_ok (takeUe_ueBits (of_decide_eq_true h) rest) rfl
  case se v =>
    refine valueThen_ok (takeUe_ueBits (ueOfSe_le (of_decide_eq_true h)) rest) ?_
    rw [seOfUe_ueOfSe]
  case te1 => rfl
  case te2 v =>
    have hv : v ≤ 1 := of_decide_eq_true h
    rw [if_neg (by decide), if_pos trivial]
    refine valueThen_ok (takeNumber_bitsOf 1 (1 - v) rest) ?_
    rw [show 1 - (1 - v) % 2 ^ 1 = v by omega]
  case teN range v =>
    obtain ⟨hlo, hhi, hv⟩ := of_decide_eq_true h
    refine ((if_neg (by omega)).trans (if_neg (by omega))).trans ((if_pos ⟨hlo, hhi⟩).trans ?_)
    exact valueThen_ok (takeUe_ueBits hv rest) rfl
  case levelPrefix p =>
    have hp : p ≤ 31 := of_decide_eq_true h
    have hzeros : takeZeros 0 (List.replicate p false ++ [true] ++ rest) = .ok (p, rest) := by
      simpa using takeZeros_replicate (rest := rest) p 0 (by omega)
    exact valueThen_ok hzeros rfl
  case levelSuffix n x =>
    obtain ⟨hn, hx⟩ := of_decide_eq_true h
    refine (if_pos hn).trans (valueThen_ok (takeNumber_bitsOf n x rest) ?_)
    rw [Nat.mod_eq_of_lt hx]
  case sign neg =>
    cases neg
    · exact valueThen_ok (takeNumber_bitsOf 1 0 rest) rfl
    · exact valueThen_ok (takeNumber_bitsOf 1 1 rest) rfl
  case iMb k sl =>
    have hk : k ≤ 25 := of_decide_eq_true h
    have := intraOffset_le sl
    exact valueThen_ok (takeUe_ueBits (by omega) rest) (mbTypeElement_intra hk sl)
  case pMb k =>
    have hk : k ≤ 4 := of_decide_eq_true h
    exact valueThen_ok (takeUe_ueBits (by omega) rest) (if_pos (Nat.lt_succ_of_le hk))
  case bMb k =>
    have hk : k ≤ 22 := of_decide_eq_true h
    exact valueThen_ok (takeUe_ueBits (by omega) rest) (if_pos (Nat.lt_succ_of_le hk))
  case pSub k i =>
    have hk : k ≤ 3 := of_decide_eq_true h
    exact valueThen_ok (takeUe_ueBits (by omega) rest) (if_pos hk)
  case bSub k i =>
    have hk : k ≤ 12 := of_decide_eq_true h
    exact valueThen_ok (takeUe_ueBits (by omega) rest) (if_pos hk)
  case token sel t n =>
    obtain ⟨ht, hcode⟩ := Bool.and_eq_true_iff.mp h
    have ht : t ≤ 3 := of_decide_eq_true ht
    refine valueThen_ok (takeCode_codeBits (token_prefixFree sel) hcode rest) ?_
    rw [show Vlc.tokenSym t n % 4 = t by unfold Vlc.tokenSym; omega,
      show Vlc.tokenSym t n / 4 = n by unfold Vlc.tokenSym; omega]
  case zeros tc z => exact valueThen_ok (takeCode_codeBits (zeros_prefixFree tc) h rest) rfl
  case chromaDcZeros tc z => exact valueThen_ok (takeCode_codeBits (chromaDcZeros_prefixFree tc) h rest) rfl
  case chroma422DcZeros tc z => exact valueThen_ok (takeCode_codeBits (chroma422DcZeros_prefixFree tc) h rest) rfl
  case run zl r =>
    obtain ⟨hzl, hcode⟩ := Bool.and_eq_true_iff.mp h
    exact (if_pos (of_decide_eq_true hzl)).trans
      (valueThen_ok (takeCode_codeBits (run_prefixFree zl) hcode rest) rfl)

/-- An element's instruction is the one the element names, and is legal exactly when the element is. -/
theorem toInstr_of_element {i : Instr} {el : Element} (h : i.element = some el) :
    el.toInstr = some i ∧ el.wellFormed = i.wellFormed := by
  cases i <;> cases h <;> exact ⟨rfl, rfl⟩

/-- Settles O2: the element is read back from its bits, and names the instruction. -/
theorem elementRoundTrip : Obligations.ElementRoundTrip := by
  intro i el rest hi hw
  obtain ⟨hinstr, hwf⟩ := toInstr_of_element hi
  rw [decodeBits, decodeElement_bits (hwf.trans hw) rest]
  simp only [hinstr]

end Sys2Proof
end

section
/-! Proofs. The stops of every operation (60_exceptions.md R470 to R477): the kinds an operation can stop with are those of the
operations it is made of. Predictors, cache and transforms stop with a model fault only. -/

namespace Sys2Proof.Machine

variable {α β : Type} {Q : Stop → Prop} {s t : State}

/-- Every stop of the operation is one of `Q`. -/
def Op.StopsIn (Q : Stop → Prop) (m : Op α) : Prop := ∀ s e t, m s = .error e t → Q e

/-- A set of stops that has the model faults, and with every kind it rejects that kind raised (R472, R475). -/
structure StopSet (Q : Stop → Prop) : Prop where
  fault : ∀ f, Q (.faulted f)
  nested : ∀ k, Q (.rejected k) → Q (.raised k)

/-- The stops of the commands: turned away with `IllegalCommand` or `Unsupported`, an error kind raised, a model fault, or
waiting (R470, R475 to R477). -/
def Stop.Legal : Stop → Prop
  | .rejected k => k = .illegalCommand ∨ k = .unsupported
  | .raised k => k ≠ .ok
  | .faulted _ => True
  | .waiting => True

theorem Stop.legal_stopSet : StopSet Stop.Legal where
  fault _ := trivial
  nested k h := by rcases h with rfl | rfl <;> exact ErrKind.noConfusion

/-- A set of stops that has every error kind raised, and waiting. -/
structure RaiseSet (Q : Stop → Prop) : Prop extends StopSet Q where
  raised : ∀ k, k ≠ .ok → Q (.raised k)
  waiting : Q .waiting

theorem Stop.legal_raiseSet : RaiseSet Stop.Legal where
  toStopSet := Stop.legal_stopSet
  raised _ h := h
  waiting := trivial

/-- Not turned away (R475). -/
def Stop.NotRefused : Stop → Prop
  | .rejected _ => False
  | .raised _ => True
  | .faulted _ => True
  | .waiting => True

theorem Stop.notRefused_raiseSet : RaiseSet Stop.NotRefused where
  fault _ := trivial
  nested _ := False.elim
  raised _ _ := trivial
  waiting := trivial

/-- A model fault. -/
def Stop.IsFault (e : Stop) : Prop := ∃ f, e = .faulted f

theorem Stop.isFault_stopSet : StopSet Stop.IsFault where
  fault f := ⟨f, rfl⟩
  nested _ := fun ⟨_, h⟩ => Stop.noConfusion h

/-! ### Primitives and combinators -/

theorem Op.StopsIn.pure {a : α} : Op.StopsIn Q (pure a : Op α) := fun _ _ _ h => nomatch h
theorem Op.StopsIn.read {f : State → α} : Op.StopsIn Q (Op.read f) := fun _ _ _ h => nomatch h
theorem Op.StopsIn.modify {f : State → State} : Op.StopsIn Q (Op.modify f) := fun _ _ _ h => nomatch h

theorem Op.StopsIn.need (hq : StopSet Q) {f : State → Option α} : Op.StopsIn Q (Op.need f) := by
  intro s e t h
  cases hf : f s with
  | none =>
    rw [Op.need_none hf] at h
    cases h
    exact hq.fault _
  | some a =>
    rw [Op.need_some hf] at h
    cases h

theorem Op.StopsIn.stop {e : Stop} (h : Q e) : Op.StopsIn Q (Op.stop e : Op α) := by
  intro s e' t he
  cases he
  exact h

theorem Op.StopsIn.raise {k : ErrKind} (h : Q (.raised k)) : Op.StopsIn Q (Op.raise k : Op α) := Op.StopsIn.stop h

theorem Op.StopsIn.require {c : State → Bool} {e : Stop} (h : Q e) : Op.StopsIn Q (Op.require c e) := by
  intro s e' t he
  cases hc : c s with
  | true =>
    rw [Op.require_true e hc] at he
    cases he
  | false =>
    rw [Op.require_false e hc] at he
    cases he
    exact h

theorem Op.StopsIn.orStop {a : Option α} {e : Stop} (h : Q e) : Op.StopsIn Q (Op.orStop a e) := by
  intro s e' t he
  cases a <;> cases he
  exact h

/-- A sequence that stops has stopped in its first part or in its second. -/
theorem Op.bind_error_iff {m : Op α} {f : α → Op β} {e : Stop} :
    (m >>= f) s = .error e t ↔ m s = .error e t ∨ ∃ a u, m s = .ok a u ∧ f a u = .error e t := by
  rw [Op.bind_run]
  cases hm : m s with
  | ok b v => exact ⟨fun h => .inr ⟨b, v, rfl, h⟩, fun h => h.elim nofun fun ⟨_, _, hok, h⟩ => by cases hok; exact h⟩
  | error b v => exact ⟨fun h => .inl (by cases h; rfl), fun h => h.elim (fun h => by cases h; rfl) fun ⟨_, _, hok, _⟩ => nomatch hok⟩

theorem Op.StopsIn.bind {m : Op α} {f : α → Op β} (hm : Op.StopsIn Q m) (hf : ∀ a, Op.StopsIn Q (f a)) :
    Op.StopsIn Q (m >>= f) := by
  intro s e t h
  rcases Op.bind_error_iff.mp h with h | ⟨a, u, _, h⟩
  · exact hm s e t h
  · exact hf a u e t h

theorem Op.StopsIn.ite {c : Prop} [Decidable c] {m n : Op α} (hm : Op.StopsIn Q m) (hn : Op.StopsIn Q n) :
    Op.StopsIn Q (if c then m else n) := by
  split <;> assumption

theorem Op.StopsIn.when {c : Bool} {m : Op Unit} (hm : Op.StopsIn Q m) : Op.StopsIn Q (Op.when c m) :=
  Op.StopsIn.ite hm (Op.StopsIn.pure)

theorem Op.StopsIn.nested (hq : StopSet Q) {m : Op α} (hm : Op.StopsIn Q m) : Op.StopsIn Q (Op.nested m) := by
  intro s e t h
  cases hr : m s with
  | ok a u => simp [Op.nested, hr] at h
  | error e' u =>
    have he' := hm s e' u hr
    cases e' <;> simp only [Op.nested, hr, EStateM.Result.error.injEq] at h <;> obtain ⟨rfl, -⟩ := h
    case rejected k => exact hq.nested k he'
    all_goals exact he'

theorem Op.StopsIn.each {f : α → Op Unit} {as : List α} (hf : ∀ a, Op.StopsIn Q (f a)) :
    Op.StopsIn Q (Op.each as f) := by
  induction as with
  | nil => exact Op.StopsIn.pure
  | cons a as ih => exact Op.StopsIn.bind (hf a) fun _ => ih

/-- What a composite operation issues is never turned away (R472, R475). -/
theorem RaiseSet.nested_legal (hr : RaiseSet Q) {m : Op α} (hm : Op.StopsIn Stop.Legal m) : Op.StopsIn Q (Op.nested m) := by
  intro s e t h
  cases hms : m s with
  | ok a u =>
    rw [Op.nested_ok hms] at h
    cases h
  | error e' u =>
    have he := hm s e' u hms
    rw [Op.nested, hms] at h
    cases e' with
    | rejected k =>
      cases h
      rcases he with rfl | rfl <;> exact hr.raised _ ErrKind.noConfusion
    | raised k =>
      cases h
      exact hr.raised _ he
    | faulted f =>
      cases h
      exact hr.fault f
    | waiting =>
      cases h
      exact hr.waiting

theorem Op.StopsIn.eachNested (hq : StopSet Q) {f : α → Op Unit} {as : List α} (hf : ∀ a, Op.StopsIn Q (f a)) :
    Op.StopsIn Q (Op.eachNested as f) := by
  cases as with
  | nil => exact Op.StopsIn.pure
  | cons a as => exact Op.StopsIn.bind (hf a) fun _ => Op.StopsIn.each fun b => Op.StopsIn.nested hq (hf b)

theorem Op.StopsIn.collect {f : α → Op β} {as : List α} (hf : ∀ a, Op.StopsIn Q (f a)) :
    Op.StopsIn Q (Op.collect as f) := by
  induction as with
  | nil => exact Op.StopsIn.pure
  | cons a as ih => exact Op.StopsIn.bind (hf a) fun _ => Op.StopsIn.bind ih fun _ => Op.StopsIn.pure

/-! ### Operations that stop with a model fault only -/

section
variable (hq : StopSet Q)
include hq

theorem neighborAt_stops (dx dy : Int) : (neighborAt dx dy).StopsIn Q := by
  refine .bind .read fun found => ?_
  cases found with
  | none => exact .pure
  | some mb =>
    exact .bind (.need hq) fun _ => .bind .read fun _ =>
      .ite (.bind (.bind .read fun _ => .ite (.bind (.need hq) fun _ => .pure) .pure) fun _ => .pure) .pure

theorem fillNnz_stops (nb : Neighbor) (pairs : List (Nat × Nat)) : (fillNnz nb pairs).StopsIn Q :=
  .each fun _ => .bind (.ite (.need hq) .pure) fun _ => .modify

theorem fillI4_stops (nb : Neighbor) (pairs : List (Nat × Nat)) : (fillI4 nb pairs).StopsIn Q :=
  .bind (.ite (.bind (.need hq) fun _ => .pure) .pure) fun _ =>
    .each fun _ => .bind (.ite (.need hq) .pure) fun _ => .modify

theorem fillMotion_stops (nb : Neighbor) (l : Nat) (ts : List (Nat × Nat × Nat)) : (fillMotion nb l ts).StopsIn Q :=
  .each fun _ => .bind (.ite (.bind (.need hq) fun _ => .ite (.bind (.need hq) fun _ => .pure) .pure) .pure) fun _ =>
    .bind .modify fun _ => .modify

theorem cacheFill_stops : cacheFill.StopsIn Q :=
  .bind (neighborAt_stops hq _ _) fun _ => .bind (neighborAt_stops hq _ _) fun _ =>
    .bind (neighborAt_stops hq _ _) fun _ => .bind (neighborAt_stops hq _ _) fun _ => .bind .modify fun _ =>
      .bind (fillNnz_stops hq _ _) fun _ => .bind (fillNnz_stops hq _ _) fun _ => .bind .read fun _ =>
        .bind (.when (.bind (fillNnz_stops hq _ _) fun _ => .bind (fillNnz_stops hq _ _) fun _ =>
          .bind (fillNnz_stops hq _ _) fun _ => fillNnz_stops hq _ _)) fun _ =>
        .bind (fillI4_stops hq _ _) fun _ => .bind (fillI4_stops hq _ _) fun _ => .bind .read fun _ =>
        .bind (.each fun _ => .bind .modify fun _ => .modify) fun _ =>
        .bind (.each fun _ => .bind (fillMotion_stops hq _ _ _) fun _ => fillMotion_stops hq _ _ _) fun _ =>
        .each fun _ => .bind (fillMotion_stops hq _ _ _) fun _ => fillMotion_stops hq _ _ _

theorem predNnz_stops (n : Nat) : (predNnz n).StopsIn Q :=
  .bind (.need hq) fun _ => .bind (.need hq) fun _ => .bind .modify fun _ => .pure

theorem diagonal_stops (l slot w : Nat) : (diagonal l slot w).StopsIn Q :=
  .bind (.need hq) fun _ => .ite (.bind (.need hq) fun _ => .bind (.need hq) fun _ => .pure)
    (.bind (.need hq) fun _ => .pure)

theorem predMv_stops (n w l : Nat) (ref : BitVec 8) : (predMv n w l ref).StopsIn Q :=
  .bind (.need hq) fun _ => .bind (.need hq) fun _ => .bind (.need hq) fun _ => .bind (.need hq) fun _ =>
    .bind (diagonal_stops hq _ _ _) fun _ => .modify

theorem directional_stops (l slot : Nat) (ref : BitVec 8) {m : Op Unit} (hm : m.StopsIn Q) :
    (directional l slot ref m).StopsIn Q :=
  .bind (.need hq) fun _ => .ite (.bind (.need hq) fun _ => .modify) hm

theorem predMv16x8_stops (n l : Nat) (ref : BitVec 8) : (predMv16x8 n l ref).StopsIn Q :=
  directional_stops hq _ _ _ (predMv_stops hq _ _ _ _)

theorem predMv8x16_stops (n l : Nat) (ref : BitVec 8) : (predMv8x16 n l ref).StopsIn Q :=
  .ite (directional_stops hq _ _ _ (predMv_stops hq _ _ _ _))
    (.bind (diagonal_stops hq _ _ _) fun _ => .ite .modify (predMv_stops hq _ _ _ _))

theorem predMvPskip_stops : predMvPskip.StopsIn Q :=
  .bind (.need hq) fun _ => .bind (.need hq) fun _ => .bind (.need hq) fun _ => .bind (.need hq) fun _ =>
    .ite .modify (predMv_stops hq _ _ _ _)

theorem predI4Mode_stops (n : Nat) : (predI4Mode n).StopsIn Q :=
  .bind (.need hq) fun _ => .bind (.need hq) fun _ => .bind .modify fun _ => .pure

theorem writebackMotion_stops (mb : Nat) (intra : Bool) (l : Nat) : (writebackMotion mb intra l).StopsIn Q :=
  .bind (.each fun _ => .bind (.ite .pure (.need hq)) fun _ => .modify) fun _ =>
    .each fun _ => .bind (.ite .pure (.need hq)) fun _ => .modify

theorem cacheWriteback_stops : cacheWriteback.StopsIn Q :=
  .bind (.require (hq.fault _)) fun _ => .bind (.need hq) fun _ => .bind .read fun _ => .bind .read fun _ =>
    .bind (.ite .pure (.need hq)) fun _ => .bind .modify fun _ =>
      .bind (.each fun _ => .bind (.need hq) fun _ => .modify) fun _ =>
      .bind (.when (.each fun _ => .bind (.need hq) fun _ => .modify)) fun _ => .bind .read fun _ =>
      .each fun _ => writebackMotion_stops hq _ _ _

theorem updateBlock_stops (p x y w h : Nat) (f : State → Nat → Nat → Sample) : (updateBlock p x y w h f).StopsIn Q :=
  .bind (.require (hq.fault _)) fun _ => .modify

theorem mcDst_stops : mcDst.StopsIn Q :=
  .bind (.need hq) fun _ => .bind (.need hq) fun _ => .bind (.need hq) fun _ => .bind (.need hq) fun _ => .pure

theorem mcSrc_stops : mcSrc.StopsIn Q :=
  .bind (.need hq) fun _ => .bind (.need hq) fun _ => .bind (.need hq) fun _ => .bind (.need hq) fun _ =>
    .bind (.need hq) fun _ => .bind (.need hq) fun _ => .pure

theorem weightUni_stops (p l r : Nat) : (weightUni p l r).StopsIn Q :=
  .bind (mcDst_stops hq) fun _ => .bind (.need hq) fun _ => .bind (.need hq) fun _ => updateBlock_stops hq _ _ _ _ _ _

theorem addResidual_stops (pos : State → BlockPos) (n : Nat) (f : State → Nat → Nat → Int) :
    (addResidual pos n f).StopsIn Q :=
  .bind .read fun _ => updateBlock_stops hq _ _ _ _ _ _

/-- The shape of the transforms that add a residual. -/
theorem addResidual_zeroCoefs_stops (pos : State → BlockPos) (n k m : Nat) (f : State → Nat → Nat → Int) :
    Op.StopsIn Q (addResidual pos n f >>= fun _ => zeroCoefs k m) :=
  .bind (addResidual_stops hq _ _ _) fun _ => .modify

theorem intraMode_stops (kind b : Nat) : (intraMode kind b).StopsIn Q := by
  unfold intraMode
  split
  · exact .bind (.need hq) fun _ => .pure
  · exact .bind (.need hq) fun _ => .pure
  · exact .need hq
  · exact .need hq

theorem intraPred_stops (kind b : Nat) : (intraPred kind b).StopsIn Q :=
  .bind (intraMode_stops hq _ _) fun _ => .bind (.collect fun _ => .need hq) fun _ => .bind .read fun _ =>
    .bind .read fun _ => updateBlock_stops hq _ _ _ _ _ _

theorem add4_stops (kind : MbKind) (b : Nat) : (add4 kind b).StopsIn Q :=
  .bind (.need hq) fun _ => .bind .read fun _ =>
    .ite (.ite (addResidual_zeroCoefs_stops hq _ _ _ _ _) (.ite (addResidual_zeroCoefs_stops hq _ _ _ _ _) .pure))
      (.ite .pure (.ite (addResidual_zeroCoefs_stops hq _ _ _ _ _) (addResidual_zeroCoefs_stops hq _ _ _ _ _)))

theorem add8_stops (q : Nat) : (add8 q).StopsIn Q :=
  .bind (.need hq) fun _ => .bind .read fun _ => .ite .pure
    (.ite (addResidual_zeroCoefs_stops hq _ _ _ _ _) (addResidual_zeroCoefs_stops hq _ _ _ _ _))

end

theorem lumaDcDequantIdct_stops (qmul : Nat) : (lumaDcDequantIdct qmul).StopsIn Q :=
  .bind (.bind .read fun _ => .each fun _ => .modify) fun _ => .modify

theorem chromaDcDequantIdct_stops (c qmul : Nat) : (chromaDcDequantIdct c qmul).StopsIn Q :=
  .bind (.bind .read fun _ => .each fun _ => .modify) fun _ => .modify

theorem chroma422DcDequantIdct_stops (c qmul : Nat) : (chroma422DcDequantIdct c qmul).StopsIn Q :=
  .bind .read fun _ => .each fun _ => .modify

/-! ### The bit reader and residual blocks -/

theorem legal_illegal : Stop.Legal (.rejected .illegalCommand) := .inl rfl
theorem legal_unsupported : Stop.Legal (.rejected .unsupported) := .inr rfl

section
open Stop (Legal)

section
variable (hr : RaiseSet Q)
include hr

theorem skipBits_stops (n : Nat) : (skipBits n).StopsIn Q := .bind (.require (hr.raised _ ErrKind.noConfusion)) fun _ => .modify

theorem readBits_stops (n : Nat) : (readBits n).StopsIn Q :=
  .bind .read fun _ => .bind (skipBits_stops hr n) fun _ => .pure

theorem countZeros_stops {k : ErrKind} (hk : k ≠ .ok) : ∀ left zeros, (countZeros k left zeros).StopsIn Q
  | 0, _ => .raise (hr.raised _ hk)
  | left + 1, zeros => .bind (readBits_stops hr 1) fun _ => .ite (countZeros_stops hk left (zeros + 1)) .pure

theorem readUe_stops : readUe.StopsIn Q :=
  .bind (countZeros_stops hr ErrKind.noConfusion _ _) fun _ => .bind (readBits_stops hr _) fun _ => .pure

theorem readSe_stops : readSe.StopsIn Q := .bind (readUe_stops hr) fun _ => .pure

theorem readTe_stops (range : Nat) : (readTe range).StopsIn Q :=
  .ite .pure (.ite (.bind (readBits_stops hr 1) fun _ => .pure) (readUe_stops hr))

end

theorem vlcDecode_stops (table : List Vlc.Code) : (vlcDecode table).StopsIn Legal :=
  .bind (.require legal_illegal) fun _ => .bind .read fun _ => .bind (.orStop ErrKind.noConfusion) fun _ =>
    .bind (skipBits_stops Stop.legal_raiseSet _) fun _ => .pure

theorem readCoeffToken_stops (table : List Vlc.Code) : (readCoeffToken table).StopsIn Legal :=
  .bind (vlcDecode_stops table) fun _ => .modify

theorem setLevel_stops (i : Nat) (v : Int) : (setLevel i v).StopsIn Legal := .bind (.require trivial) fun _ => .modify

theorem need_stops {f : State → Option α} : (Op.need f).StopsIn Legal := .need Stop.legal_stopSet

theorem needBlock_stops : needBlock.StopsIn Legal :=
  .bind need_stops fun _ => .bind need_stops fun _ => .bind (.require legal_illegal) fun _ => .pure

theorem readTrailingSigns_stops : readTrailingSigns.StopsIn Legal :=
  .bind needBlock_stops fun _ => .bind need_stops fun _ =>
    .bind (.each fun _ => .bind (readBits_stops Stop.legal_raiseSet 1) fun _ => setLevel_stops _ _) fun _ => .modify

theorem decodeLevel_stops (sl : Nat) (first : Bool) : (decodeLevel sl first).StopsIn Legal :=
  .bind (countZeros_stops Stop.legal_raiseSet ErrKind.noConfusion _ _) fun _ => .bind (.require ErrKind.noConfusion) fun _ =>
    .bind (readBits_stops Stop.legal_raiseSet _) fun _ => .pure

theorem readLevel_stops : readLevel.StopsIn Legal :=
  .bind need_stops fun _ => .bind need_stops fun _ => .bind (.require legal_illegal) fun _ => .bind need_stops fun _ =>
    .bind need_stops fun _ => .bind (decodeLevel_stops _ _) fun _ => .bind (setLevel_stops _ _) fun _ => .modify

theorem readTotalZeros_stops : readTotalZeros.StopsIn Legal :=
  .bind needBlock_stops fun _ =>
    .bind (.ite .pure (.bind (.require trivial) fun _ => vlcDecode_stops _)) fun _ => .modify

theorem useRun_stops (zl : Int) (run : Nat) : (useRun zl run).StopsIn Legal :=
  .bind .modify fun _ => .bind (.require ErrKind.noConfusion) fun _ => .modify

theorem readRunBefore_stops : readRunBefore.StopsIn Legal :=
  .bind need_stops fun _ => .bind (.require legal_illegal) fun _ => .bind (vlcDecode_stops _) fun _ => useRun_stops _ _

theorem setDest_stops (r : ResidualArgs) (idx : Nat) (v : Int) : (r.setDest idx v).StopsIn Q :=
  .ite .modify (.ite .modify (.ite .modify .modify))

theorem storeLevel_stops (r : ResidualArgs) (pos : Nat) (v : Int) : (storeLevel r pos v).StopsIn Legal :=
  .bind need_stops fun _ => .bind (.require trivial) fun _ =>
    .ite (.bind (.ite need_stops (.bind (.require trivial) fun _ => need_stops)) fun _ => setDest_stops _ _ _)
      (setDest_stops _ _ _)

theorem scatterFrom_stops (r : ResidualArgs) : ∀ n i pos, (scatterFrom r n i pos).StopsIn Legal
  | 0, _, _ => .pure
  | n + 1, i, _ =>
    .bind need_stops fun _ => .bind (.ite (.bind readRunBefore_stops fun _ => need_stops) .pure) fun _ =>
      .bind need_stops fun _ => .bind (storeLevel_stops _ _ _) fun _ => scatterFrom_stops r n (i + 1) _

theorem scatter_stops (r : ResidualArgs) : (scatter r).StopsIn Legal :=
  .bind need_stops fun _ => .bind need_stops fun _ => .bind (.require ErrKind.noConfusion) fun _ =>
    .bind need_stops fun _ => .bind (storeLevel_stops _ _ _) fun _ => scatterFrom_stops _ _ _ _

theorem readLevels_stops : ∀ n, (readLevels n).StopsIn Legal
  | 0 => .pure
  | n + 1 => .bind need_stops fun _ => .bind need_stops fun _ =>
    .ite (.bind readLevel_stops fun _ => readLevels_stops n) .pure

theorem residualLevels_stops (r : ResidualArgs) (total : Nat) : (residualLevels r total).StopsIn Legal :=
  .bind (.require ErrKind.noConfusion) fun _ => .bind readTrailingSigns_stops fun _ => .bind (readLevels_stops 16) fun _ =>
    .bind readTotalZeros_stops fun _ => scatter_stops r

theorem selectTokenTable_stops (r : ResidualArgs) : (selectTokenTable r).StopsIn Legal :=
  .ite .pure (.ite .pure (.bind (predNnz_stops Stop.legal_stopSet _) fun _ => .bind (.require trivial) fun _ => .pure))

theorem decodeResidual_stops (r : ResidualArgs) : (decodeResidual r).StopsIn Legal :=
  .bind (.require legal_illegal) fun _ => .bind .modify fun _ => .bind (selectTokenTable_stops r) fun _ =>
    .bind (readCoeffToken_stops _) fun _ => .bind need_stops fun _ => .bind .modify fun _ =>
    .bind (.when (.nested Stop.legal_stopSet (residualLevels_stops _ _))) fun _ => .bind .modify fun _ => .modify

theorem tokenStep_stops (sel : Nat) : (tokenStep sel).StopsIn Legal :=
  .bind .modify fun _ => readCoeffToken_stops _

/-! ### Reading a macroblock -/

theorem sliceStart_stops (pos : Word) : (sliceStart pos).StopsIn Legal :=
  .bind (.require legal_illegal) fun _ => .bind (.require legal_unsupported) fun _ =>
    .bind (.require legal_illegal) fun _ => .modify

theorem writeDirect_stops (blocks : Nat → DirectBlock) (l : Nat) (ns : List Nat) : (writeDirect blocks l ns).StopsIn Q :=
  .each fun _ => .bind .modify fun _ => .modify

theorem directMotion_stops : directMotion.StopsIn Q := .bind .read fun _ => .each fun _ => writeDirect_stops _ _ _

section
variable (hr : RaiseSet Q)
include hr

theorem isSkipped_stops (sl : SliceType) : (isSkipped sl).StopsIn Q :=
  .ite .pure (.bind .read fun _ =>
    .bind (.ite (.bind (readUe_stops hr) fun _ => .bind .modify fun _ => .require (hr.raised _ ErrKind.noConfusion)) .pure) fun _ =>
    .bind .read fun _ => .ite (.bind .modify fun _ => .pure) (.bind .modify fun _ => .pure))

theorem skippedMacroblock_stops : skippedMacroblock.StopsIn Q :=
  .bind .read fun _ => .bind .modify fun _ => .bind (cacheFill_stops hr.toStopSet) fun _ =>
    .bind (.ite directMotion_stops (.bind (predMvPskip_stops hr.toStopSet) fun _ => .bind (.need hr.toStopSet) fun _ =>
      .bind (.need hr.toStopSet) fun _ => .bind .modify fun _ => .modify)) fun _ => .modify

theorem readMbType_stops : readMbType.StopsIn Q :=
  .bind (readUe_stops hr) fun _ => .bind .read fun _ => .bind (.orStop (hr.raised _ ErrKind.noConfusion)) fun _ => .modify

theorem intraModeStep_stops (big : Bool) (n : Nat) : (intraModeStep big n).StopsIn Q :=
  .bind (predI4Mode_stops hr.toStopSet n) fun _ =>
    .bind (.bind (readBits_stops hr 1) fun _ => .ite .pure (.bind (readBits_stops hr 3) fun _ => .pure)) fun _ =>
    .bind .modify fun _ => .modify

theorem intraModes_stops : intraModes.StopsIn Q :=
  .bind .read fun _ => .bind (.ite (readBits_stops hr 1) .pure) fun _ => .bind .modify fun _ =>
    .each fun _ => intraModeStep_stops hr _ _

theorem intraChromaMode_stops : intraChromaMode.StopsIn Q :=
  .bind .read fun _ => .when (.bind (readUe_stops hr) fun _ => .bind (.require (hr.raised _ ErrKind.noConfusion)) fun _ => .modify)

theorem intraPcm_stops : intraPcm.StopsIn Q :=
  .bind .modify fun _ => .bind (.require (hr.raised _ ErrKind.noConfusion)) fun _ => .bind .read fun _ => .bind .read fun _ =>
    .bind (.each fun _ => .bind (readBits_stops hr _) fun _ => .modify) fun _ => .bind .modify fun _ => .modify

theorem refIfUsed_stops (uses : Bool) (l : Nat) : (refIfUsed uses l).StopsIn Q :=
  .ite (.bind (.need hr.toStopSet) fun _ => .bind .read fun _ => .bind (readTe_stops hr _) fun _ =>
    .bind (.require (hr.raised _ ErrKind.noConfusion)) fun _ => .pure) .pure

theorem readMv_stops : readMv.StopsIn Q :=
  .bind (.need hr.toStopSet) fun _ => .bind (.need hr.toStopSet) fun _ =>
    .bind (readSe_stops hr) fun _ => .bind (readSe_stops hr) fun _ => .pure

theorem predict_stops (part : Part) (l : Nat) (ref : BitVec 8) : (part.predict l ref).StopsIn Q :=
  .ite (predMv_stops hr.toStopSet _ _ _ _)
    (.ite (predMv16x8_stops hr.toStopSet _ _ _) (predMv8x16_stops hr.toStopSet _ _ _))

theorem interParts_stops (parts : List Part) : (interParts parts).StopsIn Q :=
  .bind .read fun _ =>
    .bind (.collect fun _ => .bind (.need hr.toStopSet) fun _ =>
      .bind (refIfUsed_stops hr _ _) fun _ => .bind .modify fun _ => .pure) fun _ =>
    .each fun _ => .bind (.ite (.bind (predict_stops hr _ _ _) fun _ => readMv_stops hr) .pure) fun _ => .modify

theorem quadrantRef_stops (direct : List (Nat → DirectBlock)) (c : Nat × Nat) : (quadrantRef direct c).StopsIn Q := by
  refine .bind (.need hr.toStopSet) fun sub => .bind ?_ fun _ => .pure
  unfold quadrantRefValue
  split
  · exact .pure
  · exact refIfUsed_stops hr _ _

theorem piecesMv_stops (shape : SubShape) (l i : Nat) (ref : BitVec 8) : (piecesMv shape l i ref).StopsIn Q :=
  .each fun _ => .bind (predMv_stops hr.toStopSet _ _ _ _) fun _ => .bind (readMv_stops hr) fun _ => .modify

theorem quadrantMv_stops (direct : List (Nat → DirectBlock)) (c : PartRef Nat) : (quadrantMv direct c).StopsIn Q := by
  refine .bind (.need hr.toStopSet) fun sub => ?_
  cases sub.shape with
  | none => exact writeDirect_stops _ _ _
  | some shape => exact .bind .modify fun _ => .ite (piecesMv_stops hr _ _ _ _) .modify

theorem inter8x8_stops : inter8x8.StopsIn Q :=
  .bind (.each fun _ => .bind (readUe_stops hr) fun _ => .bind .read fun _ => .bind (.require (hr.raised _ ErrKind.noConfusion)) fun _ =>
    .modify) fun _ => .bind (.collect fun _ => .read) fun _ => .bind .read fun _ =>
    .bind (.collect fun _ => quadrantRef_stops hr _ _) fun _ => .each fun _ => quadrantMv_stops hr _ _

theorem predictionSyntax_stops (kind : MbKind) : (predictionSyntax kind).StopsIn Q := by
  cases kind with
  | intra4x4 => exact .bind (intraModes_stops hr) fun _ => intraChromaMode_stops hr
  | intra16x16 => exact intraChromaMode_stops hr
  | intraPcm => exact .pure
  | inter16x16 | inter16x8 | inter8x16 => exact interParts_stops hr _
  | inter8x8 => exact inter8x8_stops hr
  | direct => exact directMotion_stops

theorem readCbp_stops (kind : MbKind) : (readCbp kind).StopsIn Q :=
  .bind (readUe_stops hr) fun _ => .bind .read fun _ => .bind (.orStop (hr.raised _ ErrKind.noConfusion)) fun _ => .modify

theorem transform8x8Allowed_stops (kind : MbKind) : (transform8x8Allowed kind).StopsIn Q := by
  refine .bind .read fun _ => .bind .read fun _ => ?_
  cases kind with
  | inter8x8 => exact .bind (.collect fun _ => .need hr.toStopSet) fun _ => .pure
  | intra4x4 | intra16x16 | intraPcm | inter16x16 | inter16x8 | inter8x16 | direct => exact .pure

theorem interTransformFlag_stops (kind : MbKind) : (interTransformFlag kind).StopsIn Q :=
  .bind (transform8x8Allowed_stops hr kind) fun _ => .bind (.need hr.toStopSet) fun _ =>
    .when (.bind (readBits_stops hr 1) fun _ => .modify)

theorem quantizerDelta_stops : quantizerDelta.StopsIn Q :=
  .bind (readSe_stops hr) fun _ => .bind .read fun _ => .bind (.orStop (hr.raised _ ErrKind.noConfusion)) fun _ => .bind .modify fun _ =>
    .each fun _ => .bind (.need hr.toStopSet) fun _ => .bind (.require (hr.fault _)) fun _ => .modify

theorem residualBlocks_stops (rs : List ResidualArgs) : (residualBlocks rs).StopsIn Q :=
  .each fun _ => hr.nested_legal (decodeResidual_stops _)

theorem quadrantResidual_stops (intra dct8x8 : Bool) (cbp qp q : Nat) :
    (quadrantResidual intra dct8x8 cbp qp q).StopsIn Q :=
  .ite (.ite (.bind (residualBlocks_stops hr _) fun _ => .bind (.bind (.collect fun _ => .need hr.toStopSet) fun _ => .pure) fun _ =>
    .modify) (residualBlocks_stops hr _)) (.bind .modify fun _ => .modify)

theorem lumaResidual_stops (kind : MbKind) (cbp : Nat) : (lumaResidual kind cbp).StopsIn Q :=
  .bind .read fun _ => .ite (.bind (residualBlocks_stops hr _) fun _ => .ite (residualBlocks_stops hr _) .modify)
    (.bind (.need hr.toStopSet) fun _ => .each fun _ => quadrantResidual_stops hr _ _ _ _ _)

theorem chromaResidual_stops (intra : Bool) (cbp : Nat) : (chromaResidual intra cbp).StopsIn Q :=
  .bind .read fun _ => .bind (.when (residualBlocks_stops hr _)) fun _ =>
    .ite (.each fun _ => .bind (.need hr.toStopSet) fun _ => residualBlocks_stops hr _) .modify

theorem residualSyntax_stops (kind : MbKind) : (residualSyntax kind).StopsIn Q :=
  .bind (.need hr.toStopSet) fun _ =>
    .ite (.bind (quantizerDelta_stops hr) fun _ => .bind (lumaResidual_stops hr _ _) fun _ => chromaResidual_stops hr _ _)
      (.bind .modify fun _ => .each fun _ => .modify)

theorem codedMacroblock_stops : codedMacroblock.StopsIn Q :=
  .bind (readMbType_stops hr) fun _ => .bind (cacheFill_stops hr.toStopSet) fun _ => .bind (.need hr.toStopSet) fun _ =>
    .ite (intraPcm_stops hr) (.bind (predictionSyntax_stops hr _) fun _ => .bind (.when (readCbp_stops hr _)) fun _ =>
      .bind (interTransformFlag_stops hr _) fun _ => .bind (residualSyntax_stops hr _) fun _ => .modify)

theorem mbDecode_stops : mbDecode.StopsIn Q :=
  .bind .read fun _ => .bind (isSkipped_stops hr _) fun _ => .ite (skippedMacroblock_stops hr) (codedMacroblock_stops hr)

end

/-! ### Motion compensation and reconstruction -/

theorem sampleOp_stops (p : Nat) (f : Formula) : (sampleOp p f).StopsIn Legal :=
  .bind (mcDst_stops Stop.legal_stopSet) fun _ => .bind (mcSrc_stops Stop.legal_stopSet) fun _ =>
    .bind (.require legal_illegal) fun _ => .bind .read fun _ => .bind (.orStop trivial) fun _ =>
    .bind (.require trivial) fun _ => .modify

theorem mcChroma_stops (p : Nat) : (mcChroma p).StopsIn Legal :=
  .bind need_stops fun _ => .bind need_stops fun _ => sampleOp_stops _ _

theorem waitRow_stops (l r : Nat) (row : Int) : (waitRow l r row).StopsIn Legal :=
  .bind (.require legal_illegal) fun _ => .bind .read fun _ => .bind (.orStop trivial) fun _ => .require trivial

theorem weightBi_stops (p r0 r1 : Nat) : (weightBi p r0 r1).StopsIn Legal :=
  .bind (.require legal_unsupported) fun _ => .bind (.require legal_illegal) fun _ =>
    .bind (mcDst_stops Stop.legal_stopSet) fun _ =>
    .bind (.bind .read fun _ => .ite (.bind need_stops fun _ => .bind need_stops fun _ => .bind need_stops fun _ =>
      .bind need_stops fun _ => .bind .read fun _ => .pure) (.bind need_stops fun _ => .pure)) fun _ =>
    .bind (.require trivial) fun _ => updateBlock_stops Stop.legal_stopSet _ _ _ _ _ _

theorem implicitWeight_stops : implicitWeight.StopsIn Legal :=
  .bind (.require legal_unsupported) fun _ => .bind .read fun _ => .bind .read fun _ =>
    .each fun _ => .bind (.bind need_stops fun _ => .ite .pure need_stops) fun _ =>
      .bind (.ite .pure (.bind need_stops fun _ => .bind need_stops fun _ => .read)) fun _ => .modify

theorem partitionPredict_stops (q : McPartition) (slot : Nat) (weighted : Bool) (c : (Nat × Nat) × Nat) :
    (q.predict slot weighted c).StopsIn Legal :=
  .bind need_stops fun _ => .bind .read fun _ => .bind (waitRow_stops _ _ _) fun _ => .bind .modify fun _ =>
    .bind (.bind .modify fun _ => .bind .modify fun _ => .nested Stop.legal_stopSet (sampleOp_stops _ _)) fun _ =>
    .bind .read fun _ => .each fun _ => .bind .modify fun _ => .bind .modify fun _ => .bind .modify fun _ =>
      .nested Stop.legal_stopSet (mcChroma_stops _)

theorem partitionWeight_stops (q : McPartition) (used : List (Nat × Nat)) : (q.weight used).StopsIn Legal := by
  refine .bind .read fun _ => .each fun _ => .bind .modify fun _ => ?_
  split
  · exact .nested Stop.legal_stopSet (weightUni_stops Stop.legal_stopSet _ _ _)
  · exact .nested Stop.legal_stopSet (weightBi_stops _ _ _)
  · exact .pure

theorem mcPart_stops (n w h : Nat) : (mcPart n w h).StopsIn Legal :=
  .bind .read fun _ => .bind (.bind .read fun _ => .bind (.collect fun _ => need_stops) fun _ => .pure) fun _ =>
    .bind (.require legal_illegal) fun _ => .bind .read fun _ =>
    .bind (.eachNested Stop.legal_stopSet fun _ => partitionPredict_stops _ _ _ _) fun _ =>
    .when (partitionWeight_stops _ _)

theorem reconPcm_stops : reconPcm.StopsIn Legal :=
  .bind (pcm _ _ _) fun _ => .bind .read fun _ => .when (.bind (pcm _ _ _) fun _ => pcm _ _ _)
where
  pcm (p k n : Nat) : (pcmBlock p k n).StopsIn Legal :=
    .bind (.require trivial) fun _ => .bind .read fun _ => .bind .read fun _ =>
      updateBlock_stops Stop.legal_stopSet _ _ _ _ _ _

theorem interPartitions_stops (kind : MbKind) : (interPartitions kind).StopsIn Legal := by
  cases kind with
  | inter8x8 => exact .bind (.collect fun _ => need_stops) fun _ => .pure
  | intra4x4 | intra16x16 | intraPcm | inter16x16 | inter16x8 | inter8x16 | direct => exact .pure

theorem intraLuma_stops (kind : MbKind) : (intraLuma kind).StopsIn Legal :=
  have hq := Stop.legal_stopSet
  .ite
    (.bind need_stops fun _ => .ite (.each fun _ => .bind (intraPred_stops hq _ _) fun _ => add8_stops hq _)
      (.each fun _ => .bind (intraPred_stops hq _ _) fun _ => add4_stops hq _ _))
    (.bind (intraPred_stops hq _ _) fun _ => .bind need_stops fun _ =>
      .bind (.when (.bind .read fun _ => .bind need_stops fun _ => lumaDcDequantIdct_stops _)) fun _ =>
      .each fun _ => add4_stops hq _ _)

theorem reconLuma_stops (kind : MbKind) : (reconLuma kind).StopsIn Legal :=
  have hq := Stop.legal_stopSet
  .ite (intraLuma_stops kind)
    (.bind (.bind (interPartitions_stops kind) fun _ => .eachNested hq fun _ => mcPart_stops _ _ _) fun _ =>
      .bind need_stops fun _ => .ite (.each fun _ => add8_stops hq _) (.each fun _ => add4_stops hq _ _))

theorem reconChroma_stops (kind : MbKind) : (reconChroma kind).StopsIn Legal :=
  have hq := Stop.legal_stopSet
  .bind .read fun _ => .when (
    .bind (.when (.bind (intraPred_stops hq _ _) fun _ => intraPred_stops hq _ _)) fun _ => .bind need_stops fun _ =>
    .when (.each fun _ => .bind need_stops fun _ => .bind (.when (.bind need_stops fun _ => .bind need_stops fun _ =>
      chromaDcDequantIdct_stops _ _)) fun _ => .each fun _ => add4_stops hq _ _))

theorem reconSamples_stops (kind : MbKind) : (reconSamples kind).StopsIn Legal :=
  .ite reconPcm_stops (.bind (reconLuma_stops kind) fun _ => reconChroma_stops kind)

theorem mbRecon_stops : mbRecon.StopsIn Legal :=
  .bind need_stops fun _ => .bind (reconSamples_stops _) fun _ => .bind .modify fun _ =>
    .bind (cacheWriteback_stops Stop.legal_stopSet) fun _ => .bind .modify fun _ => .modify

/-! ### Elements -/

theorem expectElement_stops (ctx : ElemCtx) : (expectElement ctx).StopsIn Legal := by
  cases ctx with
  | u | ue | se | te | levelPrefix | levelSuffix | sign | mbType | token => exact .require legal_illegal
  | subMbType =>
    exact .bind (.require legal_illegal) fun _ => .bind need_stops fun _ => .require legal_illegal
  | zeros | chromaDcZeros | chroma422DcZeros =>
    exact .bind (.require legal_illegal) fun _ => .bind needBlock_stops fun _ => .require legal_illegal
  | run => exact .bind (.require legal_illegal) fun _ => .bind need_stops fun _ => .require legal_illegal

theorem elementEffect_stops (el : Element) : (elementEffect el).StopsIn Legal := by
  cases el with
  | levelPrefix => exact .bind (.require ErrKind.noConfusion) fun _ => .modify
  | run => exact .bind need_stops fun _ => useRun_stops _ _
  | u | ue | se | te1 | te2 | teN | levelSuffix | sign | iMb | pMb | bMb | pSub | bSub | token | zeros | chromaDcZeros
  | chroma422DcZeros => exact .modify

theorem takeElement_stops (el : Element) : (takeElement el).StopsIn Legal :=
  .bind (expectElement_stops _) fun _ => .bind (skipBits_stops Stop.legal_raiseSet _) fun _ => elementEffect_stops el

end

end Sys2Proof.Machine
end

section
/-! Proofs. The invariants of a step (10_state.md R24, section 5; 43_mb_type_motion.md R300): each survives every write of the
machine, so it survives a step; and what power-on and `RESET` leave. -/

namespace Sys2Proof.Machine

open Sys2Proof.Stated

variable {s t : State}

/-! ### The canonical form -/

theorem memWf_stepWrites : StepWrites (fun s => s.memWf = true) where
  toExecWrites := memWf_execWrites
  port _ _ _ h := h
  platform _ act h := memWf_platformAct h act

/-- Settles O11. -/
theorem stepKeepsCanonicalForm : Obligations.StepKeepsCanonicalForm := fun _ _ => step_keeps memWf_stepWrites

/-- Settles O13. -/
theorem resetMeetsInvariants : Obligations.ResetMeetsInvariants := by
  unfold Obligations.ResetMeetsInvariants
  decide

/-! ### Cursor, control registers and address -/

/-- The part of the state that the bounds of a step speak of. -/
structure Control where
  bitpos : Nat
  bsLen : Nat
  mbX : BitVec 16
  mbY : BitVec 16
  vlcReady : Bool
  engine : EngState
  cr0 : Word
  cr1 : Word
  cr2 : Word
  cr3 : Word
  cr9 : Word

def State.control (s : State) : Control :=
  ⟨s.bitpos, s.bsLen, s.mbX, s.mbY, s.vlcReady, s.engine, s.cr0, s.cr1, s.cr2, s.cr3, s.cr9⟩

/-- The writes that touch that part. -/
structure ControlPartWrites (P : State → Prop) : Prop extends ControlWrites P, BitWrites P where
  raise : ∀ s k, P s → P (s.raise k)
  align : ∀ s, P s → P { s with bitpos := s.alignedPos }
  quantizer : ∀ s q, q ≤ s.maxQp → P s → P (s.setQscale q)
  advance : ∀ s, P s → P s.advanceMb

/-- A property of that part survives every instruction if it survives the writes that touch it. -/
theorem ControlPartWrites.execWrites {P : State → Prop} (h : ControlPartWrites P)
    (hp : ∀ s t : State, t.control = s.control → P s → P t) : ExecWrites P where
  toControlWrites := h.toControlWrites
  toBitWrites := h.toBitWrites
  raise := h.raise
  align := h.align
  quantizer := h.quantizer
  advance := h.advance
  status s _ := hp s _ rfl
  wait s _ _ := hp s _ rfl
  regs s _ _ _ _ _ _ _ _ _ _ := hp s _ rfl
  level s _ _ := hp s _ rfl
  clearLevel s := hp s _ rfl
  nnz s _ _ := hp s _ rfl
  coef s _ _ := hp s _ rfl
  lumaDc s _ _ := hp s _ rfl
  chromaDc s _ _ := hp s _ rfl
  zeroCoef s _ := hp s _ rfl
  zeroLumaDc s := hp s _ rfl
  zeroChromaDc s _ := hp s _ rfl
  zeroAll s := hp s _ rfl
  mv s _ _ := hp s _ rfl
  ref s _ _ := hp s _ rfl
  i4 s _ _ := hp s _ rfl
  latches s _ _ _ _ _ _ _ _ := hp s _ rfl
  pm s _ _ := hp s _ rfl
  pmode s _ _ := hp s _ rfl
  whole s _ _ := hp s _ rfl
  cbp s _ := hp s _ rfl
  dct8x8 s _ := hp s _ rfl
  chromaMode s _ := hp s _ rfl
  sub s _ _ := hp s _ rfl
  i4Mode s _ _ := hp s _ rfl
  nnzSum s _ _ := hp s _ rfl
  skipRun s _ := hp s _ rfl
  chromaQp s _ _ := hp s _ rfl
  pcm s _ _ := hp s _ rfl
  block s _ _ _ _ _ _ hs _ := hp s _ rfl hs
  mc s _ := hp s _ rfl
  tmp s _ _ _ _ _ _ := hp s _ rfl
  counter s _ := hp s _ rfl
  macroblock s _ _ _ _ := hp s _ rfl
  picNnz s _ _ := hp s _ rfl
  picI4 s _ _ := hp s _ rfl
  picRef s _ _ := hp s _ rfl
  picMv s _ _ := hp s _ rfl
  res s _ := hp s _ rfl
  weight s _ _ := hp s _ rfl

/-- No act of the platform but power-on touches that part. -/
theorem control_platformAct {act : PlatformAct} (h : act ≠ .powerOn) (s : State) :
    (s.platformAct act).control = s.control := by
  cases act with
  | bytes => rfl
  | newPicture =>
    simp only [State.platformAct, State.newPicture]
    split <;> rfl
  | reference l r pic =>
    simp only [State.platformAct, State.setReference]
    split
    · split <;> rfl
    · rfl
  | progress l r row =>
    simp only [State.platformAct]
    split <;> rfl
  | powerOn => exact absurd rfl h

theorem ControlPartWrites.stepWrites {P : State → Prop} (h : ControlPartWrites P)
    (hp : ∀ s t : State, t.control = s.control → P s → P t) (hpower : ∀ s, P s → P s.powerOn) : StepWrites P where
  toExecWrites := h.execWrites hp
  port s _ _ := hp s _ rfl
  platform s act hs := by
    by_cases ha : act = .powerOn
    · rw [ha]
      exact hpower s hs
    · exact hp s _ (control_platformAct ha s) hs

/-- The cursor stays inside the buffer (10_state.md R24). -/
theorem cursorOk_writes : ControlPartWrites (fun s => s.bitpos ≤ s.bsLen) where
  raise _ _ h := h
  vlc _ _ h := h
  load s len _ _ := Nat.zero_le len
  seek _ _ _ hn _ := hn
  cr s r v _ h := by unfold State.setControlReg; split <;> exact h
  table _ _ _ _ _ h := h
  reset _ _ := Nat.le_refl 0
  start _ _ _ _ _ _ h := h
  finish _ _ h := h
  skip _ _ _ h := h
  align s _ := Nat.min_le_right _ s.bsLen
  quantizer _ _ _ h := h
  advance _ h := h

/-- Masking with the bits below `n` leaves the others 0. -/
theorem extractLsb'_and_mask {v m : Word} {n k : Nat} (h : m.extractLsb' n k = 0) : (v &&& m).extractLsb' n k = 0 := by
  rw [BitVec.extractLsb'_and, h]
  exact BitVec.and_zero

theorem regsOk_iff : s.regsOk = true ↔
    s.cr0.extractLsb' 11 21 = 0 ∧ s.cr3.extractLsb' 7 25 = 0 ∧ s.cr9.extractLsb' 6 26 = 0 := decide_eq_true_iff

theorem regsOk_reset : State.reset.regsOk = true := by decide

/-- The unnamed bits of the control registers read 0 (10_state.md section 5). -/
theorem regsOk_writes : ControlPartWrites (fun s => s.regsOk = true) where
  raise _ _ h := h
  vlc _ _ h := h
  load _ _ _ h := h
  seek _ _ _ _ h := h
  cr s r v _ h := by
    obtain ⟨h0, h3, h9⟩ := regsOk_iff.mp h
    unfold State.setControlReg
    split
    · exact regsOk_iff.mpr ⟨extractLsb'_and_mask (by decide), h3, h9⟩
    · exact h
    · exact h
    · exact regsOk_iff.mpr ⟨h0, extractLsb'_and_mask (by decide), h9⟩
    · exact regsOk_iff.mpr ⟨h0, h3, extractLsb'_and_mask (by decide)⟩
    · exact h
    · exact h
    · exact h
  table _ _ _ _ _ h := h
  reset _ _ := regsOk_reset
  start _ _ _ _ _ _ h := h
  finish _ _ h := h
  skip _ _ h _ := h
  align _ h := h
  quantizer s q _ h := by
    obtain ⟨h0, -, h9⟩ := regsOk_iff.mp h
    exact regsOk_iff.mpr ⟨h0, extractLsb'_and_mask (by decide), h9⟩
  advance _ h := h

/-! ### The configuration of a running slice -/

/-- What `SLICE_START` has checked still holds, and the address lies in the picture. -/
structure RunsLegal (s : State) : Prop where
  vlc : s.vlcReady = true
  supported : s.configSupported = true
  legal : s.sliceLegal = true
  x_lt : s.mbX.toNat < s.picW
  y_lt : s.mbY.toNat < s.picH

theorem runOk_iff : s.runOk = true ↔ (s.engine = .run → RunsLegal s) := by
  simp only [State.runOk, State.isRun, Bool.or_eq_true, Bool.not_eq_true', decide_eq_false_iff_not, Bool.and_eq_true,
    decide_eq_true_eq, ← Decidable.imp_iff_not_or]
  refine imp_congr_right fun _ => ⟨fun ⟨⟨⟨hv, hc⟩, hl⟩, hx, hy⟩ => ⟨hv, hc, hl, hx, hy⟩, fun h => ?_⟩
  exact ⟨⟨⟨h.vlc, h.supported⟩, h.legal⟩, h.x_lt, h.y_lt⟩

theorem runOk_of_not_run (h : s.engine ≠ .run) : s.runOk = true := runOk_iff.mpr fun hr => absurd hr h

/-- The quantizer a macroblock sets is one `SLICE_START` accepts. -/
theorem qscale_setQscale_le (s : State) (q : Nat) : (s.setQscale q).qscale ≤ q := by
  rw [State.qscale, State.setQscale, BitVec.extractLsb'_toNat, BitVec.toNat_and, BitVec.toNat_ofNat]
  exact Nat.le_trans (Nat.mod_le ..) (Nat.le_trans Nat.and_le_left (Nat.mod_le ..))

theorem sliceLegal_setQscale {q : Nat} (hq : q ≤ s.maxQp) (h : s.sliceLegal = true) :
    (s.setQscale q).sliceLegal = true := by
  simp only [State.sliceLegal, Bool.and_eq_true] at h ⊢
  obtain ⟨⟨hrefs, -⟩, hweight⟩ := h
  exact ⟨⟨hrefs, decide_eq_true (Nat.le_trans (qscale_setQscale_le s q) hq)⟩, hweight⟩

/-- The address moves on inside the picture, or the engine is `DONE`. -/
theorem RunsLegal.advanceMb (h : RunsLegal s) (hr : s.advanceMb.engine = .run) : RunsLegal s.advanceMb := by
  have hx := h.x_lt
  have hy := h.y_lt
  have hW : s.picW < 2 ^ 16 := BitVec.isLt _
  have hH : s.picH < 2 ^ 16 := BitVec.isLt _
  have hone : (1 : BitVec 16).toNat = 1 := rfl
  refine ⟨h.vlc, h.supported, h.legal, ?_, ?_⟩
  · show (if decide (s.mbX.toNat + 1 = s.picW) then 0 else s.mbX + 1 : BitVec 16).toNat < s.picW
    split
    · exact Nat.zero_lt_of_lt hx
    · rw [BitVec.toNat_add, hone]
      simp_all
      omega
  · have hend : (if decide (s.mbX.toNat + 1 = s.picW) then s.mbY.toNat + 1 else s.mbY.toNat) ≠ s.picH := fun heq => by
      have hdone : s.advanceMb.engine = .done := if_pos heq
      rw [hdone] at hr
      cases hr
    show (if decide (s.mbX.toNat + 1 = s.picW) then s.mbY + 1 else s.mbY : BitVec 16).toNat < s.picH
    split at hend
    next hw =>
      rw [if_pos hw, BitVec.toNat_add, hone]
      omega
    next hw =>
      rw [if_neg hw]
      exact hy

theorem runOk_of_idle (hi : s.isIdle = true) (he : t.engine = s.engine) : t.runOk = true :=
  runOk_of_not_run (by rw [he, of_decide_eq_true hi]; exact EngState.noConfusion)

theorem runOk_writes : ControlPartWrites (fun s => s.runOk = true) where
  raise s k _ := runOk_of_not_run (by rw [State.raise_engine]; split <;> simp_all)
  vlc _ hi _ := runOk_of_idle hi rfl
  load _ _ hi _ := runOk_of_idle hi rfl
  seek _ _ hi _ _ := runOk_of_idle hi rfl
  cr s r v hi _ := runOk_of_idle hi (by unfold State.setControlReg; split <;> rfl)
  table _ _ _ _ hi _ := runOk_of_idle hi rfl
  reset _ _ := runOk_of_not_run EngState.noConfusion
  start s pos _ hv hc hl _ := by
    obtain ⟨haddr, hlegal⟩ := Bool.and_eq_true_iff.mp hl
    obtain ⟨hx, hy⟩ := of_decide_eq_true haddr
    exact runOk_iff.mpr fun _ => ⟨hv, hc, hlegal, hx, hy⟩
  finish _ _ _ := runOk_of_not_run EngState.noConfusion
  skip _ _ h _ := h
  align _ h := h
  quantizer s q hq h := by
    refine runOk_iff.mpr fun hr => ?_
    obtain ⟨hv, hc, hl, hx, hy⟩ := runOk_iff.mp h hr
    exact ⟨hv, hc, sliceLegal_setQscale hq hl, hx, hy⟩
  advance s h := by
    refine runOk_iff.mpr fun hr => RunsLegal.advanceMb (runOk_iff.mp h ?_) hr
    refine Decidable.byContradiction fun hne => ?_
    have hsame : s.advanceMb.engine = .done ∨ s.advanceMb.engine = s.engine := by
      unfold State.advanceMb
      exact .imp (fun h => if_pos h) (fun h => if_neg h) (Decidable.em _)
    rcases hsame with hd | he
    · rw [hd] at hr
      cases hr
    · exact hne (he ▸ hr)

/-- A property said of the part that the bounds speak of is the same in two states that agree there. -/
theorem runOk_congr (s t : State) (h : t.control = s.control) (hs : s.runOk = true) : t.runOk = true := by
  injection h
  simp only [State.runOk, State.isRun, State.configSupported, State.sliceLegal, State.chromaFormat, State.bitDepthLegal,
    State.bitDepth, State.transformBypass, State.frameMbsOnly, State.sliceTypeField, State.refCount, State.qscale,
    State.maxQp, State.useWeight, State.picW, State.picH, *] at hs ⊢
  exact hs

theorem regsOk_congr (s t : State) (h : t.control = s.control) (hs : s.regsOk = true) : t.regsOk = true := by
  injection h
  simp only [State.regsOk, *] at hs ⊢
  exact hs

theorem cursor_congr (s t : State) (h : t.control = s.control) (hs : s.bitpos ≤ s.bsLen) : t.bitpos ≤ t.bsLen := by
  injection h
  omega

/-- Settles O12: each of the three bounds survives the writes that touch what it speaks of, and power-on. -/
theorem stepKeepsRegistersLegal : Obligations.StepKeepsRegistersLegal := fun _ _ h =>
  ⟨fun hs => decide_eq_true (step_keeps (cursorOk_writes.stepWrites cursor_congr fun _ _ => Nat.le_refl 0)
      (of_decide_eq_true hs) h),
    fun hs => step_keeps (regsOk_writes.stepWrites regsOk_congr fun _ _ => regsOk_reset) hs h,
    fun hs => step_keeps (runOk_writes.stepWrites runOk_congr fun _ _ => runOk_of_not_run EngState.noConfusion) hs h⟩

/-! ### Power-on and `RESET` -/

/-- Settles O16. -/
theorem powerOnValues : Obligations.PowerOnValues := by
  refine ⟨rfl, rfl, rfl, rfl, rfl, rfl, rfl, rfl, rfl, rfl, rfl, rfl, rfl, rfl, by decide, rfl, rfl, rfl, fun _ => rfl,
    fun _ => rfl, fun _ _ => rfl, ?_⟩
  simp only [State.reset, and_self]

/-- Settles O17. -/
theorem resetAndVlcInit : Obligations.ResetAndVlcInit := by
  refine fun s => ⟨rfl, ?_⟩
  by_cases h : s.engine = .idle
  · rw [if_pos h]
    exact command_ok (s := s) (body := .modify fun s => { s with vlcReady := true })
      (Bool.and_eq_true_iff.mpr ⟨decide_eq_true h, rfl⟩) rfl
  · rw [if_neg h]
    exact command_reject (Bool.and_eq_false_imp.mpr fun hi => absurd (of_decide_eq_true hi) h)

/-- Settles O5. -/
theorem specWordsDecode : Obligations.SpecWordsDecode := by
  exact ⟨rfl, rfl, rfl, rfl, rfl, rfl, rfl, rfl, rfl, rfl, rfl, rfl, rfl, rfl, rfl, rfl, rfl⟩

end Sys2Proof.Machine
end

section
/-! Proofs. What every instruction is: a command with its checks and a body, and what its body can write and stop with. From it
follow how an instruction ends (60_exceptions.md R470 to R478) and what it leaves unchanged. -/

namespace Sys2Proof.Machine

open Sys2Proof.Stated

variable {P : State → Prop} {s t : State} {i : Instr}

/-! ### What an instruction writes -/

/-- The registers of a residual block and `RES` are written, and not `PNNZ`. -/
structure RegWrites (P : State → Prop) : Prop extends BitWrites P where
  regs : ∀ s tc tr li sl zl rb mc bk rs, P s →
    P { s with
      totalCoeff := tc, trailingOnes := tr, levelIdx := li, suffixLength := sl, zerosLeft := zl, runBefore := rb
      maxCoeff := mc, blk := bk, res := rs }
  level : ∀ s i v, P s → P { s with level := Cells.put s.level i v }

/-- `PNNZ` and `RES` are written. -/
structure PnnzWrites (P : State → Prop) : Prop where
  pnnz : ∀ s v r, P s → P { s with pnnz := v, res := r }

/-- Every property that survives the writes of the instruction's body. -/
def InstrWrites (P : State → Prop) : Instr → Prop
  | .vlcInit => ∀ s, P s → P { s with vlcReady := true }
  | .reset => ∀ s, P s → P s.commandReset
  | .crWrite r v => ∀ s, P s → P (s.setControlReg r.toNat v)
  | .tabWrite ram hi lo v =>
    ∀ s, P s → P { s with tabs := s.tabs.write ram.toNat (256 * hi.toNat + lo.toNat) v }
  | .bsLoad len => ∀ s, P s → P (s.loadBits len.toNat)
  | .bsSeek pos => ∀ s, P s → P { s with bitpos := pos.toNat }
  | .sliceStart pos => ∀ s, P s → P (s.startSlice pos)
  | .sliceEnd => ∀ s, P s → P s.endSlice
  | .crRead _ | .peek _ | .bitsLeft => ResWrites P
  | .skip _ => BitWrites P
  | .align => ∀ s, P s → P { s with bitpos := s.alignedPos }
  | .read _ | .readUe | .readSe | .readTe _ => BitWrites P ∧ ResWrites P
  | .readCoeffToken _ | .readTrailingSigns | .readLevel | .readTotalZeros | .readRunBefore => RegWrites P
  | .decodeResidual .. => ResidualWrites P
  | .cacheFill => FillWrites P
  | .predNnz _ => PnnzWrites P
  | .predMv .. | .predMv16x8 .. | .predMv8x16 .. | .predMvPskip | .predI4Mode _ => PredWrites P
  | .cacheWriteback => ArrayWrites P
  | .mbDecode => DecodeWrites P
  | .mbRecon => ReconWrites P
  | .mcSet .. => ∀ s m, P s → P { s with mc := m }
  | .qpelMc00 | .qpelMc10 | .qpelMc20 | .qpelMc30 | .qpelMc01 | .qpelMc11 | .qpelMc21 | .qpelMc31 | .qpelMc02 | .qpelMc12
  | .qpelMc22 | .qpelMc32 | .qpelMc03 | .qpelMc13 | .qpelMc23 | .qpelMc33 | .mcChroma _ | .mcPart .. => McWrites P
  | .weightUni .. | .weightBi .. | .intraPred .. => PlaneWrites P
  | .implicitWeight => ImplicitWrites P
  | .waitRow .. => True
  | .idct4Add _ | .idct4DcAdd _ | .idct8Add _ | .idct8DcAdd _ => PlaneWrites P ∧ CoefWrites P
  | .lumaDcDequantIdct _ | .chromaDcDequantIdct .. | .chroma422DcDequantIdct .. => CoefWrites P
  | _ => BlockWrites P ∧ MbWrites P

/-- An instruction that writes more than the registers, buffers and memories of a macroblock. -/
inductive SpecialInstr : Instr → Prop
  | vlcInit : SpecialInstr .vlcInit
  | reset : SpecialInstr .reset
  | crWrite (r : BitVec 8) (v : Word) : SpecialInstr (.crWrite r v)
  | tabWrite (ram hi lo : BitVec 8) (v : Word) : SpecialInstr (.tabWrite ram hi lo v)
  | bsLoad (len : Word) : SpecialInstr (.bsLoad len)
  | bsSeek (pos : Word) : SpecialInstr (.bsSeek pos)
  | sliceStart (pos : Word) : SpecialInstr (.sliceStart pos)
  | sliceEnd : SpecialInstr .sliceEnd
  | mbRecon : SpecialInstr .mbRecon
  | implicitWeight : SpecialInstr .implicitWeight

/-- Every write of the instructions that are not special. -/
structure BodyWrites (P : State → Prop) : Prop extends DecodeWrites P, McWrites P, ArrayWrites P

theorem BlockWrites.toRegWrites (h : BlockWrites P) : RegWrites P where
  toBitWrites := h.toBitWrites
  regs s _ _ _ _ _ _ _ _ _ := h.regs s _ _ _ _ _ _ _ _ s.pnnz _
  level := h.level

theorem BlockWrites.toPnnzWrites (h : BlockWrites P) : PnnzWrites P :=
  ⟨fun s _ _ => h.regs s _ _ _ _ _ _ _ _ _ _⟩

theorem RegWrites.toRes (h : RegWrites P) : ResWrites P := ⟨fun s _ => h.regs s _ _ _ _ _ _ _ _ _⟩

theorem instrWrites_of_body (h : BodyWrites P) (i : Instr) (hs : SpecialInstr i → InstrWrites P i) : InstrWrites P i := by
  have hk := h.toBlockWrites
  cases i
  case vlcInit => exact hs .vlcInit
  case reset => exact hs .reset
  case crWrite => exact hs (.crWrite ..)
  case tabWrite => exact hs (.tabWrite ..)
  case bsLoad => exact hs (.bsLoad _)
  case bsSeek => exact hs (.bsSeek _)
  case sliceStart => exact hs (.sliceStart _)
  case sliceEnd => exact hs .sliceEnd
  case mbRecon => exact hs .mbRecon
  case implicitWeight => exact hs .implicitWeight
  case crRead | peek | bitsLeft => exact hk.toRes
  case skip => exact hk.toBitWrites
  case align => exact h.align
  case read | readUe | readSe | readTe => exact ⟨hk.toBitWrites, hk.toRes⟩
  case readCoeffToken | readTrailingSigns | readLevel | readTotalZeros | readRunBefore => exact hk.toRegWrites
  case decodeResidual => exact h.toResidualWrites
  case cacheFill => exact h.toFillWrites
  case predNnz => exact hk.toPnnzWrites
  case predMv | predMv16x8 | predMv8x16 | predMvPskip | predI4Mode => exact h.toPredWrites
  case cacheWriteback => exact h.toArrayWrites
  case mbDecode => exact h.toDecodeWrites
  case mcSet => exact h.mc
  case qpelMc00 | qpelMc10 | qpelMc20 | qpelMc30 | qpelMc01 | qpelMc11 | qpelMc21 | qpelMc31 | qpelMc02 | qpelMc12 |
    qpelMc22 | qpelMc32 | qpelMc03 | qpelMc13 | qpelMc23 | qpelMc33 | mcChroma | mcPart => exact h.toMcWrites
  case weightUni | weightBi | intraPred => exact h.toPlaneWrites
  case waitRow => exact trivial
  case idct4Add | idct4DcAdd | idct8Add | idct8DcAdd => exact ⟨h.toPlaneWrites, h.toCoefWrites⟩
  case lumaDcDequantIdct | chromaDcDequantIdct | chroma422DcDequantIdct => exact h.toCoefWrites
  all_goals exact ⟨hk, h.toMbWrites⟩

/-- What the instructions that are not special write no part of: control state, table RAMs, bitstream and references, and of
the picture all but its samples and arrays. -/
structure Kept where
  engine : EngState
  vlcReady : Bool
  errKind : ErrKind
  errMbX : BitVec 16
  errMbY : BitVec 16
  errBitpos : Word
  corrupt : Bool
  prepared : Bool
  planeGen : Nat
  refs : Cells RefPic
  port : List Request
  hostBuf : List Byte
  bs : Cells Byte
  bsGen : Nat
  bsLen : Nat
  cr : List Word
  tabs : Tables

def State.kept (s : State) : Kept where
  engine := s.engine
  vlcReady := s.vlcReady
  errKind := s.errKind
  errMbX := s.errMbX
  errMbY := s.errMbY
  errBitpos := s.errBitpos
  corrupt := s.pic.corrupt
  prepared := s.pic.prepared
  planeGen := s.pic.planes.gen
  refs := s.refs
  port := s.port
  hostBuf := s.hostBuf
  bs := s.bs
  bsGen := s.bsGen
  bsLen := s.bsLen
  cr := [s.cr0, s.cr1, s.cr2, s.cr9, s.cr10, s.cr11]
  tabs := s.tabs

theorem State.kept_putBlock (s : State) (p x y w ht : Nat) (f : Nat → Nat → Sample) :
    (s.putBlock p x y w ht f).kept = s.kept :=
  congrArg (fun g => { s.kept with planeGen := g }) (Planes.setPlane_gen ..)

theorem bodyWrites_kept (Q : Kept → Prop) : BodyWrites fun s => Q s.kept where
  skip _ _ h _ := h
  regs _ _ _ _ _ _ _ _ _ _ _ h := h
  level _ _ _ h := h
  clearLevel _ h := h
  nnz _ _ _ h := h
  coef _ _ _ h := h
  lumaDc _ _ _ h := h
  chromaDc _ _ _ h := h
  zeroCoef _ _ h := h
  zeroLumaDc _ h := h
  zeroChromaDc _ _ h := h
  zeroAll _ h := h
  mv _ _ _ h := h
  ref _ _ _ h := h
  i4 _ _ _ h := h
  latches _ _ _ _ _ _ _ _ _ h := h
  pm _ _ _ h := h
  pmode _ _ _ h := h
  whole _ _ _ h := h
  cbp _ _ h := h
  dct8x8 _ _ h := h
  chromaMode _ _ h := h
  sub _ _ _ h := h
  i4Mode _ _ _ h := h
  nnzSum _ _ _ h := h
  align _ h := h
  skipRun _ _ h := h
  quantizer _ _ _ h := h
  chromaQp _ _ _ h := h
  pcm _ _ _ h := h
  block s p x y w ht f h _ := (State.kept_putBlock s p x y w ht f).symm ▸ h
  mc _ _ h := h
  tmp _ _ _ _ _ _ _ h := h
  counter _ _ h := h
  macroblock _ _ _ _ _ h := h
  picNnz _ _ _ h := h
  picI4 _ _ _ h := h
  picRef _ _ _ h := h
  picMv _ _ _ h := h

/-! The steps of a residual block leave `PNNZ`, and `PRED_NNZ` the block's registers. -/

theorem predNnz_keeps_of_pnnz (h : PnnzWrites P) (n : Nat) : Op.Keeps P (predNnz n) :=
  Op.keeps_bind (Op.keeps_need _) fun _ => Op.keeps_bind (Op.keeps_need _) fun _ =>
    Op.keeps_bind (Op.keeps_modify fun s hs => h.pnnz s _ _ hs) fun _ => Op.keeps_pure _

theorem tokenStep_keeps_of_regs (h : RegWrites P) (sel : Nat) : Op.Keeps P (tokenStep sel) :=
  Op.keeps_bind (Op.keeps_modify fun s hs => h.regs s _ _ _ _ _ _ _ _ _ hs) fun _ =>
    Op.keeps_bind (vlcDecode_keeps h.toBitWrites _) fun _ => Op.keeps_modify fun s hs => h.regs s _ _ _ _ _ _ _ _ _ hs

theorem setLevel_keeps_of_regs (h : RegWrites P) (i : Nat) (v : Int) : Op.Keeps P (setLevel i v) :=
  Op.keeps_bind (Op.keeps_require _ _) fun _ => Op.keeps_modify fun s => h.level s i _

theorem readTrailingSigns_keeps_of_regs (h : RegWrites P) : Op.Keeps P readTrailingSigns :=
  Op.keeps_bind needBlock_keeps fun _ => Op.keeps_bind (Op.keeps_need _) fun _ =>
    Op.keeps_bind
      (Op.keeps_each _ fun i _ => Op.keeps_bind (readBits_keeps h.toBitWrites 1) fun _ => setLevel_keeps_of_regs h i _)
      fun _ => Op.keeps_modify fun s hs => h.regs s _ _ _ _ _ _ _ _ _ hs

theorem readLevel_keeps_of_regs (h : RegWrites P) : Op.Keeps P readLevel :=
  Op.keeps_bind (Op.keeps_need _) fun _ => Op.keeps_bind (Op.keeps_need _) fun _ =>
    Op.keeps_bind (Op.keeps_require _ _) fun _ => Op.keeps_bind (Op.keeps_need _) fun _ =>
      Op.keeps_bind (Op.keeps_need _) fun _ => Op.keeps_bind (decodeLevel_keeps h.toBitWrites _ _) fun _ =>
        Op.keeps_bind (setLevel_keeps_of_regs h _ _) fun _ => Op.keeps_modify fun s hs => h.regs s _ _ _ _ _ _ _ _ _ hs

theorem readTotalZeros_keeps_of_regs (h : RegWrites P) : Op.Keeps P readTotalZeros := by
  refine Op.keeps_bind needBlock_keeps fun c => Op.keeps_bind (Op.keeps_ite (Op.keeps_pure _) ?_) fun _ =>
    Op.keeps_modify fun s hs => h.regs s _ _ _ _ _ _ _ _ _ hs
  exact Op.keeps_bind (Op.keeps_require _ _) fun _ => vlcDecode_keeps h.toBitWrites _

theorem readRunBefore_keeps_of_regs (h : RegWrites P) : Op.Keeps P readRunBefore :=
  Op.keeps_bind (Op.keeps_need _) fun _ => Op.keeps_bind (Op.keeps_require _ _) fun _ =>
    Op.keeps_bind (vlcDecode_keeps h.toBitWrites _) fun _ =>
      Op.keeps_bind (Op.keeps_modify fun s hs => h.regs s _ _ _ _ _ _ _ _ _ hs) fun _ =>
        Op.keeps_bind (Op.keeps_require _ _) fun _ => setRes_keeps h.toRes _

theorem sliceStart_keeps_of_start {pos : Word} (h : ∀ s, P s → P (s.startSlice pos)) : Op.Keeps P (sliceStart pos) :=
  Op.keeps_bind (Op.keeps_require _ _) fun _ => Op.keeps_bind (Op.keeps_require _ _) fun _ =>
    Op.keeps_bind (Op.keeps_require _ _) fun _ => Op.keeps_modify h

/-! ### What an instruction stops with -/

/-- Predictors, cache and transforms stop with a model fault only. -/
def faultsOnly (i : Instr) : Bool :=
  predicts i || transforms i || match i with
    | .cacheFill => true
    | .cacheWriteback => true
    | _ => false

/-- Turned away with `IllegalCommand` or `Unsupported`. -/
def Stop.TurnsAway : Stop → Prop
  | .rejected k => k = .illegalCommand ∨ k = .unsupported
  | _ => False

/-- What the instruction's body can stop with: a command that starts a slice does so in one write, after its checks. -/
def InstrStops (i : Instr) : Stop → Prop :=
  match i with
  | .reset => Stop.TurnsAway
  | .sliceStart _ => Stop.TurnsAway
  | _ => if faultsOnly i = true then Stop.IsFault else Stop.Legal

/-- A stop leaves the state of the engine as it was. -/
def Op.StopKeepsEngine {α : Type} (m : Op α) : Prop := ∀ s e t, m s = .error e t → t.engine = s.engine

theorem Op.StopKeepsEngine.of_keeps {m : Op Unit} (h : ∀ e, Op.Keeps (fun s => s.engine = e) m) : m.StopKeepsEngine :=
  fun s _ _ hm => (h s.engine).error rfl hm

theorem Op.StopKeepsEngine.bind {α : Type} {m : Op α} {f : α → Op Unit} (hm : ∀ e, Op.Keeps (fun s => s.engine = e) m)
    (hf : ∀ a, (f a).StopKeepsEngine) : (m >>= f).StopKeepsEngine := by
  intro s e t h
  rcases Op.bind_error_iff.mp h with h | ⟨a, u, hu, h⟩
  · exact (hm s.engine).error rfl h
  · exact (hf a u e t h).trans ((hm s.engine).ok rfl hu)

theorem Op.StopKeepsEngine.modify {f : State → State} : (Op.modify f).StopKeepsEngine := fun _ _ _ h => nomatch h

theorem Op.StopKeepsEngine.require_bind {c : State → Bool} {e : Stop} {f : Unit → Op Unit} (h : (f ()).StopKeepsEngine) :
    (Op.require c e >>= f).StopKeepsEngine := by
  intro s e' t he
  cases hc : c s
  · rw [Op.bind_error (Op.require_false e hc)] at he
    cases he
    rfl
  · rw [Op.bind_ok (Op.require_true e hc)] at he
    exact h s e' t he

/-! ### Every command is its checks and a body -/

/-- `i` is the command with these checks, beyond the state it is accepted in, and this body. -/
structure CommandShape (i : Instr) (s : State) (legal : Bool) (body : Op Unit) : Prop where
  eq : exec i s = command (accepts i s.engine) legal body s
  wellFormed : legal = true → i.wellFormed = true
  vlcReady : legal = true → usesTables i = true → s.vlcReady = true
  stops : body.StopsIn (InstrStops i)
  keeps : ∀ P, InstrWrites P i → Op.Keeps P body

/-- A command that uses no table. -/
theorem CommandShape.plain {legal : Bool} {body : Op Unit} (hu : usesTables i = false)
    (eq : exec i s = command (accepts i s.engine) legal body s) (hw : legal = true → i.wellFormed = true)
    (stops : body.StopsIn (InstrStops i)) (keeps : ∀ P, InstrWrites P i → Op.Keeps P body) :
    CommandShape i s legal body :=
  ⟨eq, hw, fun _ h => absurd (hu.symm.trans h) Bool.false_ne_true, stops, keeps⟩

/-- A command that uses no table and is one write. -/
theorem CommandShape.write {legal : Bool} {f : State → State} (hu : usesTables i = false)
    (eq : exec i s = command (accepts i s.engine) legal (Op.modify f) s) (hw : legal = true → i.wellFormed = true)
    (keeps : ∀ P : State → Prop, InstrWrites P i → ∀ s, P s → P (f s)) : CommandShape i s legal (Op.modify f) :=
  .plain hu eq hw .modify fun P h => Op.keeps_modify (keeps P h)

theorem and_left {a b : Bool} (h : (a && b) = true) : a = true := (Bool.and_eq_true_iff.mp h).1

theorem and_right {a b : Bool} (h : (a && b) = true) : b = true := (Bool.and_eq_true_iff.mp h).2

theorem reconSamples_keeps_of_mc (h : McWrites P) (hc : CoefWrites P) (kind : MbKind) : Op.Keeps P (reconSamples kind) :=
  Op.keeps_ite (reconPcm_keeps h.toPlaneWrites)
    (Op.keeps_bind
      (Op.keeps_ite (intraLuma_keeps h.toPlaneWrites hc kind)
        (Op.keeps_bind (interPrediction_keeps h kind) fun _ => interLuma_keeps h.toPlaneWrites hc kind))
      fun _ => reconChroma_keeps h.toPlaneWrites hc kind)

/-- Up to the address moving on, after which nothing stops, `MB_RECON` leaves the state of the engine. -/
theorem mbRecon_stopKeepsEngine : mbRecon.StopKeepsEngine := by
  have hw (e : EngState) : BodyWrites fun s => s.engine = e := bodyWrites_kept fun k => k.engine = e
  exact .bind (fun _ => Op.keeps_need _) fun kind =>
    .bind (fun e => reconSamples_keeps_of_mc (hw e).toMcWrites (hw e).toCoefWrites kind) fun _ =>
      .bind (fun _ => Op.keeps_modify fun _ h => h) fun _ =>
        .bind (fun e => cacheWriteback_keeps (hw e).toArrayWrites) fun _ => fun _ _ _ h => nomatch h

theorem shape_of_special (hs : SpecialInstr i) (s : State) :
    ∃ legal body, CommandShape i s legal body ∧ body.StopKeepsEngine := by
  cases hs with
  | vlcInit => exact ⟨_, _, .write rfl rfl (fun _ => rfl) fun _ h => h, .modify⟩
  | reset => exact ⟨true, .modify State.commandReset, .write rfl rfl (fun _ => rfl) fun _ h => h, .modify⟩
  | crWrite => exact ⟨_, _, .write rfl rfl id fun _ h => h, .modify⟩
  | tabWrite =>
    exact ⟨_, _, .plain rfl rfl and_left
      (.bind (.require (.inr rfl)) fun _ => .bind (.require (.inl rfl)) fun _ => .modify)
      fun _ h => Op.keeps_bind (Op.keeps_require _ _) fun _ => Op.keeps_bind (Op.keeps_require _ _) fun _ =>
        Op.keeps_modify h, .require_bind (.require_bind .modify)⟩
  | bsLoad => exact ⟨_, _, .write rfl rfl id fun _ h => h, .modify⟩
  | bsSeek => exact ⟨_, _, .write rfl rfl (fun _ => rfl) fun _ h => h, .modify⟩
  | sliceStart =>
    exact ⟨_, _, ⟨rfl, fun _ => rfl, fun h _ => h, .bind (.require (.inl rfl)) fun _ => .bind (.require (.inr rfl)) fun _ =>
      .bind (.require (.inl rfl)) fun _ => .modify, fun _ => sliceStart_keeps_of_start⟩,
      .require_bind (.require_bind (.require_bind .modify))⟩
  | sliceEnd => exact ⟨_, _, .write rfl rfl (fun _ => rfl) fun _ h => h, .modify⟩
  | mbRecon => exact ⟨_, _, .plain rfl rfl (fun _ => rfl) mbRecon_stops fun _ => mbRecon_keeps, mbRecon_stopKeepsEngine⟩
  | implicitWeight =>
    exact ⟨_, _, .plain rfl rfl (fun _ => rfl) implicitWeight_stops fun _ => implicitWeight_keeps,
      .of_keeps fun _ => implicitWeight_keeps ⟨fun _ _ _ h => h⟩⟩

theorem shape_of_command (hi : i.element = none) (hs : ¬ SpecialInstr i) (s : State) :
    ∃ legal body, CommandShape i s legal body := by
  have hq := Stop.isFault_stopSet
  cases i
  case vlcInit => exact absurd .vlcInit hs
  case reset => exact absurd .reset hs
  case crWrite => exact absurd (.crWrite ..) hs
  case tabWrite => exact absurd (.tabWrite ..) hs
  case bsLoad => exact absurd (.bsLoad _) hs
  case bsSeek => exact absurd (.bsSeek _) hs
  case sliceStart => exact absurd (.sliceStart _) hs
  case sliceEnd => exact absurd .sliceEnd hs
  case mbRecon => exact absurd .mbRecon hs
  case implicitWeight => exact absurd .implicitWeight hs
  case crRead => exact ⟨_, _, .write rfl rfl id fun _ h s => h.res s _⟩
  case peek =>
    exact ⟨_, _, .plain rfl rfl id (.bind .read fun _ => .modify)
      fun _ h => Op.keeps_bind (Op.keeps_read _) fun _ => setRes_keeps h _⟩
  case bitsLeft =>
    exact ⟨_, _, .plain rfl rfl (fun _ => rfl) (.bind .read fun _ => .modify)
      fun _ h => Op.keeps_bind (Op.keeps_read _) fun _ => setRes_keeps h _⟩
  case skip => exact ⟨_, _, .plain rfl rfl id (skipBits_stops Stop.legal_raiseSet _) fun _ h => skipBits_keeps h _⟩
  case align => exact ⟨_, _, .write rfl rfl (fun _ => rfl) fun _ h => h⟩
  case read =>
    exact ⟨_, _, .plain rfl rfl id (.bind (readBits_stops Stop.legal_raiseSet _) fun _ => .modify)
      fun _ h => Op.keeps_bind (readBits_keeps h.1 _) fun _ => setRes_keeps h.2 _⟩
  case readUe =>
    exact ⟨_, _, .plain rfl rfl (fun _ => rfl) (.bind (readUe_stops Stop.legal_raiseSet) fun _ => .modify)
      fun _ h => Op.keeps_bind (readUe_keeps h.1) fun _ => setRes_keeps h.2 _⟩
  case readSe =>
    exact ⟨_, _, .plain rfl rfl (fun _ => rfl) (.bind (readSe_stops Stop.legal_raiseSet) fun _ => .modify)
      fun _ h => Op.keeps_bind (readSe_keeps h.1) fun _ => setRes_keeps h.2 _⟩
  case readTe =>
    exact ⟨_, _, .plain rfl rfl id (.bind (readTe_stops Stop.legal_raiseSet _) fun _ => .modify)
      fun _ h => Op.keeps_bind (readTe_keeps h.1 _) fun _ => setRes_keeps h.2 _⟩
  case readCoeffToken =>
    exact ⟨_, _, rfl, and_left, fun h _ => and_right h, tokenStep_stops _, fun _ h => tokenStep_keeps_of_regs h _⟩
  case readTrailingSigns =>
    exact ⟨_, _, .plain rfl rfl (fun _ => rfl) readTrailingSigns_stops fun _ => readTrailingSigns_keeps_of_regs⟩
  case readLevel =>
    exact ⟨_, _, rfl, fun _ => rfl, fun h _ => h, readLevel_stops, fun _ => readLevel_keeps_of_regs⟩
  case readTotalZeros =>
    exact ⟨_, _, rfl, fun _ => rfl, fun h _ => h, readTotalZeros_stops, fun _ => readTotalZeros_keeps_of_regs⟩
  case readRunBefore =>
    exact ⟨_, _, rfl, fun _ => rfl, fun h _ => h, readRunBefore_stops, fun _ => readRunBefore_keeps_of_regs⟩
  case decodeResidual =>
    exact ⟨_, _, rfl, and_left, fun h _ => and_right h,
      .bind (.require (.inr rfl)) fun _ => .bind (.require (.inl rfl)) fun _ => decodeResidual_stops _,
      fun _ h => Op.keeps_bind (Op.keeps_require _ _) fun _ => Op.keeps_bind (Op.keeps_require _ _) fun _ =>
        decodeResidual_keeps h _⟩
  case cacheFill => exact ⟨_, _, .plain rfl rfl (fun _ => rfl) (cacheFill_stops hq) fun _ => cacheFill_keeps⟩
  case predNnz =>
    exact ⟨_, _, .plain rfl rfl id (.bind (predNnz_stops hq _) fun _ => .pure)
      fun _ h => Op.keeps_bind (predNnz_keeps_of_pnnz h _) fun _ => Op.keeps_pure _⟩
  case predMv =>
    exact ⟨_, _, .plain rfl rfl and_left (predMv_stops hq _ _ _ _) fun _ h => predMv_keeps h _ _ _ _⟩
  case predMv16x8 =>
    exact ⟨_, _, .plain rfl rfl and_left (predMv16x8_stops hq _ _ _) fun _ h => predMv16x8_keeps h _ _ _⟩
  case predMv8x16 =>
    exact ⟨_, _, .plain rfl rfl and_left (predMv8x16_stops hq _ _ _) fun _ h => predMv8x16_keeps h _ _ _⟩
  case predMvPskip => exact ⟨_, _, .plain rfl rfl (fun _ => rfl) (predMvPskip_stops hq) fun _ => predMvPskip_keeps⟩
  case predI4Mode =>
    exact ⟨_, _, .plain rfl rfl id (.bind (predI4Mode_stops hq _) fun _ => .pure)
      fun _ h => Op.keeps_bind (predI4Mode_keeps h _) fun _ => Op.keeps_pure _⟩
  case cacheWriteback =>
    exact ⟨_, _, .plain rfl rfl (fun _ => rfl) (cacheWriteback_stops hq) fun _ => cacheWriteback_keeps⟩
  case mbDecode => exact ⟨_, _, .plain rfl rfl (fun _ => rfl) (mbDecode_stops Stop.legal_raiseSet) fun _ => mbDecode_keeps⟩
  case mcSet => exact ⟨_, _, .write rfl rfl and_left fun _ h s => h s _⟩
  case qpelMc00 | qpelMc10 | qpelMc20 | qpelMc30 | qpelMc01 | qpelMc11 | qpelMc21 | qpelMc31 | qpelMc02 | qpelMc12 |
    qpelMc22 | qpelMc32 | qpelMc03 | qpelMc13 | qpelMc23 | qpelMc33 =>
    exact ⟨_, _, .plain rfl rfl (fun _ => rfl) (sampleOp_stops _ _) fun _ h => sampleOp_keeps h _ _⟩
  case mcChroma => exact ⟨_, _, .plain rfl rfl and_left (mcChroma_stops _) fun _ h => mcChroma_keeps h _⟩
  case weightUni =>
    exact ⟨_, _, .plain rfl rfl id (weightUni_stops Stop.legal_stopSet _ _ _) fun _ h => weightUni_keeps h _ _ _⟩
  case weightBi => exact ⟨_, _, .plain rfl rfl id (weightBi_stops _ _ _) fun _ h => weightBi_keeps h _ _ _⟩
  case mcPart => exact ⟨_, _, .plain rfl rfl id (mcPart_stops _ _ _) fun _ h => mcPart_keeps h _ _ _⟩
  case waitRow => exact ⟨_, _, .plain rfl rfl id (waitRow_stops _ _ _) fun _ _ => waitRow_keeps _ _ _⟩
  case idct4Add =>
    exact ⟨_, _, .plain rfl rfl id (addResidual_zeroCoefs_stops hq _ _ _ _ _) fun _ h => (idct_keeps h.1 h.2 _).1⟩
  case idct4DcAdd =>
    exact ⟨_, _, .plain rfl rfl id (addResidual_zeroCoefs_stops hq _ _ _ _ _) fun _ h => (idct_keeps h.1 h.2 _).2.1⟩
  case idct8Add =>
    exact ⟨_, _, .plain rfl rfl id (addResidual_zeroCoefs_stops hq _ _ _ _ _) fun _ h => (idct_keeps h.1 h.2 _).2.2.1⟩
  case idct8DcAdd =>
    exact ⟨_, _, .plain rfl rfl id (addResidual_zeroCoefs_stops hq _ _ _ _ _) fun _ h => (idct_keeps h.1 h.2 _).2.2.2⟩
  case lumaDcDequantIdct =>
    exact ⟨_, _, .plain rfl rfl (fun _ => rfl) (lumaDcDequantIdct_stops _) fun _ h => lumaDc_keeps h _⟩
  case chromaDcDequantIdct =>
    exact ⟨_, _, .plain rfl rfl id (chromaDcDequantIdct_stops _ _) fun _ h => chromaDc_keeps h _ _⟩
  case chroma422DcDequantIdct =>
    exact ⟨_, _, .plain rfl rfl id (chroma422DcDequantIdct_stops _ _) fun _ h => chroma422Dc_keeps h _ _⟩
  case intraPred => exact ⟨_, _, .plain rfl rfl and_left (intraPred_stops hq _ _) fun _ h => intraPred_keeps h _ _⟩
  all_goals exact nomatch hi

theorem shape (hi : i.element = none) (s : State) : ∃ legal body, CommandShape i s legal body := by
  by_cases hs : SpecialInstr i
  · obtain ⟨legal, body, h, -⟩ := shape_of_special hs s
    exact ⟨legal, body, h⟩
  · exact shape_of_command hi hs s

theorem exec_of_element {el : Element} (h : i.element = some el) (s : State) : exec i s = runElement el s := by
  cases i <;> cases h <;> rfl

/-- What an element of the bitstream can write and stop with. -/
theorem writes_of_element {el : Element} (h : i.element = some el) :
    InstrStops i = Stop.Legal ∧ (InstrWrites P i → BlockWrites P ∧ MbWrites P) := by
  cases i <;> cases h <;> exact ⟨rfl, id⟩

theorem takeElement_keeps (hb : BlockWrites P) (hm : MbWrites P) (el : Element) : Op.Keeps P (takeElement el) :=
  Op.keeps_bind (expectElement_keeps _) fun _ => Op.keeps_bind (skipBits_keeps hb.toBitWrites _) fun _ =>
    elementEffect_keeps hb hm el

/-- Every instruction runs a body after its checks; what the body writes and stops with. -/
theorem exec_eq_command (i : Instr) (s : State) : ∃ accepted legal body, exec i s = command accepted legal body s
    ∧ body.StopsIn (InstrStops i) ∧ (∀ P, InstrWrites P i → Op.Keeps P body) ∧ body.StopKeepsEngine := by
  have hw (e : EngState) : BodyWrites fun s => s.engine = e := bodyWrites_kept fun k => k.engine = e
  cases hi : i.element with
  | some el =>
    obtain ⟨hstop, hwrites⟩ := writes_of_element (P := fun _ => True) hi
    refine ⟨_, _, _, exec_of_element hi s, hstop ▸ takeElement_stops el, fun P h => ?_,
      .of_keeps fun e => takeElement_keeps (hw e).toBlockWrites (hw e).toMbWrites el⟩
    obtain ⟨hb, hm⟩ := (writes_of_element hi).2 h
    exact takeElement_keeps hb hm el
  | none =>
    by_cases hs : SpecialInstr i
    · obtain ⟨legal, body, h, he⟩ := shape_of_special hs s
      exact ⟨_, legal, body, h.eq, h.stops, h.keeps, he⟩
    · obtain ⟨legal, body, h⟩ := shape_of_command hi hs s
      exact ⟨_, legal, body, h.eq, h.stops, h.keeps,
        .of_keeps fun e => h.keeps _ (instrWrites_of_body (hw e) i fun hsp => absurd hsp hs)⟩

/-! ### How an instruction ends -/

/-- `u` is reached from `s` by writes of the instruction's body. -/
def Wrote (i : Instr) (s u : State) : Prop := ∀ P, InstrWrites P i → P s → P u

/-- How an instruction ends (R470): turned away, completed, with an error raised, or waiting. -/
inductive Ending (i : Instr) (s : State) : State → Prop
  | rejected (k : ErrKind) (hk : k = .illegalCommand ∨ k = .unsupported) : Ending i s (s.reject k)
  | completed (u : State) (hu : Wrote i s u) : Ending i s { u with status := .ended .ok }
  | raised (u : State) (k : ErrKind) (hu : Wrote i s u) (hk : InstrStops i (.raised k)) (he : u.engine = s.engine) :
    Ending i s (u.raise k)
  | waiting (u : State) (hu : Wrote i s u) (hk : InstrStops i .waiting) (he : u.engine = s.engine) :
    Ending i s { u with status := .waiting, freeCtr := s.freeCtr }

/-- The commands that clear the error registers. -/
def clearsErrors (i : Instr) : Prop := i = .reset ∨ ∃ d, i = .sliceStart d

theorem Stop.TurnsAway.legal {e : Stop} (h : e.TurnsAway) : e.Legal := by
  cases e with
  | rejected => exact h
  | raised => exact h.elim
  | faulted => exact h.elim
  | waiting => exact h.elim

theorem instrStops_legal {e : Stop} (h : InstrStops i e) : e.Legal := by
  unfold InstrStops at h
  split at h
  · exact h.legal
  · exact h.legal
  · split at h
    · obtain ⟨f, rfl⟩ := h
      trivial
    · exact h

theorem not_instrStops_waiting (h : clearsErrors i) : ¬ InstrStops i .waiting := by
  rcases h with rfl | ⟨d, rfl⟩ <;> exact id

theorem exec_ending (h : exec i s = .next t) : Ending i s t := by
  obtain ⟨accepted, legal, body, heq, hstops, hkeeps, hengine⟩ := exec_eq_command i s
  rw [heq] at h
  cases ha : accepted && legal
  · rw [command_reject ha] at h
    cases h
    exact .rejected _ (.inl rfl)
  · rw [command_run ha] at h
    rcases finish_next h with ⟨u, hu, rfl⟩ | ⟨k, u, hu, rfl⟩ | ⟨k, u, hu, rfl⟩ | ⟨u, hu, rfl⟩
    · exact .completed u fun P hP hs => (hkeeps P hP).ok hs hu
    · exact .rejected k (instrStops_legal (hstops _ _ _ hu))
    · exact .raised u k (fun P hP hs => (hkeeps P hP).error hs hu) (hstops _ _ _ hu) (hengine _ _ _ hu)
    · exact .waiting u (fun P hP hs => (hkeeps P hP).error hs hu) (hstops _ _ _ hu) (hengine _ _ _ hu)

/-- Settles O8. -/
theorem acceptedStates : Obligations.AcceptedStates := by
  intro i s hi ha
  obtain ⟨legal, body, h⟩ := shape hi s
  rw [h.eq, ha]
  exact command_reject rfl

/-- Settles O9: a command's checks contain both. -/
theorem operandsAndTablesChecked : Obligations.OperandsAndTablesChecked := by
  have hreject {i : Instr} {s : State} {legal : Bool} {body : Op Unit} (h : CommandShape i s legal body)
      (hl : legal ≠ true) : exec i s = .next (refusedBy s) := by
    rw [h.eq, Bool.eq_false_iff.mpr hl]
    exact command_reject (Bool.and_false _)
  refine ⟨fun i s hi hw => ?_, fun i s hu hv => ?_⟩
  · obtain ⟨legal, body, h⟩ := shape hi s
    exact hreject h fun hl => Bool.false_ne_true (hw.symm.trans (h.wellFormed hl))
  · have hi : i.element = none := by
      refine Option.eq_none_iff_forall_ne_some.mpr fun el hi => ?_
      cases i <;> cases hi <;> cases hu
    obtain ⟨legal, body, h⟩ := shape hi s
    exact hreject h fun hl => Bool.false_ne_true (hv.symm.trans (h.vlcReady hl hu))

/-- Settles O10. -/
theorem everyEnding : Obligations.EveryEnding := by
  intro i s t h
  cases exec_ending h with
  | rejected k hk => exact .inr (.inl ⟨k, hk, rfl⟩)
  | completed u => exact .inl rfl
  | raised u k _ hk he => exact .inr (.inr (.inl ⟨u, k, instrStops_legal hk, he, raise_eq_raised u k⟩))
  | waiting u _ _ he => exact .inr (.inr (.inr ⟨rfl, he, rfl⟩))

/-! ### What only its own command writes -/

/-- Of `k`, the instruction has written in `k'` only what its command names (10_state.md R20, R26 to R28, 20_memory.md R72, R85). -/
structure KeptBy (i : Instr) (k k' : Kept) : Prop where
  corrupt : k'.corrupt = k.corrupt
  refs : k'.refs = k.refs
  port : k'.port = k.port
  hostBuf : k'.hostBuf = k.hostBuf
  prepared : k'.prepared = k.prepared
  planeGen : k'.planeGen = k.planeGen
  bits : (∀ len, i ≠ .bsLoad len) → k'.bs = k.bs ∧ k'.bsGen = k.bsGen ∧ (i ≠ .reset → k'.bsLen = k.bsLen)
  cr : (∀ r v, i ≠ .crWrite r v) → i ≠ .reset → k'.cr = k.cr
  tabs : (∀ a b c d, i ≠ .tabWrite a b c d) → i ≠ .implicitWeight → i ≠ .reset → k'.tabs = k.tabs
  vlcReady : i ≠ .vlcInit → k'.vlcReady = k.vlcReady
  vlcSet : k.vlcReady = true → k'.vlcReady = true
  errors : ¬ clearsErrors i →
    k'.errKind = k.errKind ∧ k'.errMbX = k.errMbX ∧ k'.errMbY = k.errMbY ∧ k'.errBitpos = k.errBitpos
  cleared : clearsErrors i → k' = k ∨ k'.errKind = .ok ∧ k'.errMbX = 0 ∧ k'.errMbY = 0 ∧ k'.errBitpos = 0

theorem KeptBy.refl (k : Kept) : KeptBy i k k where
  corrupt := rfl
  refs := rfl
  port := rfl
  hostBuf := rfl
  prepared := rfl
  planeGen := rfl
  bits _ := ⟨rfl, rfl, fun _ => rfl⟩
  cr _ _ := rfl
  tabs _ _ _ := rfl
  vlcReady _ := rfl
  vlcSet := id
  errors _ := ⟨rfl, rfl, rfl, rfl⟩
  cleared _ := .inl rfl

theorem State.kept_setControlReg (s : State) (r : Nat) (v : Word) :
    (s.setControlReg r v).kept = { s.kept with cr := (s.setControlReg r v).kept.cr } := by
  unfold State.setControlReg
  split <;> rfl

theorem instrWrites_keptBy (hs : SpecialInstr i) (k : Kept) : InstrWrites (fun t => KeptBy i k t.kept) i := by
  have no {i : Instr} {p : Prop} (h1 : i ≠ .reset) (h2 : ∀ d, i ≠ .sliceStart d) (h : clearsErrors i) : p :=
    absurd h fun h => h.elim h1 fun ⟨d, h⟩ => h2 d h
  cases hs with
  | vlcInit => exact fun t h => { h with vlcReady := fun hne => absurd rfl hne, vlcSet := fun _ => rfl, cleared := no nofun nofun }
  | reset =>
    exact fun t h => { h with
      bits := fun hne => ⟨(h.bits hne).1, (h.bits hne).2.1, fun hne => absurd rfl hne⟩
      cr := fun _ hne => absurd rfl hne, tabs := fun _ _ hne => absurd rfl hne
      errors := fun hne => absurd (.inl rfl) hne, cleared := fun _ => .inr ⟨rfl, rfl, rfl, rfl⟩ }
  | crWrite r v =>
    intro t h
    rw [State.kept_setControlReg]
    exact { h with cr := fun hne => absurd rfl (hne r v), cleared := no nofun nofun }
  | tabWrite a b c d => exact fun t h => { h with tabs := fun hne => absurd rfl (hne a b c d), cleared := no nofun nofun }
  | bsLoad len => exact fun t h => { h with bits := fun hne => absurd rfl (hne len), cleared := no nofun nofun }
  | bsSeek => exact fun t h => { h with cleared := no nofun nofun }
  | sliceStart pos =>
    exact fun t h => { h with errors := fun hne => absurd (.inr ⟨pos, rfl⟩) hne, cleared := fun _ => .inr ⟨rfl, rfl, rfl, rfl⟩ }
  | sliceEnd => exact fun t h => { h with cleared := no nofun nofun }
  | mbRecon =>
    have hb := bodyWrites_kept fun k' => KeptBy .mbRecon k k'
    exact { hb with res := hb.toBlockWrites.toRes.res, advance := fun t h => { h with cleared := no nofun nofun } }
  | implicitWeight => exact ⟨fun t _ _ h => { h with tabs := fun _ hne => absurd rfl hne, cleared := no nofun nofun }⟩

theorem Wrote.keptBy {u : State} (h : Wrote i s u) : KeptBy i s.kept u.kept :=
  h _ (instrWrites_of_body (bodyWrites_kept _) i fun hs => instrWrites_keptBy hs s.kept) (KeptBy.refl _)

/-- An ending writes its status, and an error its registers, the engine and the corrupt flag. -/
theorem Ending.exists_wrote (h : Ending i s t) : ∃ u, Wrote i s u ∧ t.kept = { u.kept with
    engine := t.engine, corrupt := t.pic.corrupt, errKind := t.errKind, errMbX := t.errMbX, errMbY := t.errMbY
    errBitpos := t.errBitpos } := by
  cases h with
  | rejected => exact ⟨s, fun _ _ h => h, rfl⟩
  | completed u hu => exact ⟨u, hu, rfl⟩
  | raised u k hu =>
    refine ⟨u, hu, ?_⟩
    simp only [State.raise, State.kept]
    split <;> rfl
  | waiting u hu => exact ⟨u, hu, rfl⟩

/-- Settles O14. -/
theorem parametersOnlyByTheirCommands : Obligations.ParametersOnlyByTheirCommands := by
  intro i s t h
  obtain ⟨u, hu, heq⟩ := (exec_ending h).exists_wrote
  have hk := hu.keptBy
  injection heq with _ _ _ _ _ _ _ hprep hgen hrefs hport hbuf hbs hbsGen hbsLen hcr htabs
  refine ⟨hrefs.trans hk.refs, hport.trans hk.port, hbuf.trans hk.hostBuf, hprep.trans hk.prepared,
    hgen.trans hk.planeGen, fun hne => ?_, fun hne hr => ?_, fun hne hi hr => htabs.trans (hk.tabs hne hi hr)⟩
  · obtain ⟨b1, b2, b3⟩ := hk.bits hne
    exact ⟨hbs.trans b1, hbsGen.trans b2, fun hr => hbsLen.trans (b3 hr)⟩
  · simpa [State.kept] using hcr.trans (hk.cr hne hr)

/-- The error registers. -/
def State.errors (s : State) : ErrKind × BitVec 16 × BitVec 16 × Word := (s.errKind, s.errMbX, s.errMbY, s.errBitpos)

theorem errors_eq_iff {s t : State} : t.errors = s.errors ↔
    t.errKind = s.errKind ∧ t.errMbX = s.errMbX ∧ t.errMbY = s.errMbY ∧ t.errBitpos = s.errBitpos := by
  simp only [State.errors, Prod.mk.injEq]

/-- Settles O15: only an error writes the corrupt flag, and the error registers but for the two commands that clear them. -/
theorem stickyFlags : Obligations.StickyFlags := by
  intro i s t h
  have hend := exec_ending h
  have hvlc : (s.vlcReady = true → t.vlcReady = true) ∧ (i ≠ .vlcInit → t.vlcReady = s.vlcReady) := by
    obtain ⟨u, hu, heq⟩ := hend.exists_wrote
    injection heq with _ hv
    have hv : t.vlcReady = u.vlcReady := hv
    exact ⟨fun hs => hv.trans (hu.keptBy.vlcSet hs), fun hne => hv.trans (hu.keptBy.vlcReady hne)⟩
  refine ⟨hvlc.1, hvlc.2, ?_⟩
  cases hend with
  | rejected k =>
    exact ⟨id, .inl rfl, .inl ⟨rfl, rfl, rfl, rfl⟩, fun _ _ _ => ⟨rfl, rfl, rfl, rfl⟩⟩
  | completed u hu =>
    have hk := hu.keptBy
    refine ⟨hk.corrupt.trans, .inl hk.corrupt, ?_, fun _ hr hd => hk.errors fun hc => hc.elim hr fun ⟨d, hd'⟩ => hd d hd'⟩
    by_cases hc : clearsErrors i
    · rcases hk.cleared hc with heq | hzero
      · injection heq with _ _ h1 h2 h3 h4
        exact .inl ⟨h1, h2, h3, h4⟩
      · exact .inr (.inr ⟨hc, rfl, hzero⟩)
    · exact .inl (hk.errors hc)
  | raised u k hu hk he =>
    have hne : k ≠ .ok := instrStops_legal hk
    have hcorrupt : u.pic.corrupt = s.pic.corrupt := hu.keptBy.corrupt
    refine ⟨fun hs => ?_, ?_, .inr (.inl ⟨k, hne, rfl, rfl, rfl, rfl, rfl⟩), fun hst _ _ => ?_⟩
    · simp only [State.raise]
      split
      · rfl
      · exact hcorrupt.trans hs
    · by_cases hr : u.engine = .run
      · exact .inr ⟨he ▸ hr, if_pos hr, k, hne, rfl⟩
      · refine .inl ?_
        simp only [State.raise, if_neg hr]
        exact hcorrupt
    · rcases hst with hst | hst | hst
      · injection hst with hst
        exact absurd hst hne
      · cases hst
      · exact errors_eq_iff.mp ((congrArg State.errors hst).trans rfl)
  | waiting u hu hk =>
    have hne : ¬ clearsErrors i := fun hc => not_instrStops_waiting hc hk
    have hkept := hu.keptBy
    exact ⟨hkept.corrupt.trans, .inl hkept.corrupt, .inl (hkept.errors hne), fun _ _ _ => hkept.errors hne⟩

end Sys2Proof.Machine
end

section
/-! Proofs. Frames: what the instructions leave unchanged, however they end. Each frame is a part of the state that the
instruction's writes do not touch, and that its ending leaves. -/

namespace Sys2Proof.Machine

open Sys2Proof.Stated

variable {P : State → Prop} {s t : State} {i : Instr}

/-! ### From a part that is kept to a frame -/

/-- A part of the state that the body's writes and every ending leave is the same afterwards. -/
theorem Ending.part_eq {α : Type} (f : State → α) (h : Ending i s t) (hu : ∀ u, Wrote i s u → f u = f s)
    (hstatus : ∀ u st, f { u with status := st } = f u) (hraise : ∀ u k, f (u.raise k) = f u)
    (hwait : ∀ u, f u = f s → f { u with freeCtr := s.freeCtr } = f s) : f t = f s := by
  cases h with
  | rejected k => exact hstatus s _
  | completed u h => exact (hstatus u _).trans (hu u h)
  | raised u k h => exact (hraise u k).trans (hu u h)
  | waiting u h => exact (hstatus _ _).trans (hwait u (hu u h))

/-- An instruction that stops with a model fault only ends turned away or completed. -/
theorem Ending.status_only (h : Ending i s t) (hi : InstrStops i = Stop.IsFault) :
    ∃ u st, Wrote i s u ∧ t = { u with status := st } := by
  have hno {e : Stop} (he : InstrStops i e) : ∃ f, e = .faulted f := (congrFun hi e).mp he
  cases h with
  | rejected k => exact ⟨s, _, fun _ _ h => h, rfl⟩
  | completed u hu => exact ⟨u, _, hu, rfl⟩
  | raised u k _ hk =>
    obtain ⟨f, hf⟩ := hno hk
    cases hf
  | waiting u _ hk =>
    obtain ⟨f, hf⟩ := hno hk
    cases hf

/-- `s` with what an ending writes forgotten. -/
def State.noEnding (s : State) : State :=
  { s with
    status := .none, errKind := .ok, errMbX := 0, errMbY := 0, errBitpos := 0, engine := .idle
    pic := { s.pic with corrupt := false } }

theorem State.noEnding_raise (s : State) (k : ErrKind) : (s.raise k).noEnding = s.noEnding := by
  simp only [State.raise, State.noEnding]
  split <;> rfl

/-- A part of what is left of a state without its ending: only the body's writes count. -/
theorem Ending.noEnding_part_eq {α : Type} (f : State → α) (h : Ending i s t)
    (hu : ∀ u, Wrote i s u → f u.noEnding = f s.noEnding)
    (hwait : ∀ u : State, f u.noEnding = f s.noEnding → f { u.noEnding with freeCtr := s.freeCtr } = f s.noEnding) :
    f t.noEnding = f s.noEnding :=
  h.part_eq (fun u => f u.noEnding) hu (fun _ _ => rfl) (fun u k => congrArg f (u.noEnding_raise k)) hwait

/-! ### Predictors, cache and transforms -/

/-- `s` with what the predictors write forgotten. -/
def State.noPrediction (s : State) : State :=
  { s with status := .none, pmx := none, pmy := none, pnnz := none, pmode := none, res := none }

theorem noPrediction_writes (b : State) :
    PredWrites (fun t => t.noPrediction = b) ∧ PnnzWrites (fun t => t.noPrediction = b) :=
  ⟨⟨fun _ _ _ h => h, fun _ _ _ h => h⟩, ⟨fun _ _ _ h => h⟩⟩

theorem predicts_writes (hi : predicts i = true) (h : PredWrites P ∧ PnnzWrites P) :
    InstrStops i = Stop.IsFault ∧ InstrWrites P i := by
  cases i <;> cases hi
  case predNnz => exact ⟨rfl, h.2⟩
  all_goals exact ⟨rfl, h.1⟩

theorem predicts_frame (hi : predicts i = true) (h : exec i s = .next t) : t = { s with
    status := t.status, pmx := t.pmx, pmy := t.pmy, pnnz := t.pnnz, pmode := t.pmode, res := t.res } := by
  obtain ⟨hstops, hw⟩ := predicts_writes hi (noPrediction_writes s.noPrediction)
  obtain ⟨u, st, hu, rfl⟩ := (exec_ending h).status_only hstops
  have heq := hu _ hw rfl
  exact congrArg (fun v => { v with
    status := st, pmx := u.pmx, pmy := u.pmy, pnnz := u.pnnz, pmode := u.pmode, res := u.res }) heq

/-- `s` with what `CACHE_FILL` writes forgotten. -/
def State.noCache (s : State) : State :=
  { s with status := .none, cache := Caches.undef, nbAvail := [], nbIntra := [] }

theorem noCache_writes (b : State) : FillWrites (fun t => t.noCache = b) where
  nnz _ _ _ h := h
  mv _ _ _ h := h
  ref _ _ _ h := h
  i4 _ _ _ h := h
  latches _ _ _ _ _ _ _ _ _ h := h

theorem cacheFill_frame (h : exec .cacheFill s = .next t) : t = { s with
    status := t.status, cache := t.cache, nbAvail := t.nbAvail, nbIntra := t.nbIntra } := by
  obtain ⟨u, st, hu, rfl⟩ := (exec_ending h).status_only rfl
  have heq := hu _ (noCache_writes s.noCache) rfl
  exact congrArg (fun v => { v with status := st, cache := u.cache, nbAvail := u.nbAvail, nbIntra := u.nbIntra }) heq

/-- `s` with the arrays of the picture forgotten. -/
def State.noArrays (s : State) : State := { s with status := .none, pic := { s.pic with arrays := PicArrays.undef } }

theorem noArrays_writes (b : State) : ArrayWrites (fun t => t.noArrays = b) where
  macroblock _ _ _ _ _ h := h
  picNnz _ _ _ h := h
  picI4 _ _ _ h := h
  picRef _ _ _ h := h
  picMv _ _ _ h := h

theorem cacheWriteback_frame (h : exec .cacheWriteback s = .next t) :
    t = { s with status := t.status, pic := { s.pic with arrays := t.pic.arrays } } := by
  obtain ⟨u, st, hu, rfl⟩ := (exec_ending h).status_only rfl
  have heq := hu _ (noArrays_writes s.noArrays) rfl
  exact congrArg (fun v => { v with status := st, pic := { v.pic with arrays := u.pic.arrays } }) heq

/-- `s` with its samples and coefficients forgotten. -/
def State.noSamples (s : State) : State :=
  { s with status := .none, pic := { s.pic with planes := ⟨[], [], [], 0⟩ }, coefs := Coefs.zero }

theorem noSamples_writes (b : State) :
    PlaneWrites (fun t => t.noSamples = b) ∧ CoefWrites (fun t => t.noSamples = b) := by
  refine ⟨⟨fun _ _ _ _ _ _ _ h _ => h⟩, ?_⟩
  exact {
    coef := fun _ _ _ h => h, lumaDc := fun _ _ _ h => h, chromaDc := fun _ _ _ h => h, zeroCoef := fun _ _ h => h
    zeroLumaDc := fun _ h => h, zeroChromaDc := fun _ _ h => h, zeroAll := fun _ h => h }

theorem transforms_writes (hi : transforms i = true) (h : PlaneWrites P ∧ CoefWrites P) :
    InstrStops i = Stop.IsFault ∧ InstrWrites P i := by
  cases i <;> cases hi
  case intraPred => exact ⟨rfl, h.1⟩
  case idct4Add | idct4DcAdd | idct8Add | idct8DcAdd => exact ⟨rfl, h⟩
  all_goals exact ⟨rfl, h.2⟩

theorem transforms_frame (hi : transforms i = true) (h : exec i s = .next t) : t = { s with
    status := t.status, pic := { s.pic with planes := t.pic.planes }, coefs := t.coefs } := by
  obtain ⟨hstops, hw⟩ := transforms_writes hi (noSamples_writes s.noSamples)
  obtain ⟨u, st, hu, rfl⟩ := (exec_ending h).status_only hstops
  have heq := hu _ hw rfl
  exact congrArg (fun v => { v with status := st, pic := { v.pic with planes := u.pic.planes }, coefs := u.coefs }) heq

/-! ### Motion compensation -/

/-- `s` with what motion compensation writes forgotten. -/
def State.noMotion (s : State) : State :=
  { s with pic := { s.pic with planes := ⟨[], [], [], 0⟩ }, mc := McRegs.undef, tmp := [], freeCtr := 0 }

theorem noMotion_writes (b : State) : McWrites (fun t => t.noEnding.noMotion = b) where
  block _ _ _ _ _ _ _ h _ := h
  mc _ _ h := h
  tmp _ _ _ _ _ _ _ h := h
  counter _ _ h := h

theorem compensates_writes (hi : compensates i = true) (h : McWrites P) : InstrWrites P i := by
  cases i <;> cases hi
  case weightUni | weightBi => exact h.toPlaneWrites
  all_goals exact h

theorem compensates_frame (hi : compensates i = true) (h : exec i s = .next t) : t = { endedAs s t with
    pic := { s.pic with planes := t.pic.planes, corrupt := t.pic.corrupt }, mc := t.mc, tmp := t.tmp
    freeCtr := t.freeCtr } := by
  have heq := (exec_ending h).noEnding_part_eq State.noMotion
    (fun u hu => hu _ (compensates_writes hi (noMotion_writes _)) rfl) fun _ h => h
  exact congrArg (fun v => { endedAs v t with
    pic := { v.pic with planes := t.pic.planes, corrupt := t.pic.corrupt }, mc := t.mc, tmp := t.tmp
    freeCtr := t.freeCtr }) heq

/-! ### Macroblocks -/

/-- `s` with what `MB_DECODE` writes forgotten. -/
def State.noSyntax (s : State) : State :=
  { s with
    bitpos := 0, skipRun := 0, cr3 := 0, chromaQp := [], mb := Mb.undef, cache := Caches.undef, nbAvail := [], nbIntra := []
    coefs := Coefs.zero, pcm := [], res := none, pmx := none, pmy := none, pnnz := none, pmode := none
    totalCoeff := none, trailingOnes := none, level := [], levelIdx := none, suffixLength := none, zerosLeft := none
    runBefore := none, maxCoeff := none, blk := none }

theorem noSyntax_writes (b : State) : DecodeWrites (fun t => t.noEnding.noSyntax = b) where
  skip _ _ h _ := h
  regs _ _ _ _ _ _ _ _ _ _ _ h := h
  level _ _ _ h := h
  clearLevel _ h := h
  nnz _ _ _ h := h
  coef _ _ _ h := h
  lumaDc _ _ _ h := h
  chromaDc _ _ _ h := h
  zeroCoef _ _ h := h
  zeroLumaDc _ h := h
  zeroChromaDc _ _ h := h
  zeroAll _ h := h
  mv _ _ _ h := h
  ref _ _ _ h := h
  i4 _ _ _ h := h
  latches _ _ _ _ _ _ _ _ _ h := h
  pm _ _ _ h := h
  pmode _ _ _ h := h
  whole _ _ _ h := h
  cbp _ _ h := h
  dct8x8 _ _ h := h
  chromaMode _ _ h := h
  sub _ _ _ h := h
  i4Mode _ _ _ h := h
  nnzSum _ _ _ h := h
  align _ h := h
  skipRun _ _ h := h
  quantizer _ _ _ h := h
  chromaQp _ _ _ h := h
  pcm _ _ _ h := h

theorem mbDecode_frame (h : exec .mbDecode s = .next t) : t = { endedAs s t with
    bitpos := t.bitpos, skipRun := t.skipRun, cr3 := t.cr3, chromaQp := t.chromaQp, mb := t.mb, cache := t.cache
    nbAvail := t.nbAvail, nbIntra := t.nbIntra, coefs := t.coefs, pcm := t.pcm, res := t.res
    pmx := t.pmx, pmy := t.pmy, pnnz := t.pnnz, pmode := t.pmode
    totalCoeff := t.totalCoeff, trailingOnes := t.trailingOnes, level := t.level, levelIdx := t.levelIdx
    suffixLength := t.suffixLength, zerosLeft := t.zerosLeft, runBefore := t.runBefore
    maxCoeff := t.maxCoeff, blk := t.blk } := by
  have heq := (exec_ending h).noEnding_part_eq State.noSyntax (fun u hu => hu _ (noSyntax_writes _) rfl)
    fun u hu => congrArg (fun v => { v with freeCtr := s.freeCtr }) hu
  exact congrArg (fun v => { endedAs v t with
    bitpos := t.bitpos, skipRun := t.skipRun, cr3 := t.cr3, chromaQp := t.chromaQp, mb := t.mb, cache := t.cache
    nbAvail := t.nbAvail, nbIntra := t.nbIntra, coefs := t.coefs, pcm := t.pcm, res := t.res
    pmx := t.pmx, pmy := t.pmy, pnnz := t.pnnz, pmode := t.pmode
    totalCoeff := t.totalCoeff, trailingOnes := t.trailingOnes, level := t.level, levelIdx := t.levelIdx
    suffixLength := t.suffixLength, zerosLeft := t.zerosLeft, runBefore := t.runBefore
    maxCoeff := t.maxCoeff, blk := t.blk }) heq

/-- `s` with what `MB_RECON` writes forgotten. -/
def State.noRecon (s : State) : State :=
  { s with
    pic := Picture.initial, coefs := Coefs.zero, mc := McRegs.undef, tmp := [], freeCtr := 0, mb := Mb.undef
    mbX := 0, mbY := 0, res := none }

theorem noRecon_writes (b : State) : ReconWrites (fun t => t.noEnding.noRecon = b) where
  block _ _ _ _ _ _ _ h _ := h
  mc _ _ h := h
  tmp _ _ _ _ _ _ _ h := h
  counter _ _ h := h
  coef _ _ _ h := h
  lumaDc _ _ _ h := h
  chromaDc _ _ _ h := h
  zeroCoef _ _ h := h
  zeroLumaDc _ h := h
  zeroChromaDc _ _ h := h
  zeroAll _ h := h
  macroblock _ _ _ _ _ h := h
  picNnz _ _ _ h := h
  picI4 _ _ _ h := h
  picRef _ _ _ h := h
  picMv _ _ _ h := h
  res _ _ h := h
  advance _ h := h

theorem mbRecon_frame (h : exec .mbRecon s = .next t) : t = { endedAs s t with
    pic := t.pic, coefs := t.coefs, mc := t.mc, tmp := t.tmp, freeCtr := t.freeCtr, mb := t.mb
    mbX := t.mbX, mbY := t.mbY, res := t.res } := by
  have heq := (exec_ending h).noEnding_part_eq State.noRecon (fun u hu => hu _ (noRecon_writes _) rfl) fun _ h => h
  exact congrArg (fun v => { endedAs v t with
    pic := t.pic, coefs := t.coefs, mc := t.mc, tmp := t.tmp, freeCtr := t.freeCtr, mb := t.mb
    mbX := t.mbX, mbY := t.mbY, res := t.res }) heq

/-- Settles O59. -/
theorem framesOfOtherCommands : Obligations.FramesOfOtherCommands := by
  refine fun i s t h => ⟨fun hi => predicts_frame hi h, ?_, ?_, fun hi => compensates_frame hi h,
    fun hi => transforms_frame hi h, ?_, ?_⟩
  · rintro rfl
    exact cacheFill_frame h
  · rintro rfl
    exact cacheWriteback_frame h
  · rintro rfl
    exact mbDecode_frame h
  · rintro rfl
    exact ⟨mbRecon_frame h, (parametersOnlyByTheirCommands _ _ _ h).2.2.2.1⟩

/-! ### The bit reader and the residual decoder -/

/-- `s` with what a read and a residual block write forgotten. -/
def State.noReading (s : State) : State :=
  { s with
    bitpos := 0, res := none, pnnz := none, totalCoeff := none, trailingOnes := none, level := [], levelIdx := none
    suffixLength := none, zerosLeft := none, runBefore := none, maxCoeff := none, blk := none
    cache := { s.cache with nnz := [] }, coefs := Coefs.zero }

theorem noReading_writes (b : State) : ResidualWrites (fun t => t.noEnding.noReading = b) where
  skip _ _ h _ := h
  regs _ _ _ _ _ _ _ _ _ _ _ h := h
  level _ _ _ h := h
  clearLevel _ h := h
  nnz _ _ _ h := h
  coef _ _ _ h := h
  lumaDc _ _ _ h := h
  chromaDc _ _ _ h := h
  zeroCoef _ _ h := h
  zeroLumaDc _ h := h
  zeroChromaDc _ _ h := h
  zeroAll _ h := h

/-- A command of the bit reader writes the cursor and the registers of a block, and `DECODE_RESIDUAL` what it writes. -/
theorem readsBits_writes (hi : readsBits i = true) (h : RegWrites P)
    (ha : ∀ s, P s → P { s with bitpos := s.alignedPos })
    (hr : ∀ a b c d, i = .decodeResidual a b c d → ResidualWrites P) : InstrWrites P i := by
  cases i <;> cases hi
  case decodeResidual => exact hr _ _ _ _ rfl
  case peek | bitsLeft => exact h.toRes
  case skip => exact h.toBitWrites
  case align => exact ha
  case read | readUe | readSe | readTe => exact ⟨h.toBitWrites, h.toRes⟩
  all_goals exact h

theorem readsBits_frame (hi : readsBits i = true) (h : exec i s = .next t) : t = { endedAs s t with
    bitpos := t.bitpos, res := t.res, pnnz := t.pnnz
    totalCoeff := t.totalCoeff, trailingOnes := t.trailingOnes, level := t.level, levelIdx := t.levelIdx
    suffixLength := t.suffixLength, zerosLeft := t.zerosLeft, runBefore := t.runBefore
    maxCoeff := t.maxCoeff, blk := t.blk, cache := { s.cache with nnz := t.cache.nnz }, coefs := t.coefs } := by
  have hw := noReading_writes s.noEnding.noReading
  have heq := (exec_ending h).noEnding_part_eq State.noReading
    (fun u hu => hu _ (readsBits_writes hi hw.toBlockWrites.toRegWrites (fun _ h => h) fun _ _ _ _ _ => hw) rfl)
    fun u hu => congrArg (fun v => { v with freeCtr := s.freeCtr }) hu
  exact congrArg (fun v => { endedAs v t with
    bitpos := t.bitpos, res := t.res, pnnz := t.pnnz
    totalCoeff := t.totalCoeff, trailingOnes := t.trailingOnes, level := t.level, levelIdx := t.levelIdx
    suffixLength := t.suffixLength, zerosLeft := t.zerosLeft, runBefore := t.runBefore
    maxCoeff := t.maxCoeff, blk := t.blk, cache := { v.cache with nnz := t.cache.nnz }, coefs := t.coefs }) heq

/-- What only `DECODE_RESIDUAL` and `PRED_NNZ` write. -/
def State.counts (s : State) : Cells (BitVec 8) × Coefs × Option (BitVec 5) := (s.cache.nnz, s.coefs, s.pnnz)

theorem counts_writes (c : Cells (BitVec 8) × Coefs × Option (BitVec 5)) :
    RegWrites (fun t => t.noEnding.counts = c) where
  skip _ _ h _ := h
  regs _ _ _ _ _ _ _ _ _ _ h := h
  level _ _ _ h := h

theorem counts_of_readsBits (hi : readsBits i = true) (hne : ∀ a b c d, i ≠ .decodeResidual a b c d)
    (h : exec i s = .next t) : t.cache.nnz = s.cache.nnz ∧ t.coefs = s.coefs ∧ t.pnnz = s.pnnz := by
  have heq := (exec_ending h).noEnding_part_eq State.counts (fun u hu => hu _ (readsBits_writes hi (counts_writes _)
    (fun _ h => h) fun a b c d he => absurd he (hne a b c d)) rfl) fun _ h => h
  simpa only [State.counts, State.noEnding, Prod.mk.injEq] using heq

/-! ### The destination of a residual block -/

/-- The index of `COEF` lies in the block or quadrant that is the destination (R200). -/
def ResidualArgs.owns (r : ResidualArgs) (k : Nat) : Prop :=
  if r.qmul.dest8 then k / 64 = r.blk / 4 else k / 16 = r.blk

/-- What `DECODE_RESIDUAL` writes, with the places its operands give. -/
structure DestWrites (r : ResidualArgs) (P : State → Prop) : Prop extends BlockWrites P where
  nnz : ∀ s v, P s → P { s with cache := { s.cache with nnz := Cells.putAll s.cache.nnz v [scan8 r.blk] } }
  coef : r.blk ≤ 23 → ∀ s k v, r.owns k → P s → P { s with coefs := { s.coefs with coef := Cells.putZero s.coefs.coef k v } }
  lumaDc : r.blk = 24 → ∀ s k v, P s → P { s with coefs := { s.coefs with lumaDc := Cells.putZero s.coefs.lumaDc k v } }
  chromaDc : 25 ≤ r.blk → ∀ s k v, k < 8 →
    P s → P { s with coefs := { s.coefs with chromaDc := Cells.putZero s.coefs.chromaDc (8 * (r.blk - 25) + k) v } }

variable {r : ResidualArgs}

/-- Only a luma quadrant is a destination of 64 elements (R200). -/
theorem blk_le_of_dest8 (hs : Legal.residualShape r.blk r.maxCoeff r.qmul.dest8 = true) (hd : r.qmul.dest8 = true) :
    r.blk ≤ 15 := by
  rw [Legal.residualShape, hd] at hs
  refine Decidable.byContradiction fun hb => ?_
  rw [if_neg hb] at hs
  cases hs

theorem setDest_keeps_of_dest (h : DestWrites r P) (hs : Legal.residualShape r.blk r.maxCoeff r.qmul.dest8 = true) {idx : Nat}
    (hidx : idx < r.destSize) (v : Int) : Op.Keeps P (r.setDest idx v) := by
  have hd := blk_le_of_dest8 hs
  unfold ResidualArgs.setDest
  unfold ResidualArgs.destSize at hidx
  split
  · next hb => exact Op.keeps_modify fun s => h.lumaDc hb s _ _
  · next hb =>
    split
    · next hc =>
      refine Op.keeps_modify fun s => h.chromaDc hc s _ _ ?_
      rw [if_neg fun hd8 => by have := hd hd8; omega, if_neg (by omega)] at hidx
      split at hidx <;> omega
    · next hc =>
      split
      · next h8 =>
        refine Op.keeps_modify fun s => h.coef (by omega) s _ _ ?_
        rw [if_pos h8] at hidx
        rw [ResidualArgs.owns, if_pos h8]
        omega
      · next h8 =>
        refine Op.keeps_modify fun s => h.coef (by omega) s _ _ ?_
        rw [if_neg h8, if_pos (by omega)] at hidx
        rw [ResidualArgs.owns, if_neg h8]
        omega

theorem storeLevel_keeps_of_dest (h : DestWrites r P) (hs : Legal.residualShape r.blk r.maxCoeff r.qmul.dest8 = true)
    (pos : Nat) (v : Int) : Op.Keeps P (storeLevel r pos v) := by
  refine Op.keeps_bind (Op.keeps_need _) fun idx => Op.keeps_require_bind fun s hP hc => ?_
  have hset (v : Int) : Op.Keeps P (r.setDest idx v) := setDest_keeps_of_dest h hs (of_decide_eq_true hc) v
  exact (Op.keeps_ite (Op.keeps_bind (factorAt_keeps r _) fun _ => hset _) (hset _)) s hP

theorem scatterFrom_keeps_of_store (h : BlockWrites P) (hstore : ∀ pos v, Op.Keeps P (storeLevel r pos v)) :
    ∀ n i pos, Op.Keeps P (scatterFrom r n i pos)
  | 0, _, _ => Op.keeps_pure ()
  | n + 1, _, _ =>
    Op.keeps_bind (Op.keeps_need _) fun _ =>
      Op.keeps_bind (Op.keeps_ite (Op.keeps_bind (readRunBefore_keeps h) fun _ => Op.keeps_need _) (Op.keeps_pure _))
        fun _ => Op.keeps_bind (Op.keeps_need _) fun _ =>
          Op.keeps_bind (hstore _ _) fun _ => scatterFrom_keeps_of_store h hstore n _ _

theorem residualLevels_keeps_of_store (h : BlockWrites P) (hstore : ∀ pos v, Op.Keeps P (storeLevel r pos v))
    (total : Nat) : Op.Keeps P (residualLevels r total) := by
  have hscatter : Op.Keeps P (scatter r) :=
    Op.keeps_bind (Op.keeps_need _) fun _ => Op.keeps_bind (Op.keeps_need _) fun _ =>
      Op.keeps_bind (Op.keeps_require _ _) fun _ => Op.keeps_bind (Op.keeps_need _) fun _ =>
        Op.keeps_bind (hstore _ _) fun _ => scatterFrom_keeps_of_store h hstore _ _ _
  exact Op.keeps_bind (Op.keeps_require _ _) fun _ => Op.keeps_bind (readTrailingSigns_keeps h) fun _ =>
    Op.keeps_bind (readLevels_keeps h 16) fun _ => Op.keeps_bind (readTotalZeros_keeps h) fun _ => hscatter

/-- What `DECODE_RESIDUAL` writes stays in the places its operands give. -/
theorem decodeResidual_keeps_of_dest (h : DestWrites r P)
    (hs : Legal.residualShape r.blk r.maxCoeff r.qmul.dest8 = true) : Op.Keeps P (decodeResidual r) :=
  Op.keeps_bind (Op.keeps_require _ _) fun _ =>
    Op.keeps_bind (Op.keeps_modify fun s hs => h.regs s _ _ _ _ _ _ _ _ _ _ hs) fun _ =>
      Op.keeps_bind (selectTokenTable_keeps h.toBlockWrites r) fun _ =>
        Op.keeps_bind (readCoeffToken_keeps h.toBlockWrites _) fun _ => Op.keeps_bind (Op.keeps_need _) fun total =>
          Op.keeps_bind (Op.keeps_modify fun s => h.nnz s _) fun _ =>
            Op.keeps_bind (Op.keeps_when _ (Op.keeps_nested (residualLevels_keeps_of_store h.toBlockWrites
                (storeLevel_keeps_of_dest h hs) total))) fun _ =>
              Op.keeps_bind (setRes_keeps h.toBlockWrites.toRes _) fun _ => forgetBlock_keeps h.toBlockWrites

/-- A part of the coefficients and counts outside the destination is as before, however the command ends. -/
theorem decodeResidual_part_eq {α : Type} {blk scan mc : BitVec 8} {d : Word} (f : Cells (BitVec 8) → Coefs → α)
    (h : exec (.decodeResidual blk scan mc d) s = .next t)
    (hw : DestWrites ⟨blk.toNat, scan.toNat, mc.toNat, Legal.qmul d⟩
      fun u => f u.cache.nnz u.coefs = f s.cache.nnz s.coefs) : f t.cache.nnz t.coefs = f s.cache.nnz s.coefs := by
  have he : EndWrites fun u => f u.cache.nnz u.coefs = f s.cache.nnz s.coefs :=
    ⟨fun _ _ h => h, fun _ _ h => h, fun _ _ _ h => h⟩
  refine he.command (fun ha => ?_) rfl h
  have hl := and_left (and_right ha)
  simp only [Legal.residual, Bool.and_eq_true] at hl
  obtain ⟨⟨⟨⟨⟨hs, -⟩, -⟩, -⟩, -⟩, -⟩ := hl
  exact (Op.keeps_bind (Op.keeps_require _ _) fun _ => Op.keeps_bind (Op.keeps_require _ _) fun _ =>
    decodeResidual_keeps_of_dest hw hs) s rfl

/-- Settles O34. -/
theorem readingFrame : Obligations.ReadingFrame := by
  refine fun i s t hi h => ⟨readsBits_frame hi h, fun hne => counts_of_readsBits hi hne h, ?_⟩
  rintro blk scan mc d slot rfl hslot
  refine decodeResidual_part_eq (fun nnz _ => Cells.look nnz slot) h ?_
  exact {
    skip := fun _ _ h _ => h, regs := fun _ _ _ _ _ _ _ _ _ _ _ h => h, level := fun _ _ _ h => h
    clearLevel := fun _ h => h
    nnz := fun u v h => by
      rw [Cells.look_putAll, if_neg (by simpa using hslot)]
      exact h
    coef := fun _ _ _ _ _ h => h, lumaDc := fun _ _ _ _ h => h, chromaDc := fun _ _ _ _ _ h => h }

/-- Settles O35. -/
theorem residualStaysInItsBlock : Obligations.ResidualStaysInItsBlock := by
  intro s t blk scan mc d h
  refine ⟨fun k hk => ?_, fun k hb => ?_, fun c k hk hb => ?_⟩
  · refine congrArg BitVec.toInt (decodeResidual_part_eq (fun _ co => Cells.lookZero co.coef k) h ?_)
    exact {
      skip := fun _ _ h _ => h, regs := fun _ _ _ _ _ _ _ _ _ _ _ h => h, level := fun _ _ _ h => h
      clearLevel := fun _ h => h, nnz := fun _ _ h => h, lumaDc := fun _ _ _ _ h => h, chromaDc := fun _ _ _ _ _ h => h
      coef := fun hblk u k' v hown h => by
        have hne : k ≠ k' := by
          rintro rfl
          have hown : if d.getLsbD 29 = true then k / 64 = blk.toNat / 4 else k / 16 = blk.toNat := hown
          have hblk : blk.toNat ≤ 23 := hblk
          rcases hk with hk | hk
          · omega
          · split at hown <;> simp_all
        rw [Cells.lookZero_putZero, if_neg hne]
        exact h }
  · refine congrArg BitVec.toInt (decodeResidual_part_eq (fun _ co => Cells.lookZero co.lumaDc k) h ?_)
    exact {
      skip := fun _ _ h _ => h, regs := fun _ _ _ _ _ _ _ _ _ _ _ h => h, level := fun _ _ _ h => h
      clearLevel := fun _ h => h, nnz := fun _ _ h => h, coef := fun _ _ _ _ _ h => h
      chromaDc := fun _ _ _ _ _ h => h, lumaDc := fun hblk => absurd hblk hb }
  · refine congrArg BitVec.toInt (decodeResidual_part_eq (fun _ co => Cells.lookZero co.chromaDc (8 * c + k)) h ?_)
    exact {
      skip := fun _ _ h _ => h, regs := fun _ _ _ _ _ _ _ _ _ _ _ h => h, level := fun _ _ _ h => h
      clearLevel := fun _ h => h, nnz := fun _ _ h => h, coef := fun _ _ _ _ _ h => h, lumaDc := fun _ _ _ _ h => h
      chromaDc := fun hblk u k' v hk' h => by
        have hblk : 25 ≤ blk.toNat := hblk
        rw [Cells.lookZero_putZero, if_neg (by show 8 * c + k ≠ 8 * (blk.toNat - 25) + k'; omega)]
        exact h }

end Sys2Proof.Machine
end

section
/-! Proofs. The host's buffer and tables (40_bitreader_vlc.md R171, 70_reset_and_hazards.md R514), and the rules of the bit
reader that count zeros (R175, R176, R181). -/

namespace Sys2Proof.Machine

open Sys2Proof.Stated

variable {s t : State}

/-! ### `BS_LOAD` and `BS_SEEK` -/

theorem look_bytesFrom (j : Nat) : ∀ (k : Nat) (b : List Byte), Cells.look (bytesFrom k b) (k + j) = b[j]?
  | _, [] => rfl
  | k, b :: rest => by
    cases j with
    | zero => simp [bytesFrom, Cells.look]
    | succ j =>
      have hne : k + (j + 1) ≠ k := by omega
      have hrest := look_bytesFrom j (k + 1) rest
      rw [Nat.add_right_comm] at hrest
      simpa [bytesFrom, Cells.look, hne, Nat.add_assoc] using hrest

theorem accepts_idle (h : s.engine = .idle) {legal : Bool} (hl : legal = true) : (s.isIdle && legal) = true :=
  Bool.and_eq_true_iff.mpr ⟨decide_eq_true h, hl⟩

theorem bsBit_loadBits {len k : Nat} (h : k / 8 < s.hostBuf.length) (hk : k < len) :
    (s.loadBits len).bsBit k = s.hostBuf[k / 8].getLsbD (7 - k % 8) := by
  have hlook : Cells.look (bytesFrom 0 s.hostBuf) (k / 8) = some s.hostBuf[k / 8] := by
    rw [← List.getElem?_eq_getElem h, ← look_bytesFrom (k / 8) 0, Nat.zero_add]
  have hbyte : (s.loadBits len).bsByte (k / 8) = s.hostBuf[k / 8] := by
    show (Cells.look (bytesFrom 0 s.hostBuf) (k / 8)).getD _ = _
    rw [hlook, Option.getD_some]
  show (if k < len then ((s.loadBits len).bsByte (k / 8)).getLsbD (7 - k % 8) else false) = _
  rw [if_pos hk, hbyte]

/-- Settles O18. -/
theorem bitstreamLoadAndSeek : Obligations.BitstreamLoadAndSeek := by
  refine fun s d hi => ⟨fun hd => ⟨{ s.loadBits d.toNat with status := .ended .ok }, ?_, rfl, fun k h hk => ?_⟩, ?_⟩
  · exact command_ok (accepts_idle hi (decide_eq_true hd)) (Op.modify_run (fun s => s.loadBits d.toNat) s)
  · exact bsBit_loadBits h hk
  · by_cases hd : d.toNat ≤ s.bsLen
    · rw [if_pos hd]
      exact command_ok (accepts_idle hi (decide_eq_true hd)) (Op.modify_run (fun s => { s with bitpos := d.toNat }) s)
    · rw [if_neg hd]
      exact command_reject (Bool.and_eq_false_imp.mpr fun _ => decide_eq_false hd)

/-! ### `TAB_WRITE` -/

/-- With a legal `bit_depth`, the command is one write after three checks. -/
theorem exec_tabWrite {a b c : BitVec 8} {d : Word} {n : Nat} (hi : s.engine = .idle) (hd : s.bitDepthLegal = true)
    (hn : 256 * b.toNat + c.toNat = n) :
    exec (.tabWrite a b c d) s = .next (
      if a.toNat ≤ 8 ∧ n < ramSize a.toNat ∧ s.ramLegal a.toNat n d = true then
        { s with tabs := s.tabs.write a.toNat n d, status := .ended .ok }
      else refusedBy s) := by
  subst hn
  have hdepth : (!ramReadsBitDepth a.toNat || s.bitDepthLegal) = true := by rw [hd, Bool.or_true]
  by_cases hl : a.toNat ≤ 8 ∧ 256 * b.toNat + c.toNat < ramSize a.toNat
  · have hacc : (s.isIdle && (Legal.ram a && decide (256 * b.toNat + c.toNat < ramSize a.toNat))) = true :=
      accepts_idle hi (Bool.and_eq_true_iff.mpr ⟨decide_eq_true hl.1, decide_eq_true hl.2⟩)
    by_cases hr : s.ramLegal a.toNat (256 * b.toNat + c.toNat) d = true
    · rw [if_pos ⟨hl.1, hl.2, hr⟩]
      refine command_ok (t := { s with tabs := s.tabs.write a.toNat (256 * b.toNat + c.toNat) d }) hacc ?_
      rw [Op.bind_ok (Op.require_true _ hdepth), Op.bind_ok (Op.require_true _ hr)]
      rfl
    · rw [if_neg fun h => hr h.2.2]
      exact command_rejected hacc ((Op.bind_ok (Op.require_true _ hdepth)).trans
        (Op.bind_error (Op.require_false _ (Bool.eq_false_iff.mpr hr))))
  · rw [if_neg fun h => hl ⟨h.1, h.2.1⟩]
    refine command_reject (Bool.and_eq_false_imp.mpr fun _ => ?_)
    rw [Bool.eq_false_iff, Ne, Bool.and_eq_true_iff, Legal.ram, decide_eq_true_iff, decide_eq_true_iff]
    exact hl

/-- A value of one bit. -/
theorem getElem_zero_of_le_one {d : Word} (h : d.toNat ≤ 1) : d[0] = decide (d = 1) := by
  have hd : d = 0 ∨ d = 1 := by
    rcases Nat.le_one_iff_eq_zero_or_eq_one.mp h with h | h
    · exact .inl (BitVec.eq_of_toNat_eq h)
    · exact .inr (BitVec.eq_of_toNat_eq h)
  rcases hd with rfl | rfl <;> rfl

/-- Settles O21: the checks and the write, table by table. -/
theorem tableWrite : Obligations.TableWrite := by
  intro s a b c d hi hd n
  rw [exec_tabWrite (n := n) hi hd rfl]
  clear_value n
  generalize a.toNat = r
  match r with
  | 0 => simp [ramSize, State.ramLegal, ramQp, ramValueLegal, Tables.write]
  | 1 => simp [ramSize, State.ramLegal, ramQp, ramValueLegal, Tables.write]
  | 2 => simp [ramSize, State.ramLegal, ramQp, ramValueLegal, Tables.write]
  | 3 => simp [ramSize, State.ramLegal, ramQp, ramValueLegal, Tables.write]
  | 4 => simp [ramSize, State.ramLegal, ramQp, ramValueLegal, Tables.write]
  | 5 => simp [ramSize, State.ramLegal, ramQp, ramValueLegal, Tables.write]
  | 6 => simp [ramSize, State.ramLegal, ramQp, ramValueLegal, Tables.write]
  | 7 =>
    by_cases h1 : d.toNat ≤ 1
    · simp [ramSize, State.ramLegal, ramQp, ramValueLegal, Tables.write, h1, getElem_zero_of_le_one]
    · simp [ramSize, State.ramLegal, ramQp, ramValueLegal, h1]
  | 8 => simp [ramSize, State.ramLegal, ramQp, ramValueLegal, Tables.write, BitVec.setWidth_eq_extractLsb']
  | r + 9 => simp

/-! ### `PEEK`, `SKIP` and `ALIGN` -/

theorem peekBits_spells (s : State) (n : Nat) : spells s s.bitpos n (s.peekBits n) := (spells_iff ..).mpr rfl

theorem toNat_peekBits {n : Nat} (hn : n ≤ 32) : (BitVec.ofNat 32 (s.peekBits n)).toNat = s.peekBits n := by
  exact Nat.mod_eq_of_lt (Nat.lt_of_lt_of_le (peekBits_spells s n).1 (Nat.pow_le_pow_right (by decide) hn))

/-- Settles O22. -/
theorem peekSkipAndAlign : Obligations.PeekSkipAndAlign := by
  refine fun s n h => ⟨fun hn => ⟨⟨BitVec.ofNat 32 (s.peekBits n.toNat), ?_, ?_⟩, ?_⟩, fun k hk => if_neg (Nat.not_lt.mpr hk), ?_⟩
  · rw [toNat_peekBits hn]
    exact peekBits_spells s _
  · exact command_setRes_ok (accepts_reading h (decide_eq_true hn)) (Op.read_run _ s)
  · have hacc := accepts_reading h (legal := Legal.bits n) (decide_eq_true hn)
    by_cases hb : s.bitpos + n.toNat ≤ s.bsLen
    · rw [if_pos hb]
      exact command_ok hacc (skipBits_ok hb)
    · rw [if_neg hb]
      exact command_raised hacc (skipBits_insufficient (Nat.not_le.mp hb))
  · have hpos : s.alignedPos = if s.bsLen < (s.bitpos + 7) / 8 * 8 then s.bsLen else (s.bitpos + 7) / 8 * 8 := by
      rw [State.alignedPos]
      split <;> omega
    rw [← hpos]
    exact command_ok (accepts_reading h rfl) (Op.modify_run (fun s => { s with bitpos := s.alignedPos }) s)

/-! ### Counting zeros -/

theorem bsBit_lt {k : Nat} (h : s.bsBit k = true) : k < s.bsLen := by
  refine Decidable.byContradiction fun hk => ?_
  rw [State.bsBit, if_neg hk] at h
  cases h

theorem readBits_one {n : Nat} (h : s.bitpos + 1 + n ≤ s.bsLen) :
    readBits 1 s = .ok (s.bsBit s.bitpos).toNat { s with bitpos := s.bitpos + 1 } := by
  rw [readBits_ok (by omega), s.peekBits_one]

section
variable {k : ErrKind}

/-- A zero is counted. -/
theorem countZeros_zero {left z : Nat} (hbit : s.bsBit s.bitpos = false) (hb : s.bitpos + 1 ≤ s.bsLen) :
    countZeros k (left + 1) z s = countZeros k left (z + 1) { s with bitpos := s.bitpos + 1 } := by
  rw [countZeros, Op.bind_ok (readBits_one (n := 0) hb), hbit]
  rfl

/-- A one ends the count. -/
theorem countZeros_one {left z : Nat} (hbit : s.bsBit s.bitpos = true) :
    countZeros k (left + 1) z s = .ok z { s with bitpos := s.bitpos + 1 } := by
  rw [countZeros, Op.bind_ok (readBits_one (n := 0) (bsBit_lt hbit)), hbit]
  rfl

/-- A run of zeros is counted one by one. -/
theorem countZeros_zeros {n left z : Nat} (hz : ∀ j, j < n → s.bsBit (s.bitpos + j) = false) (hb : s.bitpos + n ≤ s.bsLen) :
    countZeros k (n + left) z s = countZeros k left (z + n) { s with bitpos := s.bitpos + n } := by
  induction n generalizing s z with
  | zero => simp
  | succ n ih =>
    have hfirst : countZeros k (n + 1 + left) z s = countZeros k (n + left) (z + 1) { s with bitpos := s.bitpos + 1 } := by
      rw [Nat.add_right_comm]
      exact countZeros_zero (hz 0 (by omega)) (by omega)
    have hrest : ∀ j, j < n → s.bsBit (s.bitpos + 1 + j) = false := fun j hj => by
      rw [Nat.add_assoc, Nat.add_comm 1]
      exact hz (j + 1) (by omega)
    rw [hfirst, ih (s := { s with bitpos := s.bitpos + 1 }) hrest (by show s.bitpos + 1 + n ≤ s.bsLen; omega)]
    simp only [Nat.add_assoc, Nat.add_comm 1]

theorem countZeros_ok {n left : Nat} (h : zerosThenOne s n = true) (hn : n < left) :
    countZeros k left 0 s = .ok n { s with bitpos := s.bitpos + n + 1 } := by
  simp only [zerosThenOne, Bool.and_eq_true, List.all_eq_true, List.mem_range, Bool.not_eq_true'] at h
  obtain ⟨hz, hone⟩ := h
  obtain ⟨m, rfl⟩ : ∃ m, left = n + (m + 1) := ⟨left - n - 1, by omega⟩
  rw [countZeros_zeros hz (by have := bsBit_lt hone; omega), Nat.zero_add]
  exact countZeros_one hone

theorem zerosAhead_iff {n : Nat} : zerosAhead s n = true ↔
    (∀ j, j < n → s.bsBit (s.bitpos + j) = false) ∧ s.bitpos + n ≤ s.bsLen := by
  simp [zerosAhead]

theorem countZeros_raise {left : Nat} (h : zerosAhead s left = true) :
    countZeros k left 0 s = .error (.raised k) { s with bitpos := s.bitpos + left } := by
  obtain ⟨hz, hb⟩ := zerosAhead_iff.mp h
  exact countZeros_zeros (left := 0) hz hb

theorem countZeros_insufficient {n left : Nat} (h : zerosAhead s n = true) (hend : s.bitpos + n = s.bsLen) (hn : n < left) :
    countZeros k left 0 s = .error (.raised .insufficientBits) { s with bitpos := s.bsLen } := by
  obtain ⟨hz, hb⟩ := zerosAhead_iff.mp h
  obtain ⟨m, rfl⟩ : ∃ m, left = n + (m + 1) := ⟨left - n - 1, by omega⟩
  rw [countZeros_zeros hz hb, hend]
  exact Op.bind_error (readBits_insufficient (by show s.bsLen < s.bsLen + 1; omega))

end

/-! ### `READ_UE` and `READ_SE` -/

theorem peekBits_of_spells {n x : Nat} (h : spells s s.bitpos n x) : s.peekBits n = x := (spells_iff ..).mp h

theorem readUe_ok {k x : Nat} (hk : k ≤ 31) (hz : zerosThenOne s k = true) (hb : s.bitpos + 2 * k + 1 ≤ s.bsLen)
    (hx : spells s (s.bitpos + k + 1) k x) :
    readUe s = .ok (2 ^ k - 1 + x) { s with bitpos := s.bitpos + 2 * k + 1 } := by
  rw [readUe, Op.bind_ok (countZeros_ok hz (by omega)),
    Op.bind_ok (readBits_ok (by show s.bitpos + k + 1 + k ≤ s.bsLen; omega)),
    peekBits_of_spells (s := { s with bitpos := s.bitpos + k + 1 }) hx,
    show s.bitpos + k + 1 + k = s.bitpos + 2 * k + 1 by omega]
  rfl

theorem readUe_suffix_insufficient {k : Nat} (hk : k ≤ 31) (hz : zerosThenOne s k = true)
    (hb : s.bsLen < s.bitpos + 2 * k + 1) :
    readUe s = .error (.raised .insufficientBits) { s with bitpos := s.bitpos + k + 1 } := by
  rw [readUe, Op.bind_ok (countZeros_ok hz (by omega)),
    Op.bind_error (readBits_insufficient (by show s.bsLen < s.bitpos + k + 1 + k; omega))]

theorem readSe_ok {v : Nat} (h : readUe s = .ok v t) : readSe s = .ok (seOfUe v) t := by
  rw [readSe, Op.bind_ok h, Op.pure_run]

theorem seOfUe_eq (v : Nat) : seOfUe v = if v % 2 = 1 then ((v : Int) + 1) / 2 else -((v : Int) / 2) := by
  rw [seOfUe]
  push_cast
  rfl

/-- The command completes with the signed number its body answers. -/
theorem command_setRes_int_ok {accepted legal : Bool} {m : Op Int} {v : Int} (h : (accepted && legal) = true)
    (hm : m s = .ok v t) :
    command accepted legal (m >>= fun v => setRes v) s
      = .next { t with res := some (BitVec.ofInt 32 v), status := .ended .ok } :=
  command_ok (t := { t with res := some (BitVec.ofInt 32 v) }) h (Op.bind_ok hm)

theorem exec_readSe_of_stop {u : State} (h : reading s = true) (hu : exec .readUe s = .next u) (hs : u.status ≠ .ended .ok) :
    exec .readSe s = .next u := by
  have hacc := accepts_reading h (legal := true) rfl
  rw [show exec .readUe s = command _ true _ s from rfl, command_run hacc] at hu
  rw [show exec .readSe s = command _ true _ s from rfl, command_run hacc]
  cases hr : readUe s with
  | ok v t =>
    rw [Op.bind_ok hr] at hu
    cases hu
    exact absurd rfl hs
  | error e t =>
    rw [Op.bind_error hr] at hu
    rwa [Op.bind_error (show readSe s = .error e t from Op.bind_error hr)]

/-- Settles O24: the zeros are counted, then the bits after the one are read. -/
theorem expGolomb : Obligations.ExpGolomb := by
  intro s h
  have hacc := accepts_reading h (legal := true) rfl
  refine ⟨fun k x v hk hz hb hx hv => ?_, fun hz => ?_, fun k hk hend hz => ?_, fun k hk hz hb => ?_,
    fun u hu hs => exec_readSe_of_stop h hu hs⟩
  · subst hv
    have hue := readUe_ok hk hz hb hx
    refine ⟨command_setRes_ok hacc hue, ?_⟩
    rw [← seOfUe_eq]
    exact command_setRes_int_ok hacc (readSe_ok hue)
  · exact command_setRes_raised hacc (Op.bind_error (countZeros_raise hz))
  · exact command_setRes_raised hacc (Op.bind_error (countZeros_insufficient hz hend (by omega)))
  · exact command_setRes_raised hacc (readUe_suffix_insufficient hk hz hb)

end Sys2Proof.Machine
end

section
/-! Proofs. The commands of a residual block as rules (41_cavlc_residual.md R206 to R218): the token, the signs, a level, the
total of zeros. -/

namespace Sys2Proof.Machine

open Sys2Proof.Stated

variable {s t : State} {table : List Vlc.Code} {c : Vlc.Code}

/-! ### `READ_COEFF_TOKEN` -/

/-- What a coefficient token leaves in the registers (R206). -/
def afterToken (sym : Nat) (s : State) : State :=
  { s with
    trailingOnes := some (BitVec.ofNat 2 (sym % 4)), totalCoeff := some (BitVec.ofNat 5 (sym / 4))
    res := some (BitVec.ofNat 32 sym) }

theorem readCoeffToken_ok (hv : s.vlcReady = true) (h : s.nextCode table = some c) (hb : s.bitpos + c.len ≤ s.bsLen) :
    readCoeffToken table s = .ok () (afterToken c.sym { s with bitpos := s.bitpos + c.len }) := by
  rw [readCoeffToken, Op.bind_ok (vlcDecode_ok hv h hb)]
  rfl

theorem ofNat_classSize (sel : Nat) : BitVec.ofNat 5 (classSize sel) = tokenMaxCoeff sel := by
  unfold classSize tokenMaxCoeff
  split
  · rfl
  · split <;> rfl

/-- The state the look-up of a token issued alone starts from (R206). -/
def tokenStart (s : State) (sel : Nat) : State :=
  { s with maxCoeff := some (BitVec.ofNat 5 (classSize sel)), blk := none }

theorem tokenStep_run (s : State) (sel : Nat) : tokenStep sel s = readCoeffToken (Vlc.token sel) (tokenStart s sel) := by
  rw [tokenStep, Op.bind_ok (Op.modify_run _ s), tokenStart, ofNat_classSize]

/-- Settles O25: in a token table no codeword begins another. -/
theorem coeffToken : Obligations.CoeffToken := by
  intro s sel hr hv hsel
  have hacc := accepts_reading hr (legal := Legal.tokenSel sel && s.vlcReady)
    (Bool.and_eq_true_iff.mpr ⟨decide_eq_true hsel, hv⟩)
  have ht := token_prefixFree sel.toNat
  refine ⟨fun c hc hnext => ?_, fun hnone => ?_⟩
  · have hcode : (tokenStart s sel.toNat).nextCode (Vlc.token sel.toNat) = some c := nextCode_eq_some ht hc hnext
    show _ = Host.Outcome.next (if s.bitpos + c.len ≤ s.bsLen then _ else _)
    by_cases hb : s.bitpos + c.len ≤ s.bsLen
    · rw [if_pos hb]
      exact command_ok hacc ((tokenStep_run ..).trans (readCoeffToken_ok hv hcode hb))
    · rw [if_neg hb]
      refine command_raised hacc ((tokenStep_run ..).trans (Op.bind_error ?_))
      exact vlcDecode_insufficient hv hcode (Nat.not_le.mp hb)
  · refine command_raised hacc ((tokenStep_run ..).trans (Op.bind_error ?_))
    exact vlcDecode_corrupted hv (nextCode_eq_none ht hnone)

/-! ### The registers of a block -/

section
variable {total mc idx : BitVec 5} {n : BitVec 2} {sl : BitVec 3}

theorem totalCoeff_run (h : s.totalCoeff = some total) : totalCoeff s = .ok total.toNat s :=
  Op.need_some (by rw [h, Option.map_some])

theorem maxCoeff_run (h : s.maxCoeff = some mc) : maxCoeff s = .ok mc.toNat s :=
  Op.need_some (by rw [h, Option.map_some])

theorem trailingOnes_run (h : s.trailingOnes = some n) : trailingOnes s = .ok n.toNat s :=
  Op.need_some (by rw [h, Option.map_some])

theorem levelIdx_run (h : s.levelIdx = some idx) : levelIdx s = .ok idx.toNat s :=
  Op.need_some (by rw [h, Option.map_some])

theorem needBlock_run (ht : s.totalCoeff = some total) (hm : s.maxCoeff = some mc) :
    needBlock s = if 1 ≤ total.toNat ∧ total.toNat ≤ mc.toNat then .ok (total.toNat, mc.toNat) s
      else .error (.rejected .illegalCommand) s := by
  rw [needBlock, Op.bind_ok (totalCoeff_run ht), Op.bind_ok (maxCoeff_run hm)]
  split
  · next h => rw [Op.bind_ok (Op.require_true _ (decide_eq_true h)), Op.pure_run]
  · next h => rw [Op.bind_error (Op.require_false _ (decide_eq_false h))]

theorem needBlock_ok (ht : s.totalCoeff = some total) (hm : s.maxCoeff = some mc) (h1 : 1 ≤ total.toNat)
    (hle : total.toNat ≤ mc.toNat) : needBlock s = .ok (total.toNat, mc.toNat) s := by
  rw [needBlock_run ht hm, if_pos ⟨h1, hle⟩]

theorem needBlock_rejected (ht : s.totalCoeff = some total) (hm : s.maxCoeff = some mc)
    (h : total.toNat = 0 ∨ mc.toNat < total.toNat) : needBlock s = .error (.rejected .illegalCommand) s := by
  rw [needBlock_run ht hm, if_neg (by omega)]

end

theorem setLevel_ok {i : Nat} (h : i ≤ 15) (v : Int) (s : State) :
    setLevel i v s = .ok () { s with level := Cells.put s.level i (BitVec.ofInt 32 v) } :=
  Op.bind_ok (Op.require_true _ (decide_eq_true h))

/-! ### `READ_TRAILING_SIGNS` -/

/-- The levels with `m` signs of the bitstream `bits`, from bit `pos` on, put from index `i` on (R208). -/
def signLevels (bits : Nat → Bool) : (m i pos : Nat) → Cells Word → Cells Word
  | 0, _, _, levels => levels
  | m + 1, i, pos, levels =>
    signLevels bits m (i + 1) (pos + 1) (Cells.put levels i (if bits pos then -1 else 1))

theorem look_signLevels (bits : Nat → Bool) (k m : Nat) (i pos : Nat) (levels : Cells Word) :
    Cells.look (signLevels bits m i pos levels) k =
      if i ≤ k ∧ k < i + m then some (if bits (pos + (k - i)) then -1 else 1) else Cells.look levels k := by
  induction m generalizing i pos levels with
  | zero =>
    have hout : ¬ (i ≤ k ∧ k < i + 0) := by omega
    rw [if_neg hout]
    rfl
  | succ m ih =>
    rw [signLevels, ih, Cells.look_put]
    by_cases hk : k = i
    · subst hk
      have hin : k ≤ k ∧ k < k + (m + 1) := by omega
      have hout : ¬ (k + 1 ≤ k ∧ k < k + 1 + m) := by omega
      rw [if_neg hout, if_pos rfl, if_pos hin, Nat.sub_self, Nat.add_zero]
    · have hin : i + 1 ≤ k ∧ k < i + 1 + m ↔ i ≤ k ∧ k < i + (m + 1) := by omega
      rw [if_neg hk]
      simp only [hin]
      split
      · next h => rw [show pos + 1 + (k - (i + 1)) = pos + (k - i) by omega]
      · rfl

theorem ofInt_sign (b : Bool) : BitVec.ofInt 32 (1 - 2 * (b.toNat : Int)) = if b then -1 else 1 := by
  cases b <;> rfl

/-- One sign bit is one level. -/
theorem signStep_ok {i : Nat} (hi : i ≤ 15) (hb : s.bitpos + 1 ≤ s.bsLen) :
    (readBits 1 >>= fun b => setLevel i (1 - 2 * b)) s = .ok () { s with
      bitpos := s.bitpos + 1, level := Cells.put s.level i (if s.bsBit s.bitpos then -1 else 1) } := by
  rw [Op.bind_ok (readBits_one (n := 0) hb), setLevel_ok hi, ofInt_sign]

theorem signs_ok (m : Nat) : ∀ (i : Nat) (s : State), i + m ≤ 16 → s.bitpos + m ≤ s.bsLen →
    Op.each (List.range' i m) (fun i => readBits 1 >>= fun b => setLevel i (1 - 2 * b)) s = .ok () { s with
      bitpos := s.bitpos + m, level := signLevels s.bsBit m i s.bitpos s.level } := by
  induction m with
  | zero => exact fun _ _ _ _ => rfl
  | succ m ih =>
    intro i s hi hb
    rw [List.range'_succ, Op.each, Op.bind_ok (signStep_ok (by omega) (by omega)),
      ih (i + 1) _ (by omega) (by show s.bitpos + 1 + m ≤ s.bsLen; omega)]
    rw [signLevels, ← Nat.add_right_comm s.bitpos]
    rfl

/-- What the signs of the trailing ones leave (R208). -/
def afterSigns (total n : Nat) (s : State) : State :=
  { s with
    bitpos := s.bitpos + n, level := signLevels s.bsBit n 0 s.bitpos s.level, levelIdx := some (BitVec.ofNat 5 n)
    suffixLength := some (if 10 < total ∧ n < 3 then 1 else 0), res := some (BitVec.ofNat 32 n) }

theorem readTrailingSigns_ok {total mc : BitVec 5} {n : BitVec 2} (ht : s.totalCoeff = some total)
    (hm : s.maxCoeff = some mc) (hn : s.trailingOnes = some n) (h1 : 1 ≤ total.toNat) (hle : total.toNat ≤ mc.toNat)
    (hb : s.bitpos + n.toNat ≤ s.bsLen) : readTrailingSigns s = .ok () (afterSigns total.toNat n.toNat s) := by
  have hlt := n.isLt
  rw [readTrailingSigns, Op.bind_ok (needBlock_ok ht hm h1 hle), Op.bind_ok (trailingOnes_run hn), List.range_eq_range',
    Op.bind_ok (signs_ok n.toNat 0 s (by omega) hb)]
  rfl

/-- Settles O26. -/
theorem trailingSigns : Obligations.TrailingSigns := by
  intro s total mc n hr ht hm
  have hacc := accepts_reading hr (legal := true) rfl
  refine ⟨fun hn h1 hle hb => ⟨signLevels s.bsBit n.toNat 0 s.bitpos s.level, ?_, fun k => ?_⟩, fun h => ?_⟩
  · exact command_ok hacc (readTrailingSigns_ok ht hm hn h1 hle hb)
  · rw [look_signLevels, Nat.zero_add, Nat.sub_zero]
    simp only [Nat.zero_le, true_and]
  · exact command_rejected hacc (Op.bind_error (needBlock_rejected ht hm h))

/-! ### `READ_LEVEL` -/

theorem prefixRule_eq_levelCode (sl p : Nat) : prefixRule sl p = levelCode sl p := by
  unfold prefixRule levelCode
  by_cases h14 : p < 14
  · rw [if_pos (.inl h14), if_pos h14]
  · by_cases h : p = 14
    · subst h
      cases sl <;> simp
    · by_cases h15 : p = 15
      · subst h15
        cases sl <;> simp
      · rw [if_neg (by omega), if_neg h, if_neg h15, if_neg h14, if_neg h, if_neg h15]

theorem levelOfCode_eq_signedLevel (code : Nat) : levelOfCode code = signedLevel code := by
  unfold levelOfCode signedLevel
  split
  · congr 1; omega
  · congr 2; omega

theorem nextSuffixLength_eq_suffixAfter {sl : Nat} (h : sl ≤ 6) (level : Int) :
    nextSuffixLength sl level = suffixAfter sl level.natAbs := by
  obtain rfl | rfl | rfl | rfl | rfl | rfl | rfl : sl = 0 ∨ sl = 1 ∨ sl = 2 ∨ sl = 3 ∨ sl = 4 ∨ sl = 5 ∨ sl = 6 := by omega
  all_goals simp [nextSuffixLength, suffixAfter, exceedsSuffixLimit, suffixLimit]

/-- The level that `p` zeros and the suffix `x` spell at suffix length `sl` (R210, R213). -/
def spelledLevel (sl p x : Nat) (first : Bool) : Int := signedLevel ((levelCode sl p).1 + x + if first then 2 else 0)

theorem decodeLevel_ok {sl p x : Nat} (first : Bool) (hp : p ≤ 28) (hz : zerosThenOne s p = true)
    (hb : s.bitpos + p + 1 + (levelCode sl p).2 ≤ s.bsLen) (hx : spells s (s.bitpos + p + 1) (levelCode sl p).2 x) :
    decodeLevel sl first s
      = .ok (spelledLevel sl p x first) { s with bitpos := s.bitpos + p + 1 + (levelCode sl p).2 } := by
  rw [decodeLevel, getLevelPrefix, Op.bind_ok (countZeros_ok hz (by omega)),
    Op.bind_ok (Op.require_true _ (decide_eq_true hp)), prefixRule_eq_levelCode,
    Op.bind_ok (readBits_ok (s := { s with bitpos := s.bitpos + p + 1 }) hb),
    peekBits_of_spells (s := { s with bitpos := s.bitpos + p + 1 }) hx, levelOfCode_eq_signedLevel]
  rfl

/-- What a level leaves (R210). -/
def afterLevel (idx sl : Nat) (v : Int) (s : State) : State :=
  { s with
    level := Cells.put s.level idx (BitVec.ofInt 32 v), levelIdx := some (BitVec.ofNat 5 (idx + 1))
    suffixLength := some (BitVec.ofNat 3 (suffixAfter sl v.natAbs)), res := some (BitVec.ofInt 32 v) }

section
variable {idx total : BitVec 5} {n : BitVec 2} {sl : BitVec 3}
variable (hi : s.levelIdx = some idx) (ht : s.totalCoeff = some total)
include hi ht

theorem readLevel_rejected (h : total.toNat ≤ idx.toNat) : readLevel s = .error (.rejected .illegalCommand) s := by
  rw [readLevel, Op.bind_ok (levelIdx_run hi), Op.bind_ok (totalCoeff_run ht),
    Op.bind_error (Op.require_false _ (decide_eq_false (Nat.not_lt.mpr h)))]

variable (hn : s.trailingOnes = some n) (hsl : s.suffixLength = some sl) (hlt : idx.toNat < total.toNat)
include hn hsl hlt

/-- After its checks the command decodes a level and puts it in its place. -/
theorem readLevel_run : readLevel s = (decodeLevel sl.toNat (decide (idx.toNat = n.toNat ∧ n.toNat < 3)) >>= fun v =>
    setLevel idx.toNat v >>= fun _ => Op.modify fun s => { s with
      levelIdx := some (BitVec.ofNat 5 (idx.toNat + 1))
      suffixLength := some (BitVec.ofNat 3 (nextSuffixLength sl.toNat v)), res := some (BitVec.ofInt 32 v) }) s := by
  rw [readLevel, Op.bind_ok (levelIdx_run hi), Op.bind_ok (totalCoeff_run ht),
    Op.bind_ok (Op.require_true _ (decide_eq_true hlt)), Op.bind_ok (trailingOnes_run hn),
    Op.bind_ok (Op.need_some (a := sl.toNat) (by rw [hsl, Option.map_some]))]

theorem readLevel_ok {v : Int} (hmax : total.toNat ≤ 16) (hsl6 : sl.toNat ≤ 6)
    (hv : decodeLevel sl.toNat (decide (idx.toNat = n.toNat ∧ n.toNat < 3)) s = .ok v t) :
    readLevel s = .ok () (afterLevel idx.toNat sl.toNat v t) := by
  rw [readLevel_run hi ht hn hsl hlt, Op.bind_ok hv, Op.bind_ok (setLevel_ok (by omega) v _), Op.modify_run,
    nextSuffixLength_eq_suffixAfter hsl6]
  rfl

theorem readLevel_error {e : Stop} (hv : ∀ first, decodeLevel sl.toNat first s = .error e t) : readLevel s = .error e t := by
  rw [readLevel_run hi ht hn hsl hlt, Op.bind_error (hv _)]

end

/-- Settles O27: the zeros counted, the suffix and the sign folding are the model's under other names. -/
theorem readLevelValue : Obligations.ReadLevelValue := by
  intro s idx total n sl hr hv hi ht hn hsl hmax hsl6
  have hacc := accepts_reading hr hv
  refine ⟨fun p x v hlt hp hz hb hx heq => ?_, fun p hlt hlo hhi hz hb => ?_, fun hlt hz => ?_, fun hle => ?_⟩
  · have hdec := decodeLevel_ok (decide (idx.toNat = n.toNat ∧ n.toNat < 3)) hp hz hb hx
    rw [spelledLevel] at hdec
    simp only [decide_eq_true_eq, ← heq] at hdec
    exact command_ok hacc (readLevel_ok hi ht hn hsl hlt hmax hsl6 hdec)
  · refine command_raised hacc (readLevel_error hi ht hn hsl hlt fun first => ?_)
    rw [decodeLevel, getLevelPrefix, Op.bind_ok (countZeros_ok hz (by omega)),
      Op.bind_error (Op.require_false _ (decide_eq_false (by omega)))]
  · exact command_raised hacc (readLevel_error hi ht hn hsl hlt fun first => Op.bind_error (countZeros_raise hz))
  · exact command_rejected hacc (readLevel_rejected hi ht hle)

/-! ### `READ_TOTAL_ZEROS` -/

theorem zerosTable_prefixFree (mc total : Nat) : PrefixFree (zerosTable mc total) := by
  unfold zerosTable
  split
  · exact chromaDcZeros_prefixFree _
  · split
    · exact chroma422DcZeros_prefixFree _
    · exact zeros_prefixFree _

/-- What the total of zeros leaves (R218). -/
def afterZeros (z : Nat) (s : State) : State :=
  { s with zerosLeft := some (BitVec.ofNat 6 z), res := some (BitVec.ofNat 32 z) }

section
variable {total mc : BitVec 5} (ht : s.totalCoeff = some total) (hm : s.maxCoeff = some mc)
include ht hm

theorem readTotalZeros_full (h1 : 1 ≤ total.toNat) (heq : total = mc) : readTotalZeros s = .ok () (afterZeros 0 s) := by
  subst heq
  rw [readTotalZeros, Op.bind_ok (needBlock_ok ht hm h1 (Nat.le_refl _)), decodeTotalZeros, if_pos rfl,
    Op.bind_ok (Op.pure_run ..)]
  rfl

/-- With a coefficient missing, a codeword is looked up. -/
theorem readTotalZeros_run (h1 : 1 ≤ total.toNat) (hlt : total.toNat < mc.toNat) (h16 : mc.toNat ≤ 16) :
    readTotalZeros s = (vlcDecode (zerosTable mc.toNat total.toNat) >>= fun z => Op.modify (afterZeros z)) s := by
  rw [readTotalZeros, Op.bind_ok (needBlock_ok ht hm h1 (by omega)), decodeTotalZeros, if_neg (by omega), bind_assoc,
    Op.bind_ok (Op.require_true _ (decide_eq_true (by omega)))]
  rfl

end

/-- Settles O28: in the tables of the total of zeros no codeword begins another. -/
theorem totalZeros : Obligations.TotalZeros := by
  intro s total mc hr hv ht hm
  have hacc := accepts_reading hr hv
  have hp := zerosTable_prefixFree mc.toNat total.toNat
  refine ⟨fun h1 heq => ?_, fun c hc h1 hlt h16 hnext => ?_, fun hnone h1 hlt h16 => ?_, fun h => ?_⟩
  · exact command_ok hacc (readTotalZeros_full ht hm h1 heq)
  · have hcode := nextCode_eq_some hp hc hnext
    by_cases hb : s.bitpos + c.len ≤ s.bsLen
    · rw [if_pos hb]
      refine command_ok (t := afterZeros c.sym { s with bitpos := s.bitpos + c.len }) hacc ?_
      rw [readTotalZeros_run ht hm h1 hlt h16, Op.bind_ok (vlcDecode_ok hv hcode hb), Op.modify_run]
    · rw [if_neg hb]
      refine command_raised hacc ?_
      rw [readTotalZeros_run ht hm h1 hlt h16, Op.bind_error (vlcDecode_insufficient hv hcode (Nat.not_le.mp hb))]
  · refine command_raised hacc ?_
    rw [readTotalZeros_run ht hm h1 hlt h16, Op.bind_error (vlcDecode_corrupted hv (nextCode_eq_none hp hnone))]
  · exact command_rejected hacc (Op.bind_error (needBlock_rejected ht hm h))

end Sys2Proof.Machine
end

section
/-! Proofs. Commands issued one after another: where the steps of the statements complete, the operation of the model gives the
same value and the same state. One rule per primitive and combinator of the steps. -/

namespace Sys2Proof.Machine

open Sys2Proof.Stated

variable {α β : Type} {s t : State}

/-! ### The arithmetic shift

It rounds down, as the division does. -/

theorem shiftRight_one (x : Int) : x >>> 1 = x / 2 :=
  (show x >>> 1 = x >>> (1 : Nat) by cases x <;> rfl).trans (Int.shiftRight_eq_div_pow x 1)

theorem shiftRight_two (x : Int) : x >>> 2 = x / 4 :=
  (show x >>> 2 = x >>> (2 : Nat) by cases x <;> rfl).trans (Int.shiftRight_eq_div_pow x 2)

theorem shiftRight_three (x : Int) : x >>> 3 = x / 8 :=
  (show x >>> 3 = x >>> (3 : Nat) by cases x <;> rfl).trans (Int.shiftRight_eq_div_pow x 3)

theorem shiftRight_five (x : Int) : x >>> 5 = x / 32 :=
  (show x >>> 5 = x >>> (5 : Nat) by cases x <;> rfl).trans (Int.shiftRight_eq_div_pow x 5)

theorem shiftRight_six (x : Int) : x >>> 6 = x / 64 :=
  (show x >>> 6 = x >>> (6 : Nat) by cases x <;> rfl).trans (Int.shiftRight_eq_div_pow x 6)

theorem shiftRight_seven (x : Int) : x >>> 7 = x / 128 :=
  (show x >>> 7 = x >>> (7 : Nat) by cases x <;> rfl).trans (Int.shiftRight_eq_div_pow x 7)

theorem shiftRight_eight (x : Int) : x >>> 8 = x / 256 :=
  (show x >>> 8 = x >>> (8 : Nat) by cases x <;> rfl).trans (Int.shiftRight_eq_div_pow x 8)

theorem shiftRight_ten (x : Int) : x >>> 10 = x / 1024 :=
  (show x >>> 10 = x >>> (10 : Nat) by cases x <;> rfl).trans (Int.shiftRight_eq_div_pow x 10)

/-! ### Small numbers, case by case -/

theorem eq_of_le_three {n : Nat} (h : n ≤ 3) : n = 0 ∨ n = 1 ∨ n = 2 ∨ n = 3 := by omega

theorem eq_of_le_seven {n : Nat} (h : n ≤ 7) : n = 0 ∨ n = 1 ∨ n = 2 ∨ n = 3 ∨ n = 4 ∨ n = 5 ∨ n = 6 ∨ n = 7 := by omega

/-! ### Steps and operations -/

/-- Where the steps complete, the operation completes with the same value and state. -/
def Follows (p : Steps α) (m : Op α) : Prop := ∀ s a t, p s = some (a, t) → m s = .ok a t

theorem Steps.bind_some_iff {p : Steps α} {f : α → Steps β} {b : β} :
    (p >>= f) s = some (b, t) ↔ ∃ a u, p s = some (a, u) ∧ f a u = some (b, t) := by
  show (p s >>= fun x => f x.1 x.2) = _ ↔ _
  rw [Option.bind_eq_bind, Option.bind_eq_some_iff]
  exact Prod.exists

theorem Steps.only_some_iff {c : Bool} {u : Unit} : only c s = some (u, t) ↔ c = true ∧ t = s := by
  cases c
  · simp [only]
  · simp [only, eq_comm]

theorem Follows.bind {p : Steps α} {m : Op α} {f : α → Steps β} {g : α → Op β} (h : Follows p m)
    (hf : ∀ a, Follows (f a) (g a)) : Follows (p >>= f) (m >>= g) := by
  intro s b t hb
  obtain ⟨a, u, ha, hb⟩ := Steps.bind_some_iff.mp hb
  rw [Op.bind_ok (h s a u ha)]
  exact hf a u b t hb

theorem Follows.pure {a : α} : Follows (pure a) (pure a : Op α) := by
  rintro s b t h
  cases h
  rfl

theorem Follows.view {f : State → α} : Follows (view f) (Op.read f) := by
  rintro s b t h
  cases h
  rfl

theorem Follows.change {f : State → State} : Follows (change f) (Op.modify f) := by
  rintro s b t h
  cases h
  rfl

theorem Follows.held {f g : State → Option α} (h : ∀ s, f s = g s) : Follows (held f) (Op.need g) := by
  intro s b t hb
  obtain ⟨a, ha, hb⟩ := Option.map_eq_some_iff.mp hb
  cases hb
  exact Op.need_some ((h s).symm.trans ha)

theorem Follows.only {c : Bool} {d : State → Bool} {e : Stop} (h : c = true → ∀ s, d s = true) :
    Follows (only c) (Op.require d e) := by
  intro s b t hb
  obtain ⟨hc, ht⟩ := Steps.only_some_iff.mp hb
  rw [ht]
  exact Op.require_true e (h hc s)

theorem Follows.ite {c : Prop} [Decidable c] {p q : Steps α} {m n : Op α} (hp : c → Follows p m) (hq : ¬ c → Follows q n) :
    Follows (if c then p else q) (if c then m else n) := by
  split
  · next h => exact hp h
  · next h => exact hq h

theorem Follows.onlyIf {c : Bool} {p : Steps Unit} {m : Op Unit} (h : c = true → Follows p m) :
    Follows (onlyIf c p) (Op.when c m) := .ite h fun _ => .pure

theorem Follows.nested {p : Steps α} {m : Op α} (h : Follows p m) : Follows p (Op.nested m) :=
  fun s a t hp => Op.nested_ok (h s a t hp)

theorem Follows.forEach {f : α → Steps Unit} {g : α → Op Unit} {as : List α} (h : ∀ a ∈ as, Follows (f a) (g a)) :
    Follows (forEach as f) (Op.each as g) := by
  induction as with
  | nil => exact .pure
  | cons a as ih => exact .bind (h a (by simp)) fun _ => ih fun b hb => h b (List.mem_cons_of_mem _ hb)

theorem Follows.gather {f : α → Steps β} {g : α → Op β} {as : List α} (h : ∀ a ∈ as, Follows (f a) (g a)) :
    Follows (gather as f) (Op.collect as g) := by
  induction as with
  | nil => exact .pure
  | cons a as ih =>
    exact .bind (h a (by simp)) fun _ => .bind (ih fun b hb => h b (List.mem_cons_of_mem _ hb)) fun _ => .pure

/-! ### A command issued -/

/-- The body leaves the status to the host. -/
def Op.KeepsStatus (m : Op α) : Prop := ∀ st, Op.Keeps (fun s => s.status = st) m

theorem bodyWrites_status (st : Status) : BodyWrites fun s => s.status = st where
  skip _ _ h _ := h
  regs _ _ _ _ _ _ _ _ _ _ _ h := h
  level _ _ _ h := h
  clearLevel _ h := h
  nnz _ _ _ h := h
  coef _ _ _ h := h
  lumaDc _ _ _ h := h
  chromaDc _ _ _ h := h
  zeroCoef _ _ h := h
  zeroLumaDc _ h := h
  zeroChromaDc _ _ h := h
  zeroAll _ h := h
  mv _ _ _ h := h
  ref _ _ _ h := h
  i4 _ _ _ h := h
  latches _ _ _ _ _ _ _ _ _ h := h
  pm _ _ _ h := h
  pmode _ _ _ h := h
  whole _ _ _ h := h
  cbp _ _ h := h
  dct8x8 _ _ h := h
  chromaMode _ _ h := h
  sub _ _ _ h := h
  i4Mode _ _ _ h := h
  nnzSum _ _ _ h := h
  align _ h := h
  skipRun _ _ h := h
  quantizer _ _ _ h := h
  chromaQp _ _ _ h := h
  pcm _ _ _ h := h
  block _ _ _ _ _ _ _ h _ := h
  mc _ _ h := h
  tmp _ _ _ _ _ _ _ h := h
  counter _ _ h := h
  macroblock _ _ _ _ _ h := h
  picNnz _ _ _ h := h
  picI4 _ _ _ h := h
  picRef _ _ _ h := h
  picMv _ _ _ h := h

/-- The body of a command completes where the command issued completes. -/
theorem issue_ok {i : Instr} {accepted legal : Bool} {body : Op Unit} (heq : exec i s = command accepted legal body s)
    (hst : body.StopsIn Stop.Legal) (hk : Op.KeepsStatus body) (hi : issue i s = some ((), t)) : body s = .ok () t := by
  have hstops {e : Stop} {u : State} (hb : body s = .error e u) : e.Legal := hst s e u hb
  rw [issue, heq] at hi
  cases ha : accepted && legal
  · rw [command_reject ha] at hi
    cases hi
  · rw [command_run ha] at hi
    cases hb : body s with
    | ok a u =>
      rw [hb] at hi
      have hu : u.status = s.status := (hk s.status).ok rfl hb
      have ht : ({ u with status := s.status } : State) = t := by simpa [finish] using hi
      rw [← ht, ← hu]
    | error e u =>
      rw [hb] at hi
      have he := hstops hb
      cases e with
      | rejected k =>
        have hk : k ≠ .ok := by rcases he with rfl | rfl <;> exact ErrKind.noConfusion
        simp [finish, State.reject, hk] at hi
      | raised k =>
        have hk : k ≠ .ok := he
        simp [finish, State.raise, hk] at hi
      | faulted f => cases hi
      | waiting => simp [finish] at hi

theorem Follows.issue {i : Instr} {body : Op Unit}
    (heq : ∀ s, ∃ accepted legal, exec i s = command accepted legal body s) (hst : body.StopsIn Stop.Legal)
    (hk : Op.KeepsStatus body) : Follows (issue i) body := by
  intro s a t hi
  obtain ⟨accepted, legal, heq⟩ := heq s
  exact issue_ok heq hst hk hi

end Sys2Proof.Machine
end

section
/-! Proofs. `DECODE_RESIDUAL` (41_cavlc_residual.md R200 to R223): the token and its table, then what is left of the block; and the
block as the commands it is made of. -/

namespace Sys2Proof.Machine

open Sys2Proof.Stated

variable {s t : State} {table : List Vlc.Code} {c : Vlc.Code} {r : ResidualArgs}

/-! ### The token -/

/-- The table index by the ranges of R205. -/
theorem coeffTokenTableIndex_eq {p : Nat} (h : p ≤ 16) :
    coeffTokenTableIndex p = if p ≤ 1 then 0 else if p ≤ 3 then 1 else if p ≤ 7 then 2 else 3 := by
  have hall : ∀ p < 17, coeffTokenTableIndex p = if p ≤ 1 then 0 else if p ≤ 3 then 1 else if p ≤ 7 then 2 else 3 := by decide
  exact hall p (Nat.lt_succ_of_le h)

theorem coeffTokenTableIndex_le {p : Nat} (h : p ≤ 16) : coeffTokenTableIndex p ≤ 5 := by
  rw [coeffTokenTableIndex_eq h]
  repeat' split
  all_goals decide

/-- The table of a predicted count by the ranges of R205. -/
theorem tokenOfCount (p : Nat) :
    (if p ≤ 1 then some (Vlc.token 0) else if p ≤ 3 then some (Vlc.token 1) else if p ≤ 7 then some (Vlc.token 2)
      else if p ≤ 16 then some (Vlc.token 3) else none)
      = if p ≤ 16 then some (Vlc.token (coeffTokenTableIndex p)) else none := by
  by_cases h : p ≤ 16
  · rw [if_pos h, if_pos h, coeffTokenTableIndex_eq h]
    repeat' split
    all_goals rfl
  · rw [if_neg (by omega), if_neg (by omega), if_neg (by omega)]
    simp only [if_neg h]

/-- The token table of a block that is no chroma DC block, from the slots to the left and above (R205). -/
theorem tokenTable_of_counts {blk mc : Nat} (h4 : mc ≠ 4) (h8 : mc ≠ 8) (h : tokenTable s blk mc = some table) :
    ∃ left top, Cells.look s.cache.nnz (scan8 (if blk = 24 then 0 else blk) - 1) = some left
      ∧ Cells.look s.cache.nnz (scan8 (if blk = 24 then 0 else blk) - 8) = some top
      ∧ nnzPrediction left.toNat top.toNat ≤ 16
      ∧ table = Vlc.token (coeffTokenTableIndex (nnzPrediction left.toNat top.toNat)) := by
  rw [tokenTable, if_neg h4, if_neg h8] at h
  dsimp only at h
  split at h
  · next l u hl hu =>
    have h : (if nnzPrediction l.toNat u.toNat ≤ 16
        then some (Vlc.token (coeffTokenTableIndex (nnzPrediction l.toNat u.toNat))) else none) = some table :=
      (tokenOfCount _).symm.trans h
    split at h
    · next h16 => exact ⟨l, u, hl, hu, h16, (Option.some.inj h).symm⟩
    · cases h
  · cases h

/-- A block's token table is one of the six. -/
theorem tokenTable_eq {blk mc : Nat} (h : tokenTable s blk mc = some table) : ∃ k, k ≤ 5 ∧ table = Vlc.token k := by
  by_cases h4 : mc = 4
  · rw [tokenTable, if_pos h4] at h
    exact ⟨4, by decide, (Option.some.inj h).symm⟩
  by_cases h8 : mc = 8
  · rw [tokenTable, if_neg h4, if_pos h8] at h
    exact ⟨5, by decide, (Option.some.inj h).symm⟩
  obtain ⟨l, u, -, -, h16, rfl⟩ := tokenTable_of_counts h4 h8 h
  exact ⟨_, coeffTokenTableIndex_le h16, rfl⟩

theorem tokenTable_prefixFree {blk mc : Nat} (h : tokenTable s blk mc = some table) : PrefixFree table := by
  obtain ⟨k, -, rfl⟩ := tokenTable_eq h
  exact token_prefixFree k

theorem token_total_le {k : Nat} (hk : k ≤ 5) : ∀ c ∈ Vlc.token k, c.sym / 4 ≤ 16 := by
  obtain rfl | rfl | rfl | rfl | rfl | rfl : k = 0 ∨ k = 1 ∨ k = 2 ∨ k = 3 ∨ k = 4 ∨ k = 5 := by omega
  all_goals decide

theorem selectTokenTable_ok (h : tokenTable s r.blk r.maxCoeff = some table) : ∃ p v,
    selectTokenTable r s = .ok table { s with pnnz := p, res := v } ∧ (r.maxCoeff = 4 ∨ r.maxCoeff = 8 → p = s.pnnz) := by
  by_cases h4 : r.maxCoeff = 4
  · rw [tokenTable, if_pos h4] at h
    cases h
    exact ⟨s.pnnz, s.res, by rw [selectTokenTable, if_pos h4, Op.pure_run], fun _ => rfl⟩
  by_cases h8 : r.maxCoeff = 8
  · rw [tokenTable, if_neg h4, if_pos h8] at h
    cases h
    exact ⟨s.pnnz, s.res, by rw [selectTokenTable, if_neg h4, if_pos h8, Op.pure_run], fun _ => rfl⟩
  obtain ⟨l, u, hl, hu, h16, rfl⟩ := tokenTable_of_counts h4 h8 h
  refine ⟨some (BitVec.ofNat 5 (nnzPrediction l.toNat u.toNat)), some (BitVec.ofNat 32 (nnzPrediction l.toNat u.toNat)), ?_,
    fun hne => absurd hne (by omega)⟩
  rw [selectTokenTable, if_neg h4, if_neg h8, Op.bind_ok (predNnz_ok hl hu),
    Op.bind_ok (Op.require_true _ (decide_eq_true h16)), Op.pure_run]

/-! ### The block after its token -/

/-- What `DECODE_RESIDUAL` does of a block with `total` coefficients after the token (R200, R204). -/
def residualTail (r : ResidualArgs) (total : Nat) : Op Unit := do
  setNnz [scan8 r.blk] (BitVec.ofNat 8 total)
  Op.when (decide (0 < total)) (Op.nested (residualLevels r total))
  setRes total
  Op.modify State.forgetBlock

/-- The state after the token of a block (R200, R205, R206). -/
def blockStart (s : State) (r : ResidualArgs) (c : Vlc.Code) (p : Option (BitVec 5)) : State :=
  afterToken c.sym { s with
    maxCoeff := some (BitVec.ofNat 5 r.maxCoeff), blk := some (BitVec.ofNat 5 r.blk), pnnz := p
    bitpos := s.bitpos + c.len }

theorem decodeResidual_of_token (hv : s.vlcReady = true) (h : tokenTable s r.blk r.maxCoeff = some table) (hc : c ∈ table)
    (hnext : codeNext s c = true) (hb : s.bitpos + c.len ≤ s.bsLen) : ∃ p,
    decodeResidual r s = residualTail r (c.sym / 4) (blockStart s r c p)
      ∧ (r.maxCoeff = 4 ∨ r.maxCoeff = 8 → p = s.pnnz) := by
  obtain ⟨p, v, hsel, hp⟩ := selectTokenTable_ok
    (s := { s with maxCoeff := some (BitVec.ofNat 5 r.maxCoeff), blk := some (BitVec.ofNat 5 r.blk) }) h
  refine ⟨p, ?_, hp⟩
  have htok := readCoeffToken_ok
    (s := { s with
      maxCoeff := some (BitVec.ofNat 5 r.maxCoeff), blk := some (BitVec.ofNat 5 r.blk), pnnz := p, res := v })
    hv (nextCode_eq_some (tokenTable_prefixFree h) hc hnext) hb
  have htotal : (BitVec.ofNat 5 (c.sym / 4)).toNat = c.sym / 4 := by
    obtain ⟨k, hk, rfl⟩ := tokenTable_eq h
    exact Nat.mod_eq_of_lt (by have := token_total_le hk c hc; omega)
  rw [decodeResidual, Op.bind_ok (Op.require_true _ hv), Op.bind_ok (Op.modify_run _ s), Op.bind_ok hsel, Op.bind_ok htok,
    Op.bind_ok (totalCoeff_run (total := BitVec.ofNat 5 (c.sym / 4)) rfl), htotal]
  rfl

/-! ### The command -/

section
variable {blk scan mc : BitVec 8} {d : Word}

/-- The operands of the command, as the model reads them. -/
def residualArgs (blk scan mc : BitVec 8) (d : Word) : ResidualArgs := ⟨blk.toNat, scan.toNat, mc.toNat, Legal.qmul d⟩

/-- Past its checks the command is the block. -/
theorem exec_decodeResidual (hr : reading s = true) (hv : s.vlcReady = true) (hd : s.bitDepthLegal = true)
    (hw : Instr.wellFormed (.decodeResidual blk scan mc d) = true) (hq : (d.extractLsb' 0 7).toNat ≤ s.maxQp) :
    exec (.decodeResidual blk scan mc d) s = command true true (decodeResidual (residualArgs blk scan mc d)) s := by
  have hacc := accepts_reading hr (legal := Legal.residual blk scan mc d && s.vlcReady)
    (Bool.and_eq_true_iff.mpr ⟨hw, hv⟩)
  refine (command_run hacc).trans (Eq.trans ?_ (command_run rfl).symm)
  rw [Op.bind_ok (Op.require_true _ hd), Op.bind_ok (Op.require_true _ (decide_eq_true hq))]
  rfl

/-- The shapes of a block (R200). -/
theorem residualShape_of_wellFormed (hw : Instr.wellFormed (.decodeResidual blk scan mc d) = true) :
    Legal.residualShape blk.toNat mc.toNat (d.getLsbD 29) = true := by
  simp only [Instr.wellFormed, Legal.residual, Bool.and_eq_true] at hw
  obtain ⟨⟨⟨⟨⟨hs, -⟩, -⟩, -⟩, -⟩, -⟩ := hw
  exact hs

theorem maxCoeff_cases {b m : Nat} {dest8 : Bool} (h : Legal.residualShape b m dest8 = true) :
    m = 4 ∨ m = 8 ∨ m = 15 ∨ m = 16 := by
  unfold Legal.residualShape at h
  repeat' split at h
  all_goals simp only [decide_eq_true_eq, Bool.false_eq_true] at h
  all_goals omega

theorem maxCoeff_of_chromaDc {b m : Nat} {dest8 : Bool} (h : Legal.residualShape b m dest8 = true) (hb : 24 < b) :
    dest8 = false ∧ (m = 4 ∨ m = 8) := by
  unfold Legal.residualShape at h
  rw [if_neg (by omega)] at h
  cases dest8
  · rw [if_neg (by decide), if_neg (by omega), if_neg (by omega)] at h
    split at h
    · exact ⟨rfl, of_decide_eq_true h⟩
    · cases h
  · cases h

/-- Settles O30: with no coefficient, nothing but the count is stored after the token. -/
theorem residualOfEmptyBlock : Obligations.ResidualOfEmptyBlock := by
  intro s blk scan mc d table c hr hv hd hw hq ht hc hsym hnext hb
  obtain ⟨p, hrun, hp⟩ := decodeResidual_of_token (r := residualArgs blk scan mc d) hv ht hc hnext hb
  refine ⟨p, ?_, fun hmc => hp ?_⟩
  · rw [exec_decodeResidual hr hv hd hw hq]
    refine command_ok (t := { blockDone s blk.toNat 0 with bitpos := s.bitpos + c.len, pnnz := p, status := s.status }) rfl ?_
    rw [hrun, hsym]
    rfl
  · have hcases := maxCoeff_cases (residualShape_of_wellFormed hw)
    show mc.toNat = 4 ∨ mc.toNat = 8
    omega

/-- Settles O33: the count is stored before it is compared. -/
theorem tooManyCoefficients : Obligations.TooManyCoefficients := by
  intro s blk scan mc d table c hr hv hd hw hq ht hc hlt hnext hb
  obtain ⟨p, hrun, -⟩ := decodeResidual_of_token (r := residualArgs blk scan mc d) hv ht hc hnext hb
  let u := blockStart s (residualArgs blk scan mc d) c p
  refine ⟨{ u with cache := { u.cache with
    nnz := Cells.put u.cache.nnz (scan8 blk.toNat) (BitVec.ofNat 8 (c.sym / 4)) } }, ?_, rfl⟩
  rw [exec_decodeResidual hr hv hd hw hq]
  refine command_raised rfl ?_
  have hpos : decide (0 < c.sym / 4) = true := decide_eq_true (by omega)
  have hmany : decide (c.sym / 4 ≤ (residualArgs blk scan mc d).maxCoeff) = false := decide_eq_false (Nat.not_le.mpr hlt)
  have hlevels (v : State) : Op.nested (residualLevels (residualArgs blk scan mc d) (c.sym / 4)) v
      = .error (.raised .corruptedSyntax) v := by
    rw [Op.nested, residualLevels, Op.bind_error (Op.require_false _ hmany)]
  rw [hrun, residualTail, setNnz, Op.bind_ok (Op.modify_run _ _), hpos, Op.when_true, Op.bind_error (hlevels _)]
  rfl

end

/-! ### The block by its commands -/

/-- The operands of the statement, as the model reads them. -/
def operandArgs (r : ResidualOperands) : ResidualArgs :=
  ⟨r.blk, r.scan, r.mc, ⟨r.valid, r.is8, r.dest8, r.m, r.off, r.qp⟩⟩

theorem follows_totalCoeff : Follows (held fun s => s.totalCoeff.map BitVec.toNat) totalCoeff := .held fun _ => rfl

theorem follows_readRunBefore : Follows (issue .readRunBefore) readRunBefore :=
  .issue (fun _ => ⟨_, _, rfl⟩) readRunBefore_stops fun st => readRunBefore_keeps (bodyWrites_status st).toBlockWrites

theorem follows_readTotalZeros : Follows (issue .readTotalZeros) readTotalZeros :=
  .issue (fun _ => ⟨_, _, rfl⟩) readTotalZeros_stops fun st => readTotalZeros_keeps (bodyWrites_status st).toBlockWrites

theorem follows_readLevel : Follows (issue .readLevel) readLevel :=
  .issue (fun _ => ⟨_, _, rfl⟩) readLevel_stops fun st => readLevel_keeps (bodyWrites_status st).toBlockWrites

theorem follows_readTrailingSigns : Follows (issue .readTrailingSigns) readTrailingSigns :=
  .issue (fun _ => ⟨_, _, rfl⟩) readTrailingSigns_stops
    fun st => readTrailingSigns_keeps (bodyWrites_status st).toBlockWrites

theorem follows_tokenStep (sel : BitVec 8) : Follows (issue (.readCoeffToken sel)) (tokenStep sel.toNat) :=
  .issue (fun _ => ⟨_, _, rfl⟩) (tokenStep_stops _) fun st => tokenStep_keeps (bodyWrites_status st).toBlockWrites _

section
variable {r : ResidualOperands}

theorem follows_factor (idx : Nat) : Follows (r.factor idx) ((operandArgs r).factorAt idx) := by
  intro s a t h
  obtain ⟨f, hf, h⟩ := Option.map_eq_some_iff.mp h
  cases h
  dsimp only at hf
  unfold ResidualArgs.factorAt
  cases h8 : r.is8
  · by_cases hidx : idx ≤ 15
    · rw [h8, if_neg Bool.false_ne_true, if_pos hidx] at hf
      rw [show (operandArgs r).qmul.is8 = false from h8, if_neg Bool.false_ne_true,
        Op.bind_ok (Op.require_true _ (decide_eq_true hidx))]
      exact Op.need_some hf
    · rw [h8, if_neg Bool.false_ne_true, if_neg hidx] at hf
      cases hf
  · rw [h8, if_pos rfl] at hf
    rw [show (operandArgs r).qmul.is8 = true from h8, if_pos rfl]
    exact Op.need_some hf

theorem follows_put (idx : Nat) (v : Int) : Follows (r.put idx v) ((operandArgs r).setDest idx v) := by
  intro s a t h
  cases h
  unfold ResidualArgs.setDest
  show (if r.blk = 24 then setLumaDc idx v
    else if 25 ≤ r.blk then setChromaDc (r.blk - 25) idx v
    else if r.dest8 = true then setCoef (64 * (r.blk / 4) + idx) v
    else setCoef (16 * r.blk + idx) v) s = _
  split
  · rfl
  split
  · rfl
  split <;> rfl

theorem follows_store (hsize : r.size = (operandArgs r).destSize) (pos : Nat) (v : Int) :
    Follows (r.store pos v) (storeLevel (operandArgs r) pos v) := by
  refine .bind (.held fun s => ?_) fun idx => .bind (.only fun h _ => ?_) fun _ => .ite (fun _ => ?_) fun _ => follows_put _ _
  · rw [Nat.mul_comm 64]
    rfl
  · rw [← hsize]
    exact h
  · refine .bind (follows_factor idx) fun f => ?_
    rw [dequantize, shiftRight_six]
    exact follows_put _ _

theorem follows_runOf : Follows runOf (zerosLeft >>= nextRun) :=
  .bind (.held fun _ => rfl) fun _ => .ite (fun _ => .bind follows_readRunBefore fun _ => .held fun _ => rfl) fun _ => .pure

theorem follows_place (hsize : r.size = (operandArgs r).destSize) (n : Nat) :
    ∀ i pos, Follows (r.place n i pos) (scatterFrom (operandArgs r) n i pos) := by
  induction n with
  | zero => exact fun _ _ => .pure
  | succ n ih =>
    intro i pos
    have hbody : Follows (r.place (n + 1) i pos) ((zerosLeft >>= nextRun) >>= fun run => levelAt i >>= fun v =>
        storeLevel (operandArgs r) (pos - 1 - run) v >>= fun _ => scatterFrom (operandArgs r) n (i + 1) (pos - 1 - run)) :=
      .bind follows_runOf fun run => .bind (.held fun _ => rfl) fun v => .bind (follows_store hsize _ _) fun _ => ih _ _
    rwa [bind_assoc] at hbody

theorem follows_scatter (hsize : r.size = (operandArgs r).destSize) : Follows r.scatter (scatter (operandArgs r)) :=
  .bind follows_totalCoeff fun _ => .bind (.held fun _ => rfl) fun _ => .bind (.only fun h _ => h) fun _ =>
    .bind (.held fun _ => rfl) fun _ => .bind (follows_store hsize _ _) fun _ => follows_place hsize _ _ _

theorem follows_levelSteps (n : Nat) : Follows (levelSteps n) (readLevels n) := by
  induction n with
  | zero => exact .pure
  | succ n ih =>
    exact .bind (.held fun _ => rfl) fun _ => .bind follows_totalCoeff fun _ =>
      .ite (fun _ => .bind follows_readLevel fun _ => ih) fun _ => .pure

/-- The steps after the token. -/
def tailSteps (r : ResidualOperands) (total : Nat) : Steps Unit := do
  change fun s =>
    { s with cache := { s.cache with nnz := Cells.put s.cache.nnz (scan8 r.blk) (BitVec.ofNat 8 total) } }
  onlyIf (decide (0 < total)) do
    only (total ≤ r.mc)
    issue .readTrailingSigns
    levelSteps 16
    issue .readTotalZeros
    r.scatter
  change fun s =>
    { s with
      totalCoeff := none, trailingOnes := none, level := [], levelIdx := none, suffixLength := none
      zerosLeft := none, runBefore := none, maxCoeff := none, blk := none, res := some (BitVec.ofNat 32 total) }

theorem follows_tail (hsize : r.size = (operandArgs r).destSize) (total : Nat) :
    Follows (tailSteps r total) (residualTail (operandArgs r) total) := by
  refine .bind .change fun _ => .bind (.onlyIf fun _ => .nested (.bind (.only fun h _ => h) fun _ =>
    .bind follows_readTrailingSigns fun _ => .bind (follows_levelSteps 16) fun _ =>
      .bind follows_readTotalZeros fun _ => follows_scatter hsize)) fun _ => ?_
  rintro s a t h
  cases h
  rw [Op.bind_ok (setRes_natCast total s)]
  rfl

/-- A token read has found a codeword that fits. -/
theorem readCoeffToken_inv (h : readCoeffToken table s = .ok () t) : ∃ c, s.vlcReady = true ∧ s.nextCode table = some c
    ∧ s.bitpos + c.len ≤ s.bsLen ∧ t = afterToken c.sym { s with bitpos := s.bitpos + c.len } := by
  obtain ⟨sym, u, hdec, hmod⟩ := Op.bind_ok_iff.mp h
  obtain ⟨_, _, hreq, h⟩ := Op.bind_ok_iff.mp hdec
  obtain ⟨hv, -⟩ := Op.require_ok_iff.mp hreq
  cases hn : s.nextCode table with
  | none =>
    rw [vlcDecode_corrupted hv hn] at hdec
    cases hdec
  | some c =>
    by_cases hb : s.bitpos + c.len ≤ s.bsLen
    · rw [vlcDecode_ok hv hn hb] at hdec
      cases hdec
      cases hmod
      exact ⟨c, hv, rfl, hb, rfl⟩
    · rw [vlcDecode_insufficient hv hn (Nat.not_le.mp hb)] at hdec
      cases hdec

/-- The selector of the steps is the table of the model; only `RES` differs. -/
theorem selectTokenTable_of_selector {sel : Nat} {m b : Option (BitVec 5)}
    (h : tokenSelector r.blk r.mc s = some (sel, t)) : ∃ v, sel ≤ 5 ∧
      selectTokenTable (operandArgs r) { s with maxCoeff := m, blk := b }
        = .ok (Vlc.token sel) { t with maxCoeff := m, blk := b, res := v } := by
  unfold tokenSelector at h
  unfold selectTokenTable
  by_cases h4 : r.mc = 4
  · rw [if_pos h4] at h
    cases h
    exact ⟨s.res, by decide, by rw [if_pos (show (operandArgs r).maxCoeff = 4 from h4), Op.pure_run]⟩
  by_cases h8 : r.mc = 8
  · rw [if_neg h4, if_pos h8] at h
    cases h
    exact ⟨s.res, by decide, by
      rw [if_neg (show (operandArgs r).maxCoeff ≠ 4 from h4), if_pos (show (operandArgs r).maxCoeff = 8 from h8), Op.pure_run]⟩
  rw [if_neg h4, if_neg h8] at h
  obtain ⟨left, u1, hheld, h⟩ := Steps.bind_some_iff.mp h
  obtain ⟨l, hl, hu⟩ := Option.map_eq_some_iff.mp hheld
  cases hu
  obtain ⟨top, u2, hheld', h⟩ := Steps.bind_some_iff.mp h
  obtain ⟨u, ht, hu⟩ := Option.map_eq_some_iff.mp hheld'
  cases hu
  obtain ⟨_, u3, hc, h⟩ := Steps.bind_some_iff.mp h
  cases hc
  obtain ⟨_, u4, ho, h⟩ := Steps.bind_some_iff.mp h
  obtain ⟨hp, hu⟩ := Steps.only_some_iff.mp ho
  cases hu
  cases h
  have h16 : nnzPrediction left.toNat top.toNat ≤ 16 := of_decide_eq_true hp
  refine ⟨some (BitVec.ofNat 32 (nnzPrediction left.toNat top.toNat)), ?_, ?_⟩
  · repeat' split
    all_goals decide
  · have hpred := predNnz_ok (s := { s with maxCoeff := m, blk := b }) hl ht
    rw [if_neg (show (operandArgs r).maxCoeff ≠ 4 from h4), if_neg (show (operandArgs r).maxCoeff ≠ 8 from h8)]
    refine (Op.bind_ok hpred).trans ((Op.bind_ok (Op.require_true _ (decide_eq_true h16))).trans ?_)
    rw [coeffTokenTableIndex_eq h16]
    rfl

end

/-- The steps of a block are its token, the registers the block latches, and what follows the token. -/
theorem decodeResidual_of_steps {r : ResidualOperands} (hready : s.vlcReady = true) (hsize : r.size = (operandArgs r).destSize)
    (h : r.steps s = some ((), t)) : decodeResidual (operandArgs r) s = .ok () t := by
  obtain ⟨sel, s1, hsel, h⟩ := Steps.bind_some_iff.mp h
  obtain ⟨_, s2, htok, h⟩ := Steps.bind_some_iff.mp h
  obtain ⟨_, s3, hlatch, h⟩ := Steps.bind_some_iff.mp h
  obtain ⟨total, s4, htotal, htail⟩ := Steps.bind_some_iff.mp h
  cases hlatch
  obtain ⟨v, hle, hselect⟩ := selectTokenTable_of_selector (r := r)
    (m := some (BitVec.ofNat 5 r.mc)) (b := some (BitVec.ofNat 5 r.blk)) hsel
  have hsel8 : (BitVec.ofNat 8 sel).toNat = sel := Nat.mod_eq_of_lt (by omega)
  have hstep := follows_tokenStep _ s1 () s2 htok
  rw [hsel8, tokenStep_run] at hstep
  obtain ⟨c, hv, hcode, hb, rfl⟩ := readCoeffToken_inv hstep
  have hread := readCoeffToken_ok (table := Vlc.token sel)
    (s := { s1 with maxCoeff := some (BitVec.ofNat 5 r.mc), blk := some (BitVec.ofNat 5 r.blk), res := v }) hv hcode hb
  have htotal' := follows_totalCoeff _ _ _ htotal
  refine (Op.bind_ok (Op.require_true _ hready)).trans ((Op.bind_ok (Op.modify_run _ s)).trans ?_)
  exact (Op.bind_ok hselect).trans ((Op.bind_ok hread).trans ((Op.bind_ok htotal').trans
    (follows_tail hsize _ _ _ _ htail)))

/-- Settles O32. -/
theorem residualBySteps : Obligations.ResidualBySteps := by
  intro s u blk scan mc d hr hv hd hw hq h
  obtain ⟨⟨_, t⟩, hsteps, rfl⟩ := Option.map_eq_some_iff.mp h
  have hs := residualShape_of_wellFormed hw
  have hsize : (residualOperands blk scan mc d).size = (operandArgs (residualOperands blk scan mc d)).destSize := by
    show (if d.getLsbD 29 = true then 64 else if blk.toNat ≤ 24 then 16 else mc.toNat)
      = if d.getLsbD 29 = true then 64 else if blk.toNat ≤ 24 then 16 else if mc.toNat = 4 then 4 else 8
    split
    · rfl
    split
    · rfl
    · next hb =>
      obtain ⟨-, hmc⟩ := maxCoeff_of_chromaDc hs (by omega)
      split <;> omega
  rw [exec_decodeResidual hr hv hd hw hq]
  exact command_ok rfl (decodeResidual_of_steps hv hsize hsteps)

end Sys2Proof.Machine
end

section
/-! Proofs. A residual block of one coefficient (41_cavlc_residual.md R222, R223): its sign, its place and its dequantized value. -/

namespace Sys2Proof.Machine

open Sys2Proof.Stated

variable {s t : State} {r : ResidualArgs}

/-! ### The fields of a selector -/

section
variable {m off qp : Nat} (hm : m ≤ 5) (ho : off ≤ 48) (hq : qp < 128)
include hm ho hq

/-- The selector of a dequantized 4×4 block, field by field (30_encoding.md R103). -/
theorem qmul_ofNat : Legal.qmul (BitVec.ofNat 32 (2 ^ 31 + 2 ^ 24 * m + 2 ^ 16 * off + qp)) = ⟨true, false, false, m, off, qp⟩ := by
  have hd : (BitVec.ofNat 32 (2 ^ 31 + 2 ^ 24 * m + 2 ^ 16 * off + qp)).toNat = 2 ^ 31 + 2 ^ 24 * m + 2 ^ 16 * off + qp :=
    Nat.mod_eq_of_lt (by omega)
  rw [Legal.qmul, Legal.Qmul.mk.injEq]
  simp only [BitVec.getLsbD, BitVec.extractLsb'_toNat, Nat.shiftRight_eq_div_pow, hd, Nat.testBit_eq_decide_div_mod_eq,
    decide_eq_true_eq, decide_eq_false_iff_not]
  refine ⟨?_, ?_, ?_, ?_, ?_, ?_⟩ <;> omega

theorem qmulNamed_ofNat : Legal.qmulNamed (BitVec.ofNat 32 (2 ^ 31 + 2 ^ 24 * m + 2 ^ 16 * off + qp)) = true := by
  have hd : (BitVec.ofNat 32 (2 ^ 31 + 2 ^ 24 * m + 2 ^ 16 * off + qp)).toNat = 2 ^ 31 + 2 ^ 24 * m + 2 ^ 16 * off + qp :=
    Nat.mod_eq_of_lt (by omega)
  refine decide_eq_true ⟨?_, ?_, ?_⟩
  all_goals
    refine BitVec.eq_of_toNat_eq ?_
    rw [BitVec.extractLsb'_toNat, Nat.shiftRight_eq_div_pow, hd]
    simp only [BitVec.toNat_ofNat, BitVec.ofNat_eq_ofNat]
    omega

end

theorem maxQp_lt (h : s.bitDepthLegal = true) : s.maxQp < 128 := by
  have hd := of_decide_eq_true h
  simp only [Config.minBitDepth, Config.maxBitDepth] at hd
  simp only [State.maxQp, Config.minBitDepth]
  omega

/-! ### One level stored -/

/-- A dequantized level of a 4×4 luma block goes to the raster index of its scan position (R223). -/
theorem storeLevel_dequant4 {pos : Nat} {v : Int} {idx : BitVec 6} {factor : Word} (hblk : r.blk ≤ 15)
    (hvalid : r.qmul.valid = true) (his8 : r.qmul.is8 = false) (hdest8 : r.qmul.dest8 = false)
    (hscan : Cells.look s.tabs.scan (r.scan * 64 + (r.qmul.scanOffset + pos)) = some idx) (hidx : idx.toNat ≤ 15)
    (hfactor : Cells.look s.tabs.dequant4 ((r.qmul.m * 128 + r.qmul.qp) * 16 + idx.toNat) = some factor) :
    storeLevel r pos v s = .ok () { s with coefs := { s.coefs with
      coef := Cells.putZero s.coefs.coef (16 * r.blk + idx.toNat) (s.wrapCoef (dequantize v factor.toNat)) } } := by
  have hread : scanAt r.scan (r.qmul.scanOffset + pos) s = .ok idx.toNat s := Op.need_some (by rw [hscan, Option.map_some])
  have hsize : idx.toNat < r.destSize := by
    rw [ResidualArgs.destSize, hdest8, if_neg Bool.false_ne_true, if_pos (by omega)]
    omega
  have hf : r.factorAt idx.toNat s = .ok factor.toNat s := by
    rw [ResidualArgs.factorAt, his8, if_neg Bool.false_ne_true, Op.bind_ok (Op.require_true _ (decide_eq_true hidx))]
    exact Op.need_some (by rw [hfactor, Option.map_some])
  rw [storeLevel, Op.bind_ok hread, Op.bind_ok (Op.require_true _ (decide_eq_true hsize)), hvalid, if_pos rfl,
    Op.bind_ok hf, ResidualArgs.setDest, if_neg (by omega), if_neg (by omega), hdest8, if_neg Bool.false_ne_true]
  rfl

/-- Rounding a level of magnitude 1 times its factor: nothing overflows 32 bits. -/
theorem dequantize_sign {f : Nat} (hf : f < 2 ^ 30) (neg : Bool) :
    dequantize (if neg then -1 else 1) f = ((if neg then -(f : Int) else f) + 32) / 64 := by
  have hfits (x : Int) (hlo : -2 ^ 31 ≤ x) (hhi : x < 2 ^ 31) : (BitVec.ofInt 32 x).toInt = x := by
    rw [BitVec.toInt_ofInt]
    exact Int.bmod_eq_of_le hlo hhi
  rw [dequantize, shiftRight_six]
  cases neg
  · rw [if_neg Bool.false_ne_true, if_neg Bool.false_ne_true, Int.one_mul, hfits _ (by omega) (by omega)]
  · rw [if_pos rfl, if_pos rfl, Int.neg_one_mul, hfits _ (by omega) (by omega)]

theorem zeros_one_sym_le : ∀ c ∈ Vlc.zeros 1, c.sym ≤ 15 := by decide

theorem toInt_ofNat_six {z : Nat} (h : z ≤ 15) : (BitVec.ofNat 6 z).toInt = z := by
  have hall : ∀ z < 16, (BitVec.ofNat 6 z).toInt = z := by decide
  exact hall z (Nat.lt_succ_of_le h)

/-- The state after the sign and the total of zeros of a block with one coefficient. -/
def oneSpelled (c : Vlc.Code) (s : State) : State :=
  afterZeros c.sym { afterSigns 1 1 s with bitpos := s.bitpos + 1 + c.len }

/-- A block whose token counts one coefficient, of magnitude 1: sign, total of zeros, one level stored (R200, R222). -/
theorem residualLevels_one {c : Vlc.Code} {idx : BitVec 6} {factor : Word} (hv : s.vlcReady = true)
    (htotal : s.totalCoeff = some 1) (hmc : s.maxCoeff = some 16) (hones : s.trailingOnes = some 1) (hmax : r.maxCoeff = 16)
    (hblk : r.blk ≤ 15) (hvalid : r.qmul.valid = true) (his8 : r.qmul.is8 = false) (hdest8 : r.qmul.dest8 = false)
    (hc : c ∈ Vlc.zeros 1) (hnext : codeNext { s with bitpos := s.bitpos + 1 } c = true)
    (hb : s.bitpos + 1 + c.len ≤ s.bsLen)
    (hscan : Cells.look s.tabs.scan (r.scan * 64 + (r.qmul.scanOffset + c.sym)) = some idx) (hidx : idx.toNat ≤ 15)
    (hfactor : Cells.look s.tabs.dequant4 ((r.qmul.m * 128 + r.qmul.qp) * 16 + idx.toNat) = some factor) :
    residualLevels r 1 s = .ok () { oneSpelled c s with
      coefs := { s.coefs with
        coef := Cells.putZero s.coefs.coef (16 * r.blk + idx.toNat)
          (s.wrapCoef (dequantize (if s.bsBit s.bitpos then -1 else 1) factor.toNat)) } } := by
  have hsym : c.sym ≤ 15 := zeros_one_sym_le c hc
  have hsigns : readTrailingSigns s = .ok () (afterSigns 1 1 s) :=
    readTrailingSigns_ok htotal hmc hones (by decide) (by decide) (by show s.bitpos + 1 ≤ s.bsLen; omega)
  have hcount (u : State) (hu : u.totalCoeff = s.totalCoeff) : totalCoeff u = .ok 1 u :=
    totalCoeff_run (total := 1) (hu.trans htotal)
  have hlevels : readLevels 16 (afterSigns 1 1 s) = .ok () (afterSigns 1 1 s) := by
    rw [readLevels, Op.bind_ok (levelIdx_run (idx := 1) rfl), Op.bind_ok (hcount (afterSigns 1 1 s) rfl)]
    rfl
  have hcode : (afterSigns 1 1 s).nextCode (Vlc.zeros 1) = some c := nextCode_eq_some (zeros_prefixFree 1) hc hnext
  have hzeros : readTotalZeros (afterSigns 1 1 s) = .ok () (oneSpelled c s) := by
    refine (readTotalZeros_run (s := afterSigns 1 1 s) htotal hmc (by decide) (by decide) (by decide)).trans ?_
    exact Op.bind_ok (vlcDecode_ok hv hcode hb)
  have hlevel : levelAt 0 (oneSpelled c s) = .ok (if s.bsBit s.bitpos then -1 else 1) (oneSpelled c s) := by
    refine Op.need_some ?_
    rw [show (oneSpelled c s).level = signLevels s.bsBit 1 0 s.bitpos s.level from rfl, look_signLevels,
      if_pos (by omega), Option.map_some, Nat.sub_self, Nat.add_zero]
    cases s.bsBit s.bitpos <;> rfl
  have hleft : zerosLeft (oneSpelled c s) = .ok c.sym (oneSpelled c s) :=
    (zerosLeft_run rfl).trans (by rw [toInt_ofNat_six hsym])
  have hpos : (c.sym : Int) + ((1 : Nat) : Int) - 1 = c.sym := by omega
  have hroom : decide ((c.sym : Int) < r.maxCoeff) = true := decide_eq_true (by omega)
  rw [residualLevels, Op.bind_ok (Op.require_true _ (decide_eq_true (by omega))), Op.bind_ok hsigns, Op.bind_ok hlevels,
    Op.bind_ok hzeros, scatter, Op.bind_ok (hcount (oneSpelled c s) rfl), Op.bind_ok hleft, hpos, Op.bind_ok (Op.require_true _ hroom),
    Op.bind_ok hlevel, Int.toNat_natCast,
    Op.bind_ok (storeLevel_dequant4 (s := oneSpelled c s) hblk hvalid his8 hdest8 hscan hidx hfactor)]
  rfl

/-- Settles O31. -/
theorem residualDequantizes : Obligations.ResidualDequantizes := by
  intro s blk scan m qp off k d token c table idx factor hr hv hd hblk hscan hm hqp hoff hdef ht htok hsym hnext hc hb hcode hk
    hidx hidx15 hfactor hf
  have hqp128 : qp < 128 := Nat.lt_of_le_of_lt hqp (maxQp_lt hd)
  have hqmul : Legal.qmul d = ⟨true, false, false, m, off, qp⟩ := hdef ▸ qmul_ofNat hm hoff hqp128
  have hnamed : Legal.qmulNamed d = true := hdef ▸ qmulNamed_ofNat hm hoff hqp128
  have hq : (d.extractLsb' 0 7).toNat ≤ s.maxQp := by
    rw [show (d.extractLsb' 0 7).toNat = qp from congrArg Legal.Qmul.qp hqmul]
    exact hqp
  have hw : Instr.wellFormed (.decodeResidual blk scan 16 d) = true := by
    simp [Instr.wellFormed, Legal.residual, Legal.residualShape, hqmul, hnamed, hblk, hscan, hm, hoff]
  obtain ⟨p, hrun, -⟩ := decodeResidual_of_token (r := residualArgs blk scan 16 d) hv ht htok hnext (by omega)
  refine ⟨p, ?_⟩
  rw [exec_decodeResidual hr hv hd hw hq]
  refine command_ok (t := { blockDone s blk.toNat 1 with
    status := s.status, bitpos := s.bitpos + token.len + 1 + c.len, pnnz := p
    coefs := { s.coefs with
      coef := Cells.putZero s.coefs.coef (16 * blk.toNat + idx.toNat)
        (s.wrapCoef (((if s.bsBit (s.bitpos + token.len) then -(factor.toNat : Int) else factor.toNat) + 32) / 64)) } }) rfl ?_
  have hlevels := residualLevels_one (r := residualArgs blk scan 16 d) (c := c) (idx := idx) (factor := factor)
    (s := { blockStart s (residualArgs blk scan 16 d) token p with cache := { s.cache with
      nnz := Cells.put s.cache.nnz (scan8 blk.toNat) (BitVec.ofNat 8 1) } })
    hv (by simp [blockStart, afterToken, hsym]) rfl (by simp [blockStart, afterToken, hsym]) rfl hblk (congrArg Legal.Qmul.valid hqmul)
    (congrArg Legal.Qmul.is8 hqmul) (congrArg Legal.Qmul.dest8 hqmul) hc hcode hb
    (by
      rw [show (residualArgs blk scan 16 d).qmul.scanOffset = off from congrArg Legal.Qmul.scanOffset hqmul, ← Nat.add_assoc,
        show (residualArgs blk scan 16 d).scan * 64 + off + c.sym = k from hk.symm]
      exact hidx)
    hidx15
    (by
      rw [show (residualArgs blk scan 16 d).qmul.m = m from congrArg Legal.Qmul.m hqmul,
        show (residualArgs blk scan 16 d).qmul.qp = qp from congrArg Legal.Qmul.qp hqmul]
      exact hfactor)
  rw [dequantize_sign hf] at hlevels
  rw [hrun, hsym]
  refine (Op.bind_ok (Op.modify_run _ _)).trans ((Op.bind_ok (Op.nested_ok hlevels)).trans ?_)
  rfl

end Sys2Proof.Machine
end

section
/-! Proofs. Slice framing (43_mb_type_motion.md R300, R360). -/

namespace Sys2Proof.Machine

open Sys2Proof.Stated

variable {s t : State}

theorem configOk_eq (s : State) : configOk s = s.configSupported := by
  have hdepth : s.bitDepthLegal = decide (8 ≤ s.bitDepth ∧ s.bitDepth ≤ 14) := rfl
  rw [State.configSupported, hdepth, ← Bool.decide_and]
  rfl

theorem firstOk_eq (s : State) (d : Word) : firstOk s d = s.addressLegal d := rfl

/-- The slice type is one of three and the counts it uses are legal. -/
theorem State.sliceLegal_iff (s : State) : s.sliceLegal = true ↔
    (s.sliceTypeField ≠ 3 ∧ (s.sliceTypeField = 0 → refCountLegal (s.refCount 0) = true)
      ∧ (s.sliceTypeField = 1 → refCountLegal (s.refCount 0) = true ∧ refCountLegal (s.refCount 1) = true))
      ∧ s.qscale ≤ s.maxQp ∧ s.useWeight ≠ 3 := by
  have hlt : s.sliceTypeField < 4 := BitVec.isLt _
  obtain h | h | h | h : s.sliceTypeField = 0 ∨ s.sliceTypeField = 1 ∨ s.sliceTypeField = 2 ∨ s.sliceTypeField = 3 := by omega
  all_goals simp [State.sliceLegal, h, and_assoc]

theorem sliceOk_eq (s : State) : sliceOk s = s.sliceLegal := by
  rw [Bool.eq_iff_iff, State.sliceLegal_iff, sliceOk, decide_eq_true_iff]
  simp only [refCountLegal, decide_eq_true_iff]
  constructor
  · rintro ⟨hkind, hq, hp, hb, hw⟩
    exact ⟨⟨hkind, hp, fun h => ⟨⟨(hb h).1, (hb h).2.1⟩, (hb h).2.2⟩⟩, hq, hw⟩
  · rintro ⟨⟨hkind, hp, hb⟩, hq, hw⟩
    exact ⟨hkind, hq, hp, fun h => ⟨(hb h).1.1, (hb h).1.2, (hb h).2⟩, hw⟩

/-- The refusals of `SLICE_START` come in this order. -/
theorem sliceStart_run (d : Word) : sliceStart d s =
    if !s.addressLegal d then .error (.rejected .illegalCommand) s
    else if !s.configSupported then .error (.rejected .unsupported) s
    else if !s.sliceLegal then .error (.rejected .illegalCommand) s
    else .ok () (s.startSlice d) := by
  rw [sliceStart]
  cases ha : s.addressLegal d
  · exact Op.bind_error (Op.require_false _ ha)
  rw [Op.bind_ok (Op.require_true _ ha)]
  cases hc : s.configSupported
  · exact Op.bind_error (Op.require_false _ hc)
  rw [Op.bind_ok (Op.require_true _ hc)]
  cases hs : s.sliceLegal
  · exact Op.bind_error (Op.require_false _ hs)
  rw [Op.bind_ok (Op.require_true _ hs)]
  rfl

theorem exec_sliceStart (d : Word) (he : s.engine ≠ .run) (hv : s.vlcReady = true) :
    exec (.sliceStart d) s = .next (
      if !s.addressLegal d then s.reject .illegalCommand
      else if !s.configSupported then s.reject .unsupported
      else if !s.sliceLegal then s.reject .illegalCommand
      else { s.startSlice d with status := .ended .ok }) := by
  have hacc : (s.isNotRun && s.vlcReady) = true := by simp [State.isNotRun, he, hv]
  refine (command_run hacc).trans ?_
  rw [sliceStart_run]
  cases s.addressLegal d
  · rfl
  cases s.configSupported
  · rfl
  cases s.sliceLegal <;> rfl

/-- Settles O36: the refusals are the model's, each by its own equation, and what is left starts the slice. -/
theorem sliceFraming : Obligations.SliceFraming := by
  refine fun s d => ⟨fun he hv => ?_, fun he => ?_⟩
  · rw [firstOk_eq, configOk_eq, sliceOk_eq]
    exact exec_sliceStart d he hv
  · have hacc : (s.isNotIdle && true) = true := by simp [State.isNotIdle, he]
    exact command_ok (t := s.endSlice) hacc rfl

end Sys2Proof.Machine
end

section
/-! Proofs. The operand registers and the wait for a row (44_motion_comp.md R371, R372). -/

namespace Sys2Proof.Machine

open Sys2Proof.Stated

variable {s t : State}

theorem exec_mcSet (a : BitVec 8) (d : Word) (he : s.isRun = true) : exec (.mcSet a d) s =
    if Legal.mcValue a d && s.mcDstLegal a.toNat d then .next { s with mc := s.mc.set a.toNat d, status := .ended .ok }
    else .next (refusedBy s) := by
  show command _ _ _ s = _
  rw [he]
  split
  · next h => exact command_ok (t := { s with mc := s.mc.set a.toNat d }) h rfl
  · next h => exact command_reject (Bool.eq_false_iff.mpr h)

/-- A legal value in the register of its number. -/
theorem mcSet_number {c : Prop} [Decidable c] {legal : Bool} {t : State} (h : legal = decide c) :
    (if legal then Host.Outcome.next t else .next (refusedBy s) : Host.Outcome State Fault Refusal)
      = .next (if c then t else refusedBy s) := by
  rw [h]
  by_cases hc : c <;> simp [hc]

/-- Settles O45: one case per register number; what is legal is the statement's condition, and what is written its field. -/
theorem mcRegisterWrite : Obligations.McRegisterWrite := by
  intro s a d he
  have hrun : s.isRun = true := by simp [State.isRun, he]
  rw [exec_mcSet a d hrun, Legal.mcValue]
  generalize a.toNat = k
  match k with
  | 0 | 1 => exact mcSet_number (Bool.decide_and ..).symm
  | 2 | 3 => rfl
  | 4 | 5 | 6 | 7 | 8 | 9 | 10 | 11 => exact mcSet_number (Bool.and_true _)
  | _ + 12 => rfl

theorem waitRow_run {l r : Nat} {row : Int} {ref : RefPic} (hl : l < s.listCount) (hr : r < s.refCount l)
    (href : s.refPic l r = some ref) :
    waitRow l r row s = if row ≤ ref.progress.toInt then .ok () s else .error .waiting s := by
  rw [waitRow, Op.bind_ok (Op.require_true _ (decide_eq_true ⟨hl, hr⟩)), Op.bind_ok (Op.read_run _ s), href,
    Op.bind_ok (Op.orStop_some ref _ s)]
  split
  · next h => exact Op.require_true _ (decide_eq_true h)
  · next h => exact Op.require_false _ (decide_eq_false h)

theorem waitRow_rejected {l r : Nat} (row : Int) (h : ¬ (l < s.listCount ∧ r < s.refCount l)) :
    waitRow l r row s = .error (.rejected .illegalCommand) s :=
  Op.bind_error (Op.require_false _ (decide_eq_false h))

theorem State.listCount_le (s : State) : s.listCount ≤ 2 := by
  rw [State.listCount]
  split <;> omega

/-- Settles O50: a row that is not published stops the command where nothing is written. -/
theorem waitForRow : Obligations.WaitForRow := by
  refine fun s l r row ref => ⟨fun he hl hr hr31 href => ?_, fun h => ?_⟩
  · have hlist : l.toNat ≤ 1 := by have := s.listCount_le; omega
    have hacc : (s.isRun && (Legal.list l && Legal.ref r)) = true := by
      simp [State.isRun, he, Legal.list, Legal.ref, hlist, hr31]
    refine (command_run hacc).trans ?_
    rw [waitRow_run hl hr href]
    split <;> rfl
  · cases hacc : s.isRun && (Legal.list l && Legal.ref r)
    · exact command_reject hacc
    · have hrun : s.engine = .run := of_decide_eq_true (Bool.and_eq_true_iff.mp hacc).1
      refine command_rejected hacc (waitRow_rejected _ fun ⟨hl, hr⟩ => ?_)
      rcases h with h | h | h
      · exact h hrun
      · omega
      · omega

end Sys2Proof.Machine
end

section
/-! Proofs. The vector predictors (42_neighbor_cache.md R265 to R272): what a slot that holds a value answers, and the cases of the
prediction. -/

namespace Sys2Proof.Machine

open Sys2Proof.Stated

variable {s t : State}

/-! ### The slots -/

theorem slotMotion_eq_some {l slot : Nat} {c : BitVec 8 × Mv} : slotMotion s l slot = some c ↔
    Cells.look s.cache.ref (75 * l + slot) = some c.1 ∧ Cells.look s.cache.mv (75 * l + slot) = some c.2 := by
  rw [slotMotion]
  cases Cells.look s.cache.ref (75 * l + slot) <;> cases Cells.look s.cache.mv (75 * l + slot) <;> simp [Prod.ext_iff]

section
variable {l slot : Nat} {c : BitVec 8 × Mv}

theorem refAt_ok (h : slotMotion s l slot = some c) : refAt l slot s = .ok c.1 s :=
  Op.need_some (slotMotion_eq_some.mp h).1

theorem mvAt_ok (h : slotMotion s l slot = some c) : mvAt l slot s = .ok c.2 s :=
  Op.need_some (slotMotion_eq_some.mp h).2

/-- The diagonal neighbour: top-right where it is available, else top-left. -/
theorem diagonal_ok {w : Nat} (hslot : 8 ≤ slot) (h : diagonalMotion s l slot w = some c) :
    diagonal l slot w s = .ok (c.2, c.1) s := by
  have hidx : 75 * l + slot - 8 + w = 75 * l + (slot - 8 + w) := by omega
  rw [diagonalMotion, hidx] at h
  cases hr : Cells.look s.cache.ref (75 * l + (slot - 8 + w)) with
  | none => simp [hr] at h
  | some r =>
    have href : refAt l (slot - 8 + w) s = .ok r s := Op.need_some hr
    rw [diagonal, Op.bind_ok href]
    simp only [hr] at h
    by_cases hna : r = partNotAvailable
    · rw [if_pos (show r = -2 from hna)] at h
      rw [if_pos hna, Op.bind_ok (mvAt_ok h), Op.bind_ok (refAt_ok h), Op.pure_run]
    · rw [if_neg (show ¬ r = -2 from hna)] at h
      have hrc : r = c.1 := Option.some.inj (hr.symm.trans (slotMotion_eq_some.mp h).1)
      rw [if_neg hna, Op.bind_ok (mvAt_ok h), Op.pure_run, hrc]

end

/-! ### The prediction -/

theorem mvPrediction_eq (ref : BitVec 8) (a b c : BitVec 8 × Mv) :
    mvPrediction ref a.2 a.1 b.2 b.1 c.2 c.1 = predicted ref a b c := by
  have hm : Mv.median a.2 b.2 c.2 = ⟨BitVec.ofInt 16 (middle a.2.x.toInt b.2.x.toInt c.2.x.toInt),
    BitVec.ofInt 16 (middle a.2.y.toInt b.2.y.toInt c.2.y.toInt)⟩ := rfl
  have hna : partNotAvailable = -2 := rfl
  rw [mvPrediction, predicted, hm, hna]
  by_cases ha : a.1 = ref <;> by_cases hb : b.1 = ref <;> by_cases hc : c.1 = ref <;> simp [ha, hb, hc]

section
variable {n w l : Nat} {ref : BitVec 8} {a b c : BitVec 8 × Mv}

/-- `PMX` and `PMY` take a vector. -/
def State.withPm (s : State) (v : Mv) : State := { s with pmx := some v.x, pmy := some v.y }

theorem predMv_ok (hn : n ≤ 15) (ha : slotMotion s l (scan8 n - 1) = some a) (hb : slotMotion s l (scan8 n - 8) = some b)
    (hc : diagonalMotion s l (scan8 n) w = some c) : predMv n w l ref s = .ok () (s.withPm (predicted ref a b c)) := by
  have hslot : ∀ n ≤ 15, 8 ≤ scan8 n := by decide
  rw [predMv, Op.bind_ok (mvAt_ok ha), Op.bind_ok (refAt_ok ha), Op.bind_ok (mvAt_ok hb), Op.bind_ok (refAt_ok hb),
    Op.bind_ok (diagonal_ok (hslot n hn) hc), mvPrediction_eq]
  rfl

/-- A slot whose reference is the partition's own gives its vector, else the other prediction is made. -/
theorem directional_run {slot : Nat} {near : BitVec 8 × Mv} {otherwise : Op Unit} (h : slotMotion s l slot = some near) :
    directional l slot ref otherwise s = if near.1 = ref then .ok () (s.withPm near.2) else otherwise s := by
  rw [directional, Op.bind_ok (refAt_ok h)]
  split
  · rw [Op.bind_ok (mvAt_ok h)]
    rfl
  · rfl

theorem predMv8x16_four {near : BitVec 8 × Mv} (h : diagonalMotion s l 14 2 = some near) :
    predMv8x16 4 l ref s = if near.1 = ref then .ok () (s.withPm near.2) else predMv 4 2 l ref s := by
  have hd : diagonal l (scan8 4) 2 s = .ok (near.2, near.1) s := diagonal_ok (by decide) h
  rw [predMv8x16, if_neg (by decide), Op.bind_ok hd]
  split <;> rfl

theorem predMvPskip_run (ha : slotMotion s 0 11 = some a) (hb : slotMotion s 0 4 = some b) :
    predMvPskip s = if a.1 = -2 ∨ b.1 = -2 ∨ a = (0, ⟨0, 0⟩) ∨ b = (0, ⟨0, 0⟩) then .ok () (s.withPm ⟨0, 0⟩)
      else predMv 0 4 0 0 s := by
  have hrefA : refAt 0 (scan8 0 - 1) s = .ok a.1 s := refAt_ok ha
  have hmvA : mvAt 0 (scan8 0 - 1) s = .ok a.2 s := mvAt_ok ha
  have hrefB : refAt 0 (scan8 0 - 8) s = .ok b.1 s := refAt_ok hb
  have hmvB : mvAt 0 (scan8 0 - 8) s = .ok b.2 s := mvAt_ok hb
  rw [predMvPskip, Op.bind_ok hrefA, Op.bind_ok hmvA, Op.bind_ok hrefB, Op.bind_ok hmvB]
  simp only [Prod.ext_iff]
  exact apply_ite (fun m : Op Unit => m s) _ _ _

end

/-! ### The commands -/

theorem isRun_of_run (h : s.engine = .run) : s.isRun = true := decide_eq_true h

/-- Where a command of a running slice takes a vector or else does as another body does, so do the commands. -/
theorem command_ite_withPm {c : Prop} [Decidable c] {legal legal' : Bool} {m n : Op Unit} {v : Mv}
    (h : (s.isRun && legal) = true) (h' : (s.isRun && legal') = true)
    (hm : m s = if c then .ok () (s.withPm v) else n s) :
    command s.isRun legal m s
      = if c then .next { s.withPm v with status := .ended .ok } else command s.isRun legal' n s := by
  rw [command_run h, command_run h', hm]
  split <;> rfl

section
variable {l : BitVec 8} (hl : l.toNat < s.listCount)
include hl

theorem list_legal : Legal.list l = true := by
  have := s.listCount_le
  exact decide_eq_true (by omega)

variable (he : s.engine = .run)
include he

theorem predMv_accepts {n w : BitVec 8} {ref : Word} (hn : n.toNat ≤ 15) (hw : w.toNat = 1 ∨ w.toNat = 2 ∨ w.toNat = 4)
    (hr : ref.toNat ≤ 31) :
    (s.isRun && (Legal.lumaBlock n && Legal.partWidth w && Legal.list l && Legal.refWord ref
      && decide (l.toNat < s.listCount))) = true := by
  simp [he, State.isRun, Legal.lumaBlock, Legal.partWidth, Legal.refWord, list_legal hl, hn, hw, hr, hl]

end

/-- Settles O39. -/
theorem vectorPredictor : Obligations.VectorPredictor :=
  fun _ _ _ _ _ _ _ _ he hn hw hl hr ha hb hc => command_ok (predMv_accepts hl he hn hw hr) (predMv_ok hn ha hb hc)

/-- Settles O40: each predictor takes a vector in its case and else runs the body of `PRED_MV`. -/
theorem directionalVectorPredictors : Obligations.DirectionalVectorPredictors := by
  refine fun s n l ref he hl hr => ⟨fun near h => ?_, fun near h => ?_, fun a b ha hb => ?_⟩
  · have hn : n.toNat = 0 ∨ n.toNat = 8 := h.imp And.left And.left
    have hacc : (s.isRun && (decide (n.toNat = 0 ∨ n.toNat = 8) && Legal.list l && Legal.refWord ref
        && decide (l.toNat < s.listCount))) = true := by
      simp [State.isRun, Legal.refWord, list_legal hl, he, hn, hr, hl]
    refine command_ite_withPm hacc (predMv_accepts (w := 4) hl he (by omega) (by decide) hr) ?_
    rcases h with ⟨h0, h⟩ | ⟨h8, h⟩
    · rw [predMv16x8, h0]
      exact directional_run h
    · rw [predMv16x8, h8]
      exact directional_run h
  · have hn : n.toNat = 0 ∨ n.toNat = 4 := h.imp And.left And.left
    have hacc : (s.isRun && (decide (n.toNat = 0 ∨ n.toNat = 4) && Legal.list l && Legal.refWord ref
        && decide (l.toNat < s.listCount))) = true := by
      simp [State.isRun, Legal.refWord, list_legal hl, he, hn, hr, hl]
    refine command_ite_withPm hacc (predMv_accepts (w := 2) hl he (by omega) (by decide) hr) ?_
    rcases h with ⟨h0, h⟩ | ⟨h4, h⟩
    · rw [h0]
      exact directional_run h
    · rw [h4]
      exact predMv8x16_four h
  · have hzero : (0 : BitVec 8).toNat < s.listCount := Nat.lt_of_le_of_lt (Nat.zero_le _) hl
    exact command_ite_withPm (accepts_run he rfl) (predMv_accepts (n := 0) (w := 4) (ref := 0) hzero he (by decide) (by decide) (by decide))
      (predMvPskip_run ha hb)

end Sys2Proof.Machine
end

section
/-! Proofs. Writing elements one after another: a loop whose every step puts one element of one memory leaves the list of what it
put. -/

namespace Sys2Proof.Machine

variable {α β γ : Type} {s t : State}

theorem Cells.putList_append (c : Cells α) (xs ys : List (Nat × α)) :
    Cells.putList c (xs ++ ys) = Cells.putList (Cells.putList c xs) ys := by
  induction xs generalizing c with
  | nil => rfl
  | cons x xs ih => exact ih _

/-- An index that is written, always with the same value, reads that value. -/
theorem Cells.look_putList_eq {b : Nat} {v : α} (cells : List (Nat × α)) (c : Cells α) (hb : ∃ e ∈ cells, e.1 = b)
    (hv : ∀ e ∈ cells, e.1 = b → e.2 = v) : Cells.look (Cells.putList c cells) b = some v := by
  induction cells generalizing c with
  | nil =>
    obtain ⟨e, he, -⟩ := hb
    cases he
  | cons x xs ih =>
    by_cases hxs : ∃ e ∈ xs, e.1 = b
    · exact ih _ hxs fun e he => hv e (List.mem_cons_of_mem _ he)
    · obtain ⟨e, he, heb⟩ := hb
      have hx : x.1 = b := by
        rcases List.mem_cons.mp he with h | h
        · rw [← h, heb]
        · exact absurd ⟨e, h, heb⟩ hxs
      have hput : Cells.putList c (x :: xs) = Cells.putList (Cells.put c b x.2) xs := by rw [← hx]; rfl
      have hrest : ∀ e ∈ xs, e.1 ≠ b := fun e he heb => hxs ⟨e, he, heb⟩
      rw [hput, Cells.look_putList_ne xs _ hrest, Cells.look_put_same, hv x (by simp) hx]

/-- Every element of a run from `base` on is written. -/
theorem Cells.look_putList_run (c : Cells α) (base n : Nat) (v : Nat → α) {k : Nat} (hk : k < n) :
    Cells.look (Cells.putList c ((List.range n).map fun j => (base + j, v j))) (base + k) = some (v k) := by
  refine Cells.look_putList_eq _ c ⟨(base + k, v k), List.mem_map_of_mem (List.mem_range.mpr hk), rfl⟩ ?_
  simp only [List.mem_map]
  rintro e ⟨j, -, rfl⟩ h
  rw [Nat.add_left_cancel h]

/-- Every element outside the run stays. -/
theorem Cells.look_putList_run_ne (c : Cells α) (base n : Nat) (v : Nat → α) {k : Nat} (hk : ∀ j, j < n → k ≠ base + j) :
    Cells.look (Cells.putList c ((List.range n).map fun j => (base + j, v j))) k = Cells.look c k := by
  refine Cells.look_putList_ne _ c ?_
  simp only [List.mem_map]
  rintro e ⟨j, hj, rfl⟩ h
  exact hk j (List.mem_range.mp hj) h.symm

/-- A loop each step of which puts some elements: `wr c` is the state with the memory `c` in it. -/
theorem Op.each_putLists {wr : Cells β → State} {body : α → Op Unit} {cells : α → List (Nat × β)} {as : List α}
    (h : ∀ a ∈ as, ∀ c, body a (wr c) = .ok () (wr (Cells.putList c (cells a)))) (c : Cells β) :
    Op.each as body (wr c) = .ok () (wr (Cells.putList c (as.flatMap cells))) := by
  induction as generalizing c with
  | nil => rfl
  | cons a as ih =>
    rw [Op.each_cons, Op.bind_ok (h a (by simp) c), ih fun b hb => h b (List.mem_cons_of_mem _ hb), List.flatMap_cons,
      Cells.putList_append]

/-- A loop each step of which puts one element. -/
theorem Op.each_putList {wr : Cells β → State} {body : α → Op Unit} {cell : α → Nat × β} {as : List α}
    (h : ∀ a ∈ as, ∀ c, body a (wr c) = .ok () (wr (Cells.put c (cell a).1 (cell a).2))) (c : Cells β) :
    Op.each as body (wr c) = .ok () (wr (Cells.putList c (as.map cell))) := by
  rw [List.map_eq_flatMap]
  exact Op.each_putLists h c

/-- The same for two memories written side by side. -/
theorem Op.each_putLists₂ {wr : Cells β → Cells γ → State} {body : α → Op Unit} {cells : α → List (Nat × β)}
    {cells' : α → List (Nat × γ)} {as : List α}
    (h : ∀ a ∈ as, ∀ c d, body a (wr c d) = .ok () (wr (Cells.putList c (cells a)) (Cells.putList d (cells' a))))
    (c : Cells β) (d : Cells γ) :
    Op.each as body (wr c d) = .ok () (wr (Cells.putList c (as.flatMap cells)) (Cells.putList d (as.flatMap cells'))) := by
  induction as generalizing c d with
  | nil => rfl
  | cons a as ih =>
    rw [Op.each_cons, Op.bind_ok (h a (by simp) c d), ih fun b hb => h b (List.mem_cons_of_mem _ hb), List.flatMap_cons,
      List.flatMap_cons, Cells.putList_append, Cells.putList_append]

end Sys2Proof.Machine
end

section
/-! Proofs. `CACHE_WRITEBACK` (42_neighbor_cache.md R278): the elements it puts, and what the arrays then hold. -/

namespace Sys2Proof.Machine

open Sys2Proof.Stated

variable {s t : State}

/-! ### What is written -/

/-- The references written for a list: of an intra macroblock "not used", else the cache's. -/
def State.ownRefs (s : State) (intra : Bool) (mb l : Nat) : List (Nat × BitVec 8) :=
  (List.range 4).map fun q => (4 * (2 * mb + l) + q,
    if intra then listNotUsed else (Cells.look s.cache.ref (75 * l + scan8 (4 * q))).getD 0)

/-- The vectors written for a list: of an intra macroblock (0, 0), else the cache's. -/
def State.ownMvs (s : State) (intra : Bool) (mb l : Nat) : List (Nat × Mv) :=
  (List.range 16).map fun n => (16 * (2 * mb + l) + n,
    if intra then Mv.zero else (Cells.look s.cache.mv (75 * l + scan8 n)).getD Mv.zero)

/-- The counts written. -/
def State.ownCounts (s : State) (mb : Nat) : List (Nat × BitVec 8) :=
  (List.range 24).map fun n => (24 * mb + n, (Cells.look s.cache.nnz (scan8 n)).getD 0)

/-- The prediction modes written. -/
def State.ownModes (s : State) (mb : Nat) : List (Nat × BitVec 8) :=
  (List.range 16).map fun n => (16 * mb + n, (Cells.look s.cache.i4 (scan8 n)).getD 0)

/-- The coded block pattern written. -/
def State.ownCbp (s : State) (kind : MbKind) : Nat :=
  if kind = .intraPcm then 47 else (s.mb.cbp.map BitVec.toNat).getD 0

/-- The arrays with the macroblock's own four elements written. -/
def State.arraysHead (s : State) (kind : MbKind) (mb : Nat) : PicArrays :=
  let a := s.pic.arrays
  { a with
    slice := Cells.put a.slice mb s.sliceNum
    mbType := Cells.put a.mbType mb { s.mb with i4Mode := [] }
    qscale := Cells.put a.qscale mb (BitVec.ofNat 7 (if kind = .intraPcm then 0 else s.qscale))
    cbp := Cells.put a.cbp mb (BitVec.ofNat 16 (s.ownCbp kind)) }

/-- The arrays with all entries of macroblock `mb` written. -/
def State.arraysWith (s : State) (kind : MbKind) (mb : Nat) : PicArrays :=
  let a := s.pic.arrays
  { s.arraysHead kind mb with
    nnz := Cells.putList a.nnz (s.ownCounts mb)
    mv := Cells.putList a.mv (s.lists.flatMap (s.ownMvs kind.intra mb))
    ref := Cells.putList a.ref (s.lists.flatMap (s.ownRefs kind.intra mb))
    i4 := if kind = .intra4x4 then Cells.putList a.i4 (s.ownModes mb) else a.i4 }

/-- The state with other arrays in the picture. -/
def State.withArrays (s : State) (a : PicArrays) : State := { s with pic := { s.pic with arrays := a } }

theorem State.withArrays_lists (s : State) (a : PicArrays) : (s.withArrays a).lists = s.lists := rfl

/-! ### The slots that write-back reads -/

theorem some_getD_of_isSome {α : Type} {o : Option α} (h : o.isSome = true) (d : α) : o = some (o.getD d) := by
  cases o
  · cases h
  · rfl

section
variable {kind : MbKind} (h : ownSlotsWritten s kind = true)
include h

theorem ownSlots_nnz {n : Nat} (hn : n < 24) : Cells.look s.cache.nnz (scan8 n) = some ((Cells.look s.cache.nnz (scan8 n)).getD 0) := by
  simp only [ownSlotsWritten, Bool.and_eq_true, List.all_eq_true, List.mem_range] at h
  obtain ⟨⟨hnnz, -⟩, -⟩ := h
  exact some_getD_of_isSome (hnnz n hn) 0

theorem ownSlots_i4 (hk : kind = .intra4x4) {n : Nat} (hn : n < 16) :
    Cells.look s.cache.i4 (scan8 n) = some ((Cells.look s.cache.i4 (scan8 n)).getD 0) := by
  simp only [ownSlotsWritten, Bool.and_eq_true, Bool.or_eq_true, List.all_eq_true, List.mem_range, hk] at h
  obtain ⟨⟨-, hi4⟩, -⟩ := h
  exact some_getD_of_isSome (hi4.resolve_left (by simp) n hn) 0

theorem ownSlots_motion (hk : kind.intra = false) {l n : Nat} (hl : l < s.listCount) (hn : n < 16) :
    ∃ c, slotMotion s l (scan8 n) = some c := by
  simp only [ownSlotsWritten, Bool.and_eq_true, Bool.or_eq_true, List.all_eq_true, List.mem_range, hk] at h
  obtain ⟨-, hm⟩ := h
  exact Option.isSome_iff_exists.mp (hm.resolve_left (by simp) l hl n hn)

end

/-! ### The loops -/

section
variable {kind : MbKind} {mb : Nat} {a : PicArrays} (h : ownSlotsWritten s kind = true)
include h

theorem writeCounts_ok : Op.each (List.range 24) (fun n => do
      let v ← nnzAt (scan8 n)
      setArrays fun a => { a with nnz := Cells.put a.nnz (24 * mb + n) v }) (s.withArrays a)
    = .ok () (s.withArrays { a with nnz := Cells.putList a.nnz (s.ownCounts mb) }) := by
  refine Op.each_putList (wr := fun c => s.withArrays { a with nnz := c }) (fun n hn c => ?_) a.nnz
  have hread : nnzAt (scan8 n) (s.withArrays { a with nnz := c }) = .ok _ _ :=
    Op.need_some (ownSlots_nnz h (List.mem_range.mp hn))
  exact (Op.bind_ok hread).trans rfl

theorem writeModes_ok : Op.when (decide (kind = .intra4x4)) (Op.each (List.range 16) fun n => do
      let v ← i4At (scan8 n)
      setArrays fun a => { a with i4 := Cells.put a.i4 (16 * mb + n) v }) (s.withArrays a)
    = .ok () (s.withArrays { a with i4 := if kind = .intra4x4 then Cells.putList a.i4 (s.ownModes mb) else a.i4 }) := by
  by_cases hk : kind = .intra4x4
  · rw [decide_eq_true hk, if_pos hk]
    refine Op.each_putList (wr := fun c => s.withArrays { a with i4 := c }) (fun n hn c => ?_) a.i4
    have hread : i4At (scan8 n) (s.withArrays { a with i4 := c }) = .ok _ _ :=
      Op.need_some (ownSlots_i4 h hk (List.mem_range.mp hn))
    exact (Op.bind_ok hread).trans rfl
  · rw [decide_eq_false hk, if_neg hk]
    rfl

theorem ownRef_ok {l q : Nat} (hl : l < s.listCount) (hq : q < 4) : ownRef kind.intra l q (s.withArrays a)
    = .ok (if kind.intra then listNotUsed else (Cells.look s.cache.ref (75 * l + scan8 (4 * q))).getD 0) (s.withArrays a) := by
  cases hk : kind.intra
  · obtain ⟨c, hc⟩ := ownSlots_motion h hk hl (n := 4 * q) (by omega)
    have hlook := (slotMotion_eq_some.mp hc).1
    have hread : refAt l (scan8 (4 * q)) (s.withArrays a) = .ok c.1 (s.withArrays a) := Op.need_some hlook
    rw [hlook]
    exact hread
  · rfl

theorem ownMv_ok {l n : Nat} (hl : l < s.listCount) (hn : n < 16) : ownMv kind.intra l n (s.withArrays a)
    = .ok (if kind.intra then Mv.zero else (Cells.look s.cache.mv (75 * l + scan8 n)).getD Mv.zero) (s.withArrays a) := by
  cases hk : kind.intra
  · obtain ⟨c, hc⟩ := ownSlots_motion h hk hl hn
    have hlook := (slotMotion_eq_some.mp hc).2
    have hread : mvAt l (scan8 n) (s.withArrays a) = .ok c.2 (s.withArrays a) := Op.need_some hlook
    rw [hlook]
    exact hread
  · rfl

theorem writebackMotion_ok {l : Nat} (hl : l < s.listCount) : writebackMotion mb kind.intra l (s.withArrays a)
    = .ok () (s.withArrays { a with
        ref := Cells.putList a.ref (s.ownRefs kind.intra mb l), mv := Cells.putList a.mv (s.ownMvs kind.intra mb l) }) := by
  have hrefs : Op.each (List.range 4) (fun q => do
      let r ← ownRef kind.intra l q
      setArrays fun a => { a with ref := Cells.put a.ref (4 * (2 * mb + l) + q) r }) (s.withArrays a)
      = .ok () (s.withArrays { a with ref := Cells.putList a.ref (s.ownRefs kind.intra mb l) }) :=
    Op.each_putList (wr := fun c => s.withArrays { a with ref := c })
      (fun _ hq _ => (Op.bind_ok (ownRef_ok h hl (List.mem_range.mp hq))).trans rfl) a.ref
  have hmvs (a : PicArrays) : Op.each (List.range 16) (fun n => do
      let mv ← ownMv kind.intra l n
      setArrays fun a => { a with mv := Cells.put a.mv (16 * (2 * mb + l) + n) mv }) (s.withArrays a)
      = .ok () (s.withArrays { a with mv := Cells.putList a.mv (s.ownMvs kind.intra mb l) }) :=
    Op.each_putList (wr := fun c => s.withArrays { a with mv := c })
      (fun _ hn _ => (Op.bind_ok (ownMv_ok h hl (List.mem_range.mp hn))).trans rfl) a.mv
  exact (Op.bind_ok hrefs).trans (hmvs _)

theorem writeMotion_ok : Op.each s.lists (fun l => writebackMotion mb kind.intra l) (s.withArrays a)
    = .ok () (s.withArrays { a with
        ref := Cells.putList a.ref (s.lists.flatMap (s.ownRefs kind.intra mb))
        mv := Cells.putList a.mv (s.lists.flatMap (s.ownMvs kind.intra mb)) }) :=
  Op.each_putLists₂ (wr := fun c d => s.withArrays { a with ref := c, mv := d })
    (fun _ hl _ _ => writebackMotion_ok h (List.mem_range.mp hl)) a.ref a.mv

end

theorem ownCbp_ok {kind : MbKind} (h : s.mb.cbp.isSome = true ∨ kind = .intraPcm) : ownCbp kind s = .ok (s.ownCbp kind) s := by
  rw [ownCbp, State.ownCbp]
  by_cases hk : kind = .intraPcm
  · rw [if_pos hk, if_pos hk, Op.pure_run]
  · obtain ⟨c, hc⟩ := Option.isSome_iff_exists.mp (h.resolve_right hk)
    rw [if_neg hk, if_neg hk, hc]
    exact Op.need_some (by rw [hc]; rfl)

theorem cacheWriteback_ok {kind : MbKind} (hkind : s.mb.kind = some kind) (hcbp : s.mb.cbp.isSome = true ∨ kind = .intraPcm)
    (hx : s.mbX.toNat < s.picW) (hy : s.mbY.toNat < s.picH) (h : ownSlotsWritten s kind = true) :
    cacheWriteback s = .ok () (s.withArrays (s.arraysWith kind s.mbXY)) := by
  have hin : decide (s.mbX.toNat < s.picW ∧ s.mbY.toNat < s.picH) = true := decide_eq_true ⟨hx, hy⟩
  have hk : mbKind s = .ok kind s := Op.need_some hkind
  rw [cacheWriteback, Op.bind_ok (Op.require_true _ hin), Op.bind_ok hk, Op.bind_ok (Op.read_run _ s),
    Op.bind_ok (Op.read_run _ s), Op.bind_ok (ownCbp_ok hcbp), 
    Op.bind_ok (t := s.withArrays (s.arraysHead kind s.mbXY)) (Op.modify_run _ s), Op.bind_ok (writeCounts_ok h),
    Op.bind_ok (writeModes_ok h), Op.bind_ok (Op.read_run _ _)]
  rw [State.withArrays_lists, writeMotion_ok h, State.arraysWith, State.arraysHead]

/-! ### What the arrays hold -/

section
variable {α : Type} (c : Cells α) (mb w : Nat) (lists : List Nat) (f : Nat → Nat → α)

/-- Every element of the runs of `w` elements that belong to the lists is written. -/
theorem look_putRuns {l n : Nat} (hl : l ∈ lists) (hn : n < w) :
    Cells.look (Cells.putList c (lists.flatMap fun l => (List.range w).map fun j => (w * (2 * mb + l) + j, f l j)))
      (w * (2 * mb + l) + n) = some (f l n) := by
  refine Cells.look_putList_eq _ c ⟨(w * (2 * mb + l) + n, f l n), ?_, rfl⟩ ?_
  · exact List.mem_flatMap.mpr ⟨l, hl, List.mem_map_of_mem (List.mem_range.mpr hn)⟩
  · simp only [List.mem_flatMap, List.mem_map, List.mem_range]
    rintro e ⟨l', -, j, hj, rfl⟩ he
    have hdiv : 2 * mb + l' = 2 * mb + l := by
      have := congrArg (· / w) he
      simpa [Nat.mul_add_div (by omega : 0 < w), Nat.div_eq_of_lt hj, Nat.div_eq_of_lt hn] using this
    have hj : j = n := by rw [hdiv] at he; exact Nat.add_left_cancel he
    rw [Nat.add_left_cancel hdiv, hj]

/-- Every other element stays. -/
theorem look_putRuns_ne {k : Nat} (hk : ∀ l ∈ lists, k / w ≠ 2 * mb + l) :
    Cells.look (Cells.putList c (lists.flatMap fun l => (List.range w).map fun j => (w * (2 * mb + l) + j, f l j))) k
      = Cells.look c k := by
  refine Cells.look_putList_ne _ c ?_
  simp only [List.mem_flatMap, List.mem_map, List.mem_range]
  rintro e ⟨l, hl, j, hj, rfl⟩ rfl
  refine hk l hl ?_
  rw [Nat.mul_add_div (by omega : 0 < w), Nat.div_eq_of_lt hj, Nat.add_zero]

end

section
variable {kind : MbKind} {mb : Nat} (h : ownSlotsWritten s kind = true)
include h

theorem arraysWith_ref {l q : Nat} (hl : l < s.listCount) (hq : q < 4) :
    Cells.look (s.arraysWith kind mb).ref (4 * (2 * mb + l) + q)
      = if kind.intra then some (-1) else Cells.look s.cache.ref (75 * l + scan8 (4 * q)) := by
  refine (look_putRuns _ mb 4 s.lists _ (List.mem_range.mpr hl) hq).trans ?_
  cases hk : kind.intra
  · obtain ⟨c, hc⟩ := ownSlots_motion h hk hl (n := 4 * q) (by omega)
    simp [(slotMotion_eq_some.mp hc).1]
  · rfl

theorem arraysWith_mv {l n : Nat} (hl : l < s.listCount) (hn : n < 16) :
    Cells.look (s.arraysWith kind mb).mv (16 * (2 * mb + l) + n)
      = if kind.intra then some ⟨0, 0⟩ else Cells.look s.cache.mv (75 * l + scan8 n) := by
  refine (look_putRuns _ mb 16 s.lists _ (List.mem_range.mpr hl) hn).trans ?_
  cases hk : kind.intra
  · obtain ⟨c, hc⟩ := ownSlots_motion h hk hl hn
    simp [(slotMotion_eq_some.mp hc).2]
  · rfl

theorem arraysWith_nnz {n : Nat} (hn : n < 24) :
    Cells.look (s.arraysWith kind mb).nnz (24 * mb + n) = Cells.look s.cache.nnz (scan8 n) := by
  rw [State.arraysWith, State.ownCounts, Cells.look_putList_run _ _ _ _ hn, ← ownSlots_nnz h hn]

theorem arraysWith_i4 (hk : kind = .intra4x4) {n : Nat} (hn : n < 16) :
    Cells.look (s.arraysWith kind mb).i4 (16 * mb + n) = Cells.look s.cache.i4 (scan8 n) := by
  rw [State.arraysWith, if_pos hk, State.ownModes, Cells.look_putList_run _ _ _ _ hn, ← ownSlots_i4 h hk hn]

end

theorem arraysWith_nnz_ne {kind : MbKind} {mb k : Nat} (h : k / 24 ≠ mb) :
    Cells.look (s.arraysWith kind mb).nnz k = Cells.look s.pic.arrays.nnz k := by
  have hk : ∀ j, j < 24 → k ≠ 24 * mb + j := by omega
  rw [State.arraysWith, State.ownCounts, Cells.look_putList_run_ne _ _ _ _ hk]

theorem arraysWith_i4_ne {kind : MbKind} {mb k : Nat} (h : k / 16 ≠ mb ∨ kind ≠ .intra4x4) :
    Cells.look (s.arraysWith kind mb).i4 k = Cells.look s.pic.arrays.i4 k := by
  rw [State.arraysWith, State.ownModes]
  dsimp only
  split
  · next hk => exact Cells.look_putList_run_ne _ _ _ _ fun j hj hkj => (h.resolve_right (not_not_intro hk)) (by omega)
  · rfl

/-- The write-back leaves what the statement lists. -/
theorem writtenBack_arraysWith {kind : MbKind} {mb : Nat} (h : ownSlotsWritten s kind = true) :
    writtenBack s kind mb (s.arraysWith kind mb) := by
  have hlist (k w : Nat) (hk : k / (2 * w) ≠ mb ∨ s.listCount ≤ k / w % 2) : ∀ l ∈ s.lists, k / w ≠ 2 * mb + l := by
    intro l hl hkl
    have hl2 : l < s.listCount := List.mem_range.mp hl
    have hle := s.listCount_le
    have hdiv : k / (2 * w) = k / w / 2 := by rw [Nat.mul_comm, Nat.div_div_eq_div_mul]
    omega
  have hother {α : Type} (c : Cells α) (v : α) (k : Nat) (hk : k ≠ mb) : Cells.look (Cells.put c mb v) k = Cells.look c k :=
    Cells.look_put_ne hk v c
  refine ⟨Cells.look_put_same .., Cells.look_put_same .., ?_, ?_, ?_, fun n hn => arraysWith_nnz h hn,
    fun hk n hn => arraysWith_i4 h hk hn, fun l hl => ⟨fun q hq => arraysWith_ref h hl hq, fun n hn => arraysWith_mv h hl hn⟩,
    fun k hk => ⟨hother _ _ k hk, hother _ _ k hk, hother _ _ k hk, hother _ _ k hk⟩, fun k hk => arraysWith_nnz_ne hk,
    fun k hk => arraysWith_i4_ne hk, fun k hk => look_putRuns_ne _ _ _ _ _ (hlist k 4 hk),
    fun k hk => look_putRuns_ne _ _ _ _ _ (hlist k 16 hk)⟩
  · refine (Cells.look_put_same ..).trans (congrArg some ?_)
    split
    · rfl
    · exact BitVec.ofNat_toNat ..
  · intro hk
    refine (Cells.look_put_same ..).trans (congrArg some ?_)
    rw [State.ownCbp, if_pos hk]
    rfl
  · intro c hk hc
    refine (Cells.look_put_same ..).trans (congrArg some ?_)
    rw [State.ownCbp, if_neg hk, hc]
    exact BitVec.ofNat_toNat ..
/-- Settles O41. -/
theorem writeBack : Obligations.WriteBack := fun s kind he hkind hcbp hx hy h =>
  ⟨s.arraysWith kind s.mbXY, command_ok (t := s.withArrays _) (accepts_run he rfl) (cacheWriteback_ok hkind hcbp hx hy h),
    writtenBack_arraysWith h⟩

end Sys2Proof.Machine
end

section
/-! Proofs. The scratch buffer, and the reference samples of a block whose rows are published (44_motion_comp.md R374; 20_memory.md
R83). -/

namespace Sys2Proof.Machine

open Sys2Proof.Stated

variable {s t : State} {p w h x y : Nat}

/-! ### The scratch buffer -/

theorem tmpIndex_inj {i j i' j' : Nat} (hi : i < 16) (hj : j < 16) (hi' : i' < 16) (hj' : j' < 16)
    (heq : tmpIndex p (x + i) (y + j) = tmpIndex p (x + i') (y + j')) : i = i' ∧ j = j' := by
  unfold tmpIndex at heq
  omega

theorem State.look_putTmp_inside (s : State) (p x y : Nat) (f : Nat → Nat → Sample) (hw : w ≤ 16) (hh : h ≤ 16) {i j : Nat}
    (hi : i < w) (hj : j < h) : Cells.look (s.putTmp p x y w h f).tmp (tmpIndex p (x + i) (y + j)) = some (f i j) := by
  refine Cells.look_putList_eq _ _ ⟨_, List.mem_map.mpr ⟨(i, j), mem_blockCoords.mpr ⟨hi, hj⟩, rfl⟩, rfl⟩ fun e he heq => ?_
  obtain ⟨c, hc, rfl⟩ := List.mem_map.mp he
  obtain ⟨hci, hcj⟩ := mem_blockCoords.mp hc
  obtain ⟨h1, h2⟩ := tmpIndex_inj (by omega) (by omega) (by omega) (by omega) heq
  rw [h1, h2]

theorem State.look_putTmp_outside (s : State) (p x y : Nat) (f : Nat → Nat → Sample) {k : Nat}
    (hk : ∀ i j, i < w → j < h → k ≠ tmpIndex p (x + i) (y + j)) :
    Cells.look (s.putTmp p x y w h f).tmp k = Cells.look s.tmp k := by
  refine Cells.look_putList_ne _ _ fun e he heq => ?_
  obtain ⟨c, hc, rfl⟩ := List.mem_map.mp he
  obtain ⟨hci, hcj⟩ := mem_blockCoords.mp hc
  exact hk c.1 c.2 hci hcj heq.symm

theorem State.tmpLoaded_iff : s.tmpLoaded p x y w h = true ↔
    ∀ i j, i < w → j < h → (Cells.look s.tmp (tmpIndex p (x + i) (y + j))).isSome = true := by
  simp only [State.tmpLoaded, List.all_eq_true, mem_blockCoords, Prod.forall, and_imp]

/-! ### The reference samples -/

theorem Planes.sample_lt (pl : Planes) (hs : s.bitDepthLegal = true) (p k : Nat) : pl.sample s.bitDepth p k < 2 ^ 14 := by
  have hdepth : s.bitDepth ≤ 14 := (of_decide_eq_true hs).2
  rw [Planes.sample]
  split
  · exact BitVec.isLt _
  · exact Nat.lt_of_lt_of_le (Nat.mod_lt _ (Nat.two_pow_pos _)) (Nat.pow_le_pow_right Nat.two_pos hdepth)

theorem refAt_bounds (hs : s.bitDepthLegal = true) (r : RefPic) (p : Nat) (x y : Int) :
    0 ≤ Stated.refAt s r p x y ∧ Stated.refAt s r p x y < 2 ^ 14 := by
  have := r.planes.sample_lt hs p (2 ^ 20 * (min (max y 0) ((s.planeH p : Int) - 1)).toNat
    + (min (max x 0) ((s.planeW p : Int) - 1)).toNat)
  rw [Stated.refAt]
  omega

/-- Where the rows down to `below` under the block are published, the rows down to there read what the reference holds. -/
theorem refSample_eq {r : RefPic} {o : Operands} {below : Int} (hr : rowsReady s r p o below = true) {x y : Int}
    (hy : y ≤ o.sy + o.b.h - 1 + below) (out : Nat) : s.refSample r p out x y = Stated.refAt s r p x y := by
  have hpub : s.published r p (clampCoord y (s.planeH p)) = true := by
    obtain ⟨hlast, h0⟩ := of_decide_eq_true hr
    refine decide_eq_true ?_
    rw [clampCoord]
    split at hlast
    · next hc => rw [if_pos hc]; omega
    · next hc => rw [if_neg hc]; omega
  rw [State.refSample, if_pos hpub]
  rfl

end Sys2Proof.Machine
end

section
/-! Proofs. The formulas of the samples (44_motion_comp.md R375 to R394): the model's are the statements', they read the rows of the
taps only, and what they give is a sample. -/

namespace Sys2Proof.Machine

open Sys2Proof.Stated

variable {R R' : Int → Int → Int} {clip : Int → Int} {x y : Int}

/-! ### The luma phases -/

theorem average2_eq (u v : Int) : average2 u v = average u v := shiftRight_one _

theorem tap6_eq (f : Int → Int) : tap6 f = taps (f (-2)) (f (-1)) (f 0) (f 1) (f 2) (f 3) := rfl

theorem halfB1_eq (R : Int → Int → Int) (x y : Int) : halfB1 R x y = b1 R x y := by
  rw [halfB1, tap6_eq, b1, Int.add_zero]
  rfl

theorem halfB_eq (R : Int → Int → Int) (clip : Int → Int) (x y : Int) : halfB R clip x y = clip ((b1 R x y + 16) / 32) := by
  rw [halfB, halfB1_eq]
  exact congrArg clip (shiftRight_five _)

theorem halfH_eq (R : Int → Int → Int) (clip : Int → Int) (x y : Int) : halfH R clip x y = clip ((h1 R x y + 16) / 32) := by
  rw [halfH, tap6_eq, Int.add_zero]
  exact congrArg clip (shiftRight_five _)

theorem halfJ_eq (R : Int → Int → Int) (clip : Int → Int) (x y : Int) : halfJ R clip x y = clip ((j1 R x y + 512) / 1024) := by
  rw [halfJ, tap6_eq, Int.add_zero]
  simp only [halfB1_eq]
  exact congrArg clip (shiftRight_ten _)

/-- The formula of each phase number is the phase's. -/
theorem phaseFormula_eq {mx my : Nat} (hx : mx ≤ 3) (hy : my ≤ 3) (R : Int → Int → Int) (clip : Int → Int) (x y : Int) :
    phaseFormula (mx + 4 * my) R clip x y = lumaPhase R clip mx my x y := by
  obtain rfl | rfl | rfl | rfl := eq_of_le_three hx <;> obtain rfl | rfl | rfl | rfl := eq_of_le_three hy <;>
    simp only [phaseFormula, phase00, phase10, phase20, phase30, phase01, phase11, phase21, phase31, phase02, phase12,
      phase22, phase32, phase03, phase13, phase23, phase33, lumaPhase, average2_eq, halfB_eq, halfH_eq, halfJ_eq]

/-- A phase reads the rows down to three below only. -/
theorem lumaPhase_congr (h : ∀ x y', y' ≤ y + 3 → R x y' = R' x y') (clip : Int → Int) (mx my : Nat) :
    lumaPhase R clip mx my x y = lumaPhase R' clip mx my x y := by
  have hR (x : Int) : R x y = R' x y := h x y (by omega)
  have hR1 (x : Int) : R x (y + 1) = R' x (y + 1) := h x (y + 1) (by omega)
  have hb (x y' : Int) (hy' : y' ≤ y + 3) : b1 R x y' = b1 R' x y' := by simp only [b1, h _ y' hy']
  have hby (x : Int) : b1 R x y = b1 R' x y := hb x y (by omega)
  have hby1 (x : Int) : b1 R x (y + 1) = b1 R' x (y + 1) := hb x (y + 1) (by omega)
  have hh (x : Int) : h1 R x y = h1 R' x y := by
    rw [h1, h1, h x (y - 2) (by omega), h x (y - 1) (by omega), hR, hR1, h x (y + 2) (by omega), h x (y + 3) (by omega)]
  have hj (x : Int) : j1 R x y = j1 R' x y := by
    rw [j1, j1, hb x (y - 2) (by omega), hb x (y - 1) (by omega), hby, hby1, hb x (y + 2) (by omega), hb x (y + 3) (by omega)]
  simp only [lumaPhase, hR, hR1, hby, hby1, hh, hj]

/-- A sample, as a number. -/
def InRange (v : Int) : Prop := 0 ≤ v ∧ v < 2 ^ 14

theorem average_inRange {u v : Int} (hu : InRange u) (hv : InRange v) : InRange (average u v) := by
  unfold InRange average at *
  omega

theorem lumaPhase_inRange (hR : ∀ x y, InRange (R x y)) (hclip : ∀ v, InRange (clip v)) (mx my : Nat) (x y : Int) :
    InRange (lumaPhase R clip mx my x y) := by
  unfold lumaPhase
  split <;> simp only [average_inRange, hR, hclip]

/-! ### The chroma sample -/

theorem chromaFormula_eq (fx fy : Nat) (R : Int → Int → Int) (clip : Int → Int) (x y : Int) :
    chromaFormula fx fy R clip x y = chromaSample R fx fy x y := shiftRight_six _

theorem chromaSample_congr (h : ∀ x y', y' ≤ y + 1 → R x y' = R' x y') (fx fy : Nat) :
    chromaSample R fx fy x y = chromaSample R' fx fy x y := by
  simp only [chromaSample, h _ y (by omega), h _ (y + 1) (by omega)]

/-- The weights of the four samples are at least 0 and sum up to 64. -/
theorem chromaSample_inRange (hR : ∀ x y, InRange (R x y)) {fx fy : Nat} (hx : fx ≤ 7) (hy : fy ≤ 7) (x y : Int) :
    InRange (chromaSample R fx fy x y) := by
  obtain ⟨h1, h1'⟩ := hR x y
  obtain ⟨h2, h2'⟩ := hR (x + 1) y
  obtain ⟨h3, h3'⟩ := hR x (y + 1)
  obtain ⟨h4, h4'⟩ := hR (x + 1) (y + 1)
  rw [InRange, chromaSample]
  obtain rfl | rfl | rfl | rfl | rfl | rfl | rfl | rfl := eq_of_le_seven hx <;>
    obtain rfl | rfl | rfl | rfl | rfl | rfl | rfl | rfl := eq_of_le_seven hy <;> omega

end Sys2Proof.Machine
end

section
/-! Proofs. The common shape of the sample operations (44_motion_comp.md R375), the luma phases and `MC_CHROMA`. -/

namespace Sys2Proof.Machine

open Sys2Proof.Stated

variable {s t : State} {p : Nat}

/-! ### The operand registers -/

/-- The model's form of a destination block. -/
def dstOf (b : Block) : McDst := ⟨b.x, b.y, b.w, b.h⟩

theorem mcDst_ok {b : Block} (h : destinationIs s.mc b) : mcDst s = .ok (dstOf b) s := by
  obtain ⟨hx, hy, hw, hh⟩ := h
  rw [mcDst, Op.bind_ok (Op.need_some hx), Op.bind_ok (Op.need_some hy), Op.bind_ok (Op.need_some hw),
    Op.bind_ok (Op.need_some hh)]
  rfl

/-- The model's form of a source. -/
def srcOf (o : Operands) (avg buf : BitVec 1) : McSrc := ⟨o.sx, o.sy, o.l, o.r, decide (avg = 1), decide (buf = 1)⟩

theorem mcSrc_ok {o : Operands} {avg buf : BitVec 1} (h : operandsAre s.mc o avg buf) : mcSrc s = .ok (srcOf o avg buf) s := by
  obtain ⟨-, -, -, -, hx, hy, hl, hr, ha, hb⟩ := h
  rw [mcSrc, Op.bind_ok (Op.need_some hx), Op.bind_ok (Op.need_some hy), Op.bind_ok (Op.need_some hl),
    Op.bind_ok (Op.need_some hr), Op.bind_ok (Op.need_some ha), Op.bind_ok (Op.need_some hb)]
  rfl

theorem destinationIs_of_operandsAre {o : Operands} {avg buf : BitVec 1} (h : operandsAre s.mc o avg buf) :
    destinationIs s.mc o.b := by
  obtain ⟨hx, hy, hw, hh, -⟩ := h
  exact ⟨hx, hy, hw, hh⟩

/-! ### How a sample operation ends -/

section
variable {o : Operands} {avg buf : BitVec 1} {f : Formula} (ho : operandsAre s.mc o avg buf)
include ho

theorem sampleOp_run : sampleOp p f s = (do
    Op.require (fun s => decide (buf = 1) || s.insidePlane p o.b.x o.b.y o.b.w o.b.h) (.rejected .illegalCommand)
    let found ← Op.read fun s => s.refPic o.l o.r
    let ref ← Op.orStop found (.faulted .outOfRange)
    Op.require (fun s => !(decide (buf = 1) && decide (avg = 1)) || s.tmpLoaded p o.b.x o.b.y o.b.w o.b.h)
      (.faulted .uninitialisedRead)
    Op.modify fun s => s.mcWrite p (dstOf o.b) (srcOf o avg buf) ref f : Op Unit) s := by
  rw [sampleOp, Op.bind_ok (mcDst_ok (destinationIs_of_operandsAre ho)), Op.bind_ok (mcSrc_ok ho)]
  rfl

theorem sampleOp_rejected (hbuf : buf = 0) (hin : inPlane s p o.b = false) :
    sampleOp p f s = .error (.rejected .illegalCommand) s := by
  rw [sampleOp_run ho, hbuf]
  exact Op.bind_error (Op.require_false _ hin)

variable {ref : RefPic} (href : s.refPic o.l o.r = some ref) (hin : buf = 1 ∨ inPlane s p o.b = true)
include href hin

theorem sampleOp_inside : sampleOp p f s = (do
    Op.require (fun s => !(decide (buf = 1) && decide (avg = 1)) || s.tmpLoaded p o.b.x o.b.y o.b.w o.b.h)
      (.faulted .uninitialisedRead)
    Op.modify fun s => s.mcWrite p (dstOf o.b) (srcOf o avg buf) ref f : Op Unit) s := by
  have hpass : (decide (buf = 1) || s.insidePlane p o.b.x o.b.y o.b.w o.b.h) = true := by
    rw [Bool.or_eq_true, decide_eq_true_iff]
    exact hin
  rw [sampleOp_run ho, Op.bind_ok (Op.require_true _ hpass), Op.bind_ok (Op.read_run _ s), href,
    Op.bind_ok (Op.orStop_some ref _ s)]

theorem sampleOp_ok (hload : buf = 1 → avg = 1 → s.tmpLoaded p o.b.x o.b.y o.b.w o.b.h = true) :
    sampleOp p f s = .ok () (s.mcWrite p (dstOf o.b) (srcOf o avg buf) ref f) := by
  have hpass : (!(decide (buf = 1) && decide (avg = 1)) || s.tmpLoaded p o.b.x o.b.y o.b.w o.b.h) = true := by
    by_cases h : buf = 1 ∧ avg = 1
    · rw [hload h.1 h.2, Bool.or_true]
    · rw [← Bool.decide_and, decide_eq_false h, Bool.not_false, Bool.true_or]
  rw [sampleOp_inside ho href hin, Op.bind_ok (Op.require_true _ hpass)]
  rfl

theorem sampleOp_faulted (hbuf : buf = 1) (havg : avg = 1) (hload : s.tmpLoaded p o.b.x o.b.y o.b.w o.b.h = false) :
    sampleOp p f s = .error (.faulted .uninitialisedRead) s := by
  rw [sampleOp_inside ho href hin, hbuf, havg]
  exact Op.bind_error (Op.require_false _ hload)

end

/-! ### What is written -/

theorem toNat_ofInt_sample {v : Int} (h : InRange v) : ((BitVec.ofInt 14 v).toNat : Int) = v := by
  obtain ⟨h0, h1⟩ := h
  rw [BitVec.toNat_ofInt]
  omega

section
variable {o : Operands} {avg : BitVec 1} {ref : RefPic} {f : Formula} {v : Nat → Nat → Int} {dx dy : Nat}
    (hv : s.mcValue p (dstOf o.b) (srcOf o avg 0) ref f dx dy = v dx dy)
include hv

/-- What goes to the picture: the value, or its average with the old sample. -/
theorem mcNew_picture (hs : s.bitDepthLegal = true) (hr : InRange (v dx dy)) :
    ((s.mcNew p (dstOf o.b) (srcOf o avg 0) ref f dx dy).toNat : Int)
      = if avg = 1 then average (s.sample p (o.b.x + dx) (o.b.y + dy) : Nat) (v dx dy) else v dx dy := by
  have hold : InRange (s.sample p (o.b.x + dx) (o.b.y + dy) : Nat) :=
    ⟨Int.natCast_nonneg _, Int.ofNat_lt.mpr (s.pic.planes.sample_lt hs _ _)⟩
  rw [State.mcNew, hv]
  by_cases ha : avg = 1
  · rw [if_pos (show (srcOf o avg 0).avg = true from decide_eq_true ha), if_pos ha, average2_eq]
    exact toNat_ofInt_sample (average_inRange hold hr)
  · have hnot : ¬ (srcOf o avg 0).avg = true := fun h => ha (of_decide_eq_true h)
    rw [if_neg hnot, if_neg ha]
    exact toNat_ofInt_sample hr

end

theorem mcNew_scratch {o : Operands} {avg : BitVec 1} {ref : RefPic} {f : Formula} {v : Nat → Nat → Int} {dx dy : Nat}
    (hv : s.mcValue p (dstOf o.b) (srcOf o avg 1) ref f dx dy = v dx dy) :
    s.mcNew p (dstOf o.b) (srcOf o avg 1) ref f dx dy = BitVec.ofInt 14
      (if avg = 1 then average (s.tmpAt p (o.b.x + dx) (o.b.y + dy) : Nat) (v dx dy) else v dx dy) := by
  rw [State.mcNew, hv]
  by_cases ha : avg = 1
  · rw [if_pos (show (srcOf o avg 1).avg = true from decide_eq_true ha), if_pos ha, average2_eq]
    rfl
  · have hnot : ¬ (srcOf o avg 1).avg = true := fun h => ha (of_decide_eq_true h)
    rw [if_neg hnot, if_neg ha]

/-- A command whose body is a sample operation with formula `f`, where `f` gives `v` once the rows are published. -/
theorem sampleOperation_of_body {i : Instr} {body : Op Unit} {o : Operands} {ref : RefPic} {f : Formula} {ready : Bool}
    {v : Nat → Nat → Int} {accepted legal : Bool} (hexec : exec i s = command accepted legal body s)
    (hacc : (accepted && legal) = true) (hbody : body s = sampleOp p f s) (hs : s.bitDepthLegal = true) (hp : p ≤ 2)
    (href : s.refPic o.l o.r = some ref) (hw : o.b.w ≤ 16) (hh : o.b.h ≤ 16)
    (hv : ready = true → ∀ dx dy, dx < o.b.w → dy < o.b.h → (∀ avg buf,
      s.mcValue p (dstOf o.b) (srcOf o avg buf) ref f dx dy = v dx dy) ∧ InRange (v dx dy)) :
    sampleOperation i s p o ready v := by
  intro avg
  refine ⟨fun ho hin => ?_, fun ho hin => ?_, fun ho hload => ?_, fun ho hmiss => ?_⟩
  · have hok := sampleOp_ok (f := f) ho href (Or.inr hin) fun h => absurd h (by decide)
    refine ⟨_, fun x y => ((s.mcNew p (dstOf o.b) (srcOf o avg 0) ref f (x - o.b.x) (y - o.b.y)).toNat : Int),
      hexec.trans (command_ok hacc (hbody.trans hok)), rfl, Planes.setPlane_gen .., ?_, fun hready x y hxy => ?_⟩
    · exact blockWritten_of_planes_eq (f := s.mcNew p (dstOf o.b) (srcOf o avg 0) ref f) rfl rfl hp hin fun _ _ _ => rfl
    · obtain ⟨hx, hx', hy, hy'⟩ := block_has_iff.mp hxy
      obtain ⟨heq, hr⟩ := hv hready (x - o.b.x) (y - o.b.y) (by omega) (by omega)
      refine (mcNew_picture (heq avg 0) hs hr).trans ?_
      rw [Nat.add_sub_cancel' hx, Nat.add_sub_cancel' hy]
  · exact hexec.trans (command_rejected hacc (hbody.trans (sampleOp_rejected ho rfl hin)))
  · have hok := sampleOp_ok (p := p) (f := f) ho href (Or.inl rfl) fun _ havg =>
      State.tmpLoaded_iff.mpr fun i j hi hj => hload i j hi hj havg
    refine ⟨_, hexec.trans (command_ok hacc (hbody.trans hok)), rfl, fun hready dx dy hdx hdy => ?_, fun k hk => ?_⟩
    · obtain ⟨heq, -⟩ := hv hready dx dy hdx hdy
      refine (s.look_putTmp_inside p o.b.x o.b.y _ hw hh hdx hdy).trans (congrArg some ?_)
      exact mcNew_scratch (heq avg 1)
    · exact s.look_putTmp_outside p o.b.x o.b.y _ hk
  · obtain ⟨dx, dy, hdx, hdy, hnone⟩ := hmiss
    have hload : s.tmpLoaded p o.b.x o.b.y o.b.w o.b.h = false := by
      refine Bool.eq_false_iff.mpr fun h => ?_
      have hsome := State.tmpLoaded_iff.mp h dx dy hdx hdy
      rw [show tmpIndex p (o.b.x + dx) (o.b.y + dy) = scratch p (o.b.x + dx) (o.b.y + dy) from rfl, hnone] at hsome
      cases hsome
    rw [hexec, command_run hacc, hbody, sampleOp_faulted ho href (Or.inl rfl) rfl rfl hload]
    rfl

/-! ### The luma phases -/

theorem exec_of_phaseOf {i : Instr} {mx my : Nat} (h : phaseOf i = some (mx, my)) :
    exec i s = command s.isRun true (sampleOp 0 (phaseFormula (mx + 4 * my))) s ∧ mx ≤ 3 ∧ my ≤ 3 := by
  unfold phaseOf at h
  split at h <;> cases h <;> exact ⟨rfl, by decide, by decide⟩

theorem clip_inRange (hs : s.bitDepthLegal = true) (v : Int) : InRange (clip s v) := by
  have := State.pixelMax_lt hs
  rw [clip_eq_pixelMax]
  unfold InRange
  omega

theorem clip3_pixelMax_eq (s : State) : clip3 0 s.pixelMax = clip s := funext (clip3_pixelMax s)

/-- Settles O46. -/
theorem lumaPhases : Obligations.LumaPhases := by
  intro i s mx my o ref hi he hs href hw hh
  obtain ⟨hexec, hmx, hmy⟩ := exec_of_phaseOf (s := s) hi
  refine sampleOperation_of_body hexec (accepts_run he rfl) rfl hs (Nat.zero_le 2) href hw hh
    fun hready dx dy _ hdy => ⟨fun avg buf => ?_, ?_⟩
  · rw [State.mcValue, phaseFormula_eq hmx hmy, clip3_pixelMax_eq]
    exact lumaPhase_congr (fun x y hy => refSample_eq hready (by simp only [srcOf] at hy; omega) _) ..
  · exact lumaPhase_inRange (refAt_bounds hs ref 0) (clip_inRange hs) ..

/-! ### `MC_CHROMA` -/

theorem mcChroma_run {fx fy : BitVec 3} (hx : s.mc.fx = some fx) (hy : s.mc.fy = some fy) :
    mcChroma p s = sampleOp p (chromaFormula (fx.toNat : Int) (fy.toNat : Int)) s := by
  rw [mcChroma, Op.bind_ok (Op.need_some (congrArg (Option.map BitVec.toNat) hx)),
    Op.bind_ok (Op.need_some (congrArg (Option.map BitVec.toNat) hy))]

/-- Settles O47. -/
theorem chromaInterpolation : Obligations.ChromaInterpolation := by
  refine fun s a he hs ha => ⟨fun o fx fy ref hc hfx hfy href hw hh => ?_, fun hc => ?_⟩
  · have hlegal : (Legal.chromaPlane a && decide (s.chromaFormat ≠ 0)) = true := by simp [Legal.chromaPlane, ha, hc]
    refine sampleOperation_of_body rfl (accepts_run he hlegal) (mcChroma_run hfx hfy) hs (by omega) href hw hh
      fun hready dx dy _ hdy => ⟨fun avg buf => ?_, ?_⟩
    · rw [State.mcValue, chromaFormula_eq]
      exact chromaSample_congr (fun x y hy => refSample_eq hready (by simp only [srcOf] at hy; omega) _) ..
    · exact chromaSample_inRange (refAt_bounds hs ref _) (by omega) (by omega) ..
  · exact command_reject (by simp [hc])

end Sys2Proof.Machine
end

section
/-! Proofs. Weighted prediction (44_motion_comp.md R400, R401) and the implicit weights (R405). -/

namespace Sys2Proof.Machine

open Sys2Proof.Stated

variable {s t : State} {p : Nat}

/-! ### A command that writes a block from its old samples -/

theorem command_updateBlock {accepted legal : Bool} {body : Op Unit} {b : Block} {f : State → Nat → Nat → Sample}
    {g : Nat → Nat → Int} (hacc : (accepted && legal) = true) (hbody : body s = updateBlock p b.x b.y b.w b.h f s)
    (hp : p ≤ 2) (hin : inPlane s p b = true)
    (hf : ∀ x y, b.has x y = true → ((f s (x - b.x) (y - b.y)).toNat : Int) = g x y) :
    ∃ t, command accepted legal body s = .next t
      ∧ t = { s with pic := { s.pic with planes := t.pic.planes }, status := .ended .ok }
      ∧ t.pic.planes.gen = s.pic.planes.gen ∧ blockWritten s t p b g := by
  have hok : body s = .ok () (s.putBlock p b.x b.y b.w b.h (f s)) :=
    hbody.trans (Op.bind_ok (Op.require_true _ hin))
  exact ⟨_, command_ok hacc hok, rfl, Planes.setPlane_gen .., blockWritten_of_planes_eq rfl rfl hp hin hf⟩

/-! ### `WEIGHT_UNI` and `WEIGHT_BI` -/

theorem weightAt_ok {l r k : Nat} {w : Int} (h : (weightOf s p l r k).map BitVec.toInt = some w) :
    weightAt p l r k s = .ok w s := by
  refine Op.need_some ?_
  rw [weightOf] at h
  split at h <;> simp only [*, if_true, if_false]

theorem weightUni_run {b : Block} {l r : Nat} {w o : BitVec 16} (hd : destinationIs s.mc b)
    (hw : weightOf s p l r 0 = some w) (ho : weightOf s p l r 1 = some o) :
    weightUni p l r s = updateBlock p b.x b.y b.w b.h (fun s i j =>
      s.clipPixel (weightUniSample s.bitDepth (s.weightDenom p) w.toInt o.toInt (s.sample p (b.x + i) (b.y + j)))) s := by
  rw [weightUni, Op.bind_ok (mcDst_ok hd), Op.bind_ok (weightAt_ok (congrArg (Option.map BitVec.toInt) hw)),
    Op.bind_ok (weightAt_ok (congrArg (Option.map BitVec.toInt) ho))]
  rfl

theorem shiftRight_nat_eq_div (x : Int) (n : Nat) : x >>> n = x / 2 ^ n := by
  rw [Int.shiftRight_eq_div_pow]
  norm_cast

theorem weightUniSample_eq (depth ld : Nat) (w o d : Int) : weightUniSample depth ld w o d
    = (if 1 ≤ ld then (d * w + 2 ^ (ld - 1)) / 2 ^ ld else d * w) + o * 2 ^ (depth - 8) := by
  rw [weightUniSample, shiftRight_nat_eq_div]

theorem weightBiSample_eq (depth ld : Nat) (w0 w1 o d e : Int) : weightBiSample depth ld w0 w1 o d e
    = (d * w0 + e * w1 + 2 ^ ld) / 2 ^ (ld + 1) + (o * 2 ^ (depth - 8) + 1) / 2 := by
  have h1 : (o * 2 ^ (depth - 8) + 1) >>> 1 = (o * 2 ^ (depth - 8) + 1) / 2 := shiftRight_one _
  rw [weightBiSample, h1, shiftRight_nat_eq_div]

/-- The weights of `WEIGHT_BI`: explicit, or implicit with the denominator 5 and no offset (R401). -/
def biWeightsAre (s : State) (p r0 r1 : Nat) (w0 w1 os : Int) (ld : Nat) : Prop :=
  (s.useWeight = 1 ∧ (weightOf s p 0 r0 0).map BitVec.toInt = some w0 ∧ (weightOf s p 1 r1 0).map BitVec.toInt = some w1
    ∧ (∃ o0 o1 : BitVec 16, weightOf s p 0 r0 1 = some o0 ∧ weightOf s p 1 r1 1 = some o1 ∧ os = o0.toInt + o1.toInt)
    ∧ ld = denomOf s p)
  ∨ (s.useWeight = 2 ∧ (Cells.look s.tabs.implicitWeight (r0 * 32 + r1)).map BitVec.toInt = some w0
    ∧ w1 = 64 - w0 ∧ os = 0 ∧ ld = 5)

section
variable {r0 r1 : Nat} {w0 w1 os : Int} {ld : Nat} (h : biWeightsAre s p r0 r1 w0 w1 os ld)
include h

theorem biWeights_ok : biWeights p r0 r1 s = .ok (w0, w1, os, ld) s := by
  rw [biWeights, Op.bind_ok (Op.read_run _ s)]
  rcases h with ⟨hmode, hw0, hw1, ⟨o0, o1, ho0, ho1, rfl⟩, rfl⟩ | ⟨hmode, hw0, rfl, rfl, rfl⟩
  · rw [if_pos hmode, Op.bind_ok (weightAt_ok hw0), Op.bind_ok (weightAt_ok (congrArg (Option.map BitVec.toInt) ho0)),
      Op.bind_ok (weightAt_ok hw1), Op.bind_ok (weightAt_ok (congrArg (Option.map BitVec.toInt) ho1)),
      Op.bind_ok (Op.read_run _ s)]
    rfl
  · have hread : implicitWeightAt r0 r1 s = .ok w0 s := Op.need_some hw0
    rw [if_neg (by omega), Op.bind_ok hread]
    rfl

theorem weightBi_run {b : Block} (hd : destinationIs s.mc b) (hload : s.tmpLoaded p b.x b.y b.w b.h = true) :
    weightBi p r0 r1 s = updateBlock p b.x b.y b.w b.h (fun s i j =>
      s.clipPixel (weightBiSample s.bitDepth ld w0 w1 os (s.sample p (b.x + i) (b.y + j))
        (s.tmpAt p (b.x + i) (b.y + j)))) s := by
  have hmode : s.useWeight ≠ 3 ∧ s.useWeight ≠ 0 := by
    rcases h with ⟨hmode, -⟩ | ⟨hmode, -⟩ <;> omega
  rw [weightBi, Op.bind_ok (Op.require_true _ (decide_eq_true hmode.1)), Op.bind_ok (Op.require_true _ (decide_eq_true hmode.2)),
    Op.bind_ok (mcDst_ok hd), Op.bind_ok (biWeights_ok h)]
  exact Op.bind_ok (Op.require_true _ hload)

end

theorem weightBi_rejected {r0 r1 : Nat} (h : s.useWeight = 0) :
    weightBi p r0 r1 s = .error (.rejected .illegalCommand) s := by
  rw [weightBi, Op.bind_ok (Op.require_true _ (decide_eq_true (by omega)))]
  exact Op.bind_error (Op.require_false _ (decide_eq_false (not_not_intro h)))

/-- Settles O48: each command writes its block with the weighted sample, clipped. -/
theorem weightedPrediction : Obligations.WeightedPrediction := by
  refine fun s p b he hs hp hd hin => ⟨fun l r w o hl hr hw ho => ?_, fun r0 r1 w0 w1 os ld hr0 hr1 hload hws => ?_,
    fun r0 r1 hmode => ?_⟩
  · have hlegal : (Legal.plane p && Legal.list l && Legal.ref r) = true := by
      simp [Legal.plane, Legal.list, Legal.ref, hp, hl, hr]
    refine command_updateBlock (accepts_run he hlegal) (weightUni_run hd hw ho) hp hin fun x y hxy => ?_
    obtain ⟨hx, -, hy, -⟩ := block_has_iff.mp hxy
    rw [toNat_clipPixel hs, weightUniSample_eq, Nat.add_sub_cancel' hx, Nat.add_sub_cancel' hy]
    rfl
  · have hlegal : (Legal.plane p && Legal.ref r0 && Legal.ref r1) = true := by
      simp [Legal.plane, Legal.ref, hp, hr0, hr1]
    have hloaded : s.tmpLoaded p.toNat b.x b.y b.w b.h = true := State.tmpLoaded_iff.mpr hload
    refine command_updateBlock (accepts_run he hlegal) (weightBi_run hws hd hloaded) hp hin fun x y hxy => ?_
    obtain ⟨hx, -, hy, -⟩ := block_has_iff.mp hxy
    rw [toNat_clipPixel hs, weightBiSample_eq, Nat.add_sub_cancel' hx, Nat.add_sub_cancel' hy]
  · cases hacc : s.isRun && (Legal.plane p && Legal.ref r0 && Legal.ref r1)
    · exact command_reject hacc
    · exact command_rejected hacc (weightBi_rejected hmode)

/-! ### The implicit weights -/

theorem clip3_eq {lo hi : Int} (h : lo ≤ hi) (v : Int) : clip3 lo hi v = min (max v lo) hi := by
  rw [clip3]
  split
  · omega
  · split <;> omega

theorem implicitWeightOf_eq (cur poc0 poc1 : Int) : implicitWeightOf cur poc0 poc1 = implicitOf cur poc0 poc1 := by
  rw [implicitWeightOf, implicitOf]
  have hhalf (n : Nat) : ((n / 2 : Nat) : Int) = (n : Int) / 2 := Int.natCast_ediv n 2
  simp only [clip3_eq (show (-128 : Int) ≤ 127 by decide), shiftRight_eight, hhalf]

theorem implicitWeightOf_ge (cur poc0 poc1 : Int) : -64 ≤ implicitWeightOf cur poc0 poc1 := by
  rw [implicitWeightOf]
  split
  · decide
  · dsimp only
    split <;> omega

/-- The weight of two references, from the tables. -/
def State.pairWeight (s : State) (c : Nat × Nat) : BitVec 8 :=
  if (Cells.look s.tabs.refLong c.1).getD false || (Cells.look s.tabs.refLong (32 + c.2)).getD false then 32
  else implicitElement s.cr10.toInt ((Cells.look s.tabs.refPoc c.1).getD 0).toInt
    ((Cells.look s.tabs.refPoc (32 + c.2)).getD 0).toInt

/-- The state with other implicit weights. -/
def State.withImplicit (s : State) (c : Cells (BitVec 8)) : State := { s with tabs := { s.tabs with implicitWeight := c } }

section
variable {r0 r1 : Nat} {c : Cells (BitVec 8)} {long0 long1 : Bool} {poc0 poc1 : Word}
    (hlong0 : Cells.look s.tabs.refLong r0 = some long0) (hlong1 : Cells.look s.tabs.refLong (32 + r1) = some long1)
include hlong0 hlong1

theorem eitherLong_ok : eitherLong r0 r1 (s.withImplicit c) = .ok (long0 || long1) (s.withImplicit c) := by
  have h0 : refLongAt 0 r0 (s.withImplicit c) = .ok long0 _ := Op.need_some (by rw [Nat.zero_mul, Nat.zero_add]; exact hlong0)
  rw [eitherLong, Op.bind_ok h0]
  have h1 : refLongAt 1 r1 (s.withImplicit c) = .ok long1 _ := Op.need_some hlong1
  cases long0
  · exact h1
  · rfl

variable (hpoc0 : Cells.look s.tabs.refPoc r0 = some poc0) (hpoc1 : Cells.look s.tabs.refPoc (32 + r1) = some poc1)
include hpoc0 hpoc1

theorem implicitWeightStep_ok :
    implicitWeightStep (r0, r1) (s.withImplicit c) = .ok () (s.withImplicit (Cells.put c (r0 * 32 + r1) (s.pairWeight (r0, r1)))) := by
  have hvalue : implicitWeightValue (long0 || long1) r0 r1 (s.withImplicit c) = .ok (s.pairWeight (r0, r1)) (s.withImplicit c) := by
    rw [implicitWeightValue, State.pairWeight, hlong0, hlong1, hpoc0, hpoc1]
    cases hlong : long0 || long1
    · have h0 : refPocAt 0 r0 (s.withImplicit c) = .ok poc0.toInt _ :=
        Op.need_some (by rw [Nat.zero_mul, Nat.zero_add]; exact congrArg (Option.map BitVec.toInt) hpoc0)
      have h1 : refPocAt 1 r1 (s.withImplicit c) = .ok poc1.toInt _ :=
        Op.need_some (congrArg (Option.map BitVec.toInt) hpoc1)
      rw [if_neg (by decide), Op.bind_ok h0, Op.bind_ok h1]
      simp only [Option.getD_some, hlong]
      rfl
    · simp only [Option.getD_some, hlong]
      rfl
  rw [implicitWeightStep, Op.bind_ok (eitherLong_ok hlong0 hlong1), Op.bind_ok hvalue]
  rfl

end

theorem mem_pairs {n0 n1 : Nat} {c : Nat × Nat} :
    c ∈ pairsByList (List.range n0) (List.range n1) ↔ c.1 < n0 ∧ c.2 < n1 := by
  simp only [pairsByList, List.mem_flatMap, List.mem_map, List.mem_range]
  constructor
  · rintro ⟨l, hl, x, hx, rfl⟩
    exact ⟨hl, hx⟩
  · rintro ⟨h0, h1⟩
    exact ⟨c.1, h0, c.2, h1, rfl⟩

/-- The elements `IMPLICIT_WEIGHT` writes. -/
def State.pairWeights (s : State) : List (Nat × BitVec 8) :=
  (pairsByList (List.range (s.refCount 0)) (List.range (s.refCount 1))).map fun c => (c.1 * 32 + c.2, s.pairWeight c)

theorem mem_pairWeights {e : Nat × BitVec 8} : e ∈ s.pairWeights ↔
    ∃ r0 r1, r0 < s.refCount 0 ∧ r1 < s.refCount 1 ∧ e = (r0 * 32 + r1, s.pairWeight (r0, r1)) := by
  simp only [State.pairWeights, List.mem_map, mem_pairs, Prod.exists, and_assoc, eq_comm (b := e)]

theorem implicitWeight_ok (h0 : s.refCount 0 ≤ 32) (h1 : s.refCount 1 ≤ 32)
    (htab : ∀ l r, l ≤ 1 → r < s.refCount l → (Cells.look s.tabs.refLong (l * 32 + r)).isSome = true
      ∧ (Cells.look s.tabs.refPoc (l * 32 + r)).isSome = true) :
    implicitWeight s = .ok () (s.withImplicit (Cells.putList s.tabs.implicitWeight s.pairWeights)) := by
  have hstep : ∀ c ∈ pairsByList (List.range (s.refCount 0)) (List.range (s.refCount 1)), ∀ w,
      implicitWeightStep c (s.withImplicit w)
        = .ok () (s.withImplicit (Cells.put w (c.1 * 32 + c.2) (s.pairWeight c))) := by
    intro c hc w
    obtain ⟨hr0, hr1⟩ := mem_pairs.mp hc
    obtain ⟨hl0, hp0⟩ := htab 0 c.1 (Nat.zero_le 1) hr0
    obtain ⟨hl1, hp1⟩ := htab 1 c.2 (Nat.le_refl 1) hr1
    rw [Nat.zero_mul, Nat.zero_add] at hl0 hp0
    obtain ⟨long0, hl0⟩ := Option.isSome_iff_exists.mp hl0
    obtain ⟨long1, hl1⟩ := Option.isSome_iff_exists.mp hl1
    obtain ⟨poc0, hp0⟩ := Option.isSome_iff_exists.mp hp0
    obtain ⟨poc1, hp1⟩ := Option.isSome_iff_exists.mp hp1
    exact implicitWeightStep_ok hl0 hl1 hp0 hp1
  rw [implicitWeight, Op.bind_ok (Op.require_true _ (decide_eq_true ⟨h0, h1⟩)), Op.bind_ok (Op.read_run _ s),
    Op.bind_ok (Op.read_run _ s)]
  exact Op.each_putList (wr := s.withImplicit) hstep s.tabs.implicitWeight

/-- Settles O49: the loop writes the weight of every pair, and an index belongs to one pair. -/
theorem implicitWeights : Obligations.ImplicitWeights := by
  intro s hread h0 h1 htab
  refine ⟨_, command_ok (accepts_reading hread rfl) (implicitWeight_ok h0 h1 htab), rfl,
    fun r0 r1 long0 long1 poc0 poc1 hr0 hr1 hl0 hl1 hp0 hp1 => ?_, fun k hk => ?_⟩
  · have hwritten : Cells.look (Cells.putList s.tabs.implicitWeight s.pairWeights) (r0 * 32 + r1)
        = some (s.pairWeight (r0, r1)) := by
      refine Cells.look_putList_eq _ _ ⟨_, mem_pairWeights.mpr ⟨r0, r1, hr0, hr1, rfl⟩, rfl⟩ fun e he heq => ?_
      obtain ⟨r0', r1', -, hr1', rfl⟩ := mem_pairWeights.mp he
      obtain ⟨rfl, rfl⟩ : r0' = r0 ∧ r1' = r1 := by simp only at heq; omega
      rfl
    have hpair : s.pairWeight (r0, r1)
        = if long0 || long1 then 32 else implicitElement s.cr10.toInt poc0.toInt poc1.toInt := by
      rw [State.pairWeight, hl0, hl1, hp0, hp1]
      rfl
    refine ⟨_, hwritten, fun hlong => by rw [hpair, if_pos hlong], fun hlong hle => ?_⟩
    have hge := implicitWeightOf_ge s.cr10.toInt poc0.toInt poc1.toInt
    rw [← implicitWeightOf_eq] at hle ⊢
    rw [hpair, if_neg (Bool.eq_false_iff.mp hlong), implicitElement, if_pos hle, BitVec.toInt_ofInt, Int.bmod_eq_of_le] <;>
      omega
  · refine Cells.look_putList_ne _ _ fun e he heq => ?_
    obtain ⟨r0, r1, hr0, hr1, rfl⟩ := mem_pairWeights.mp he
    exact hk r0 r1 hr0 hr1 heq.symm

end Sys2Proof.Machine
end

section
/-! Proofs. The spaces whose unlisted elements are 0: dropping what is not listed, and writing a list. -/

namespace Sys2Proof.Cells

variable {α : Type} {w : Nat}

theorem drop_eq_self {a : Nat} {c : Cells α} (h : look c a = none) : drop c a = c := by
  induction c with
  | nil => rfl
  | cons e rest ih =>
    obtain ⟨k, v⟩ := e
    rw [look] at h
    split at h
    · cases h
    · next hne => rw [drop, if_neg hne, ih h]

theorem dropAll_eq_self {c : Cells α} {as : List Nat} (h : ∀ a ∈ as, look c a = none) : dropAll c as = c := by
  induction as with
  | nil => rfl
  | cons a as ih => rw [dropAll, drop_eq_self (h a (by simp)), ih fun b hb => h b (List.mem_cons_of_mem _ hb)]

theorem look_mem {a : Nat} {v : α} {c : Cells α} (h : look c a = some v) : (a, v) ∈ c := by
  induction c with
  | nil => cases h
  | cons e rest ih =>
    obtain ⟨k, v'⟩ := e
    rw [look] at h
    split at h
    · next hk =>
      cases h
      rw [← hk]
      exact List.mem_cons_self ..
    · exact List.mem_cons_of_mem _ (ih h)

/-- In canonical form an element that reads 0 is not listed. -/
theorem look_eq_none_of_lookZero {c : Cells (BitVec w)} (hc : wfZero c = true) {a : Nat} (h : lookZero c a = 0) :
    look c a = none := by
  cases hv : look c a with
  | none => rfl
  | some v =>
    have hne := List.all_eq_true.mp (Bool.and_eq_true_iff.mp hc).2 _ (look_mem hv)
    rw [lookZero, hv, Option.getD_some] at h
    simp [h] at hne

/-- Write a list of pairs in a space whose unlisted elements are 0, first first. -/
def putZeroList (c : Cells (BitVec w)) : List (Nat × BitVec w) → Cells (BitVec w)
  | [] => c
  | (a, v) :: rest => putZeroList (putZero c a v) rest

theorem lookZero_putZeroList_ne {b : Nat} (cells : List (Nat × BitVec w)) (c : Cells (BitVec w))
    (h : ∀ e ∈ cells, e.1 ≠ b) : lookZero (putZeroList c cells) b = lookZero c b := by
  induction cells generalizing c with
  | nil => rfl
  | cons e rest ih =>
    have hne : b ≠ e.1 := (h e (by simp)).symm
    have hput : putZeroList c (e :: rest) = putZeroList (putZero c e.1 e.2) rest := rfl
    rw [hput, ih _ fun e he => h e (List.mem_cons_of_mem _ he), lookZero_putZero, if_neg hne]

/-- An index that is written, always with the same value, reads that value. -/
theorem lookZero_putZeroList_eq {b : Nat} {v : BitVec w} (cells : List (Nat × BitVec w)) (c : Cells (BitVec w))
    (hb : ∃ e ∈ cells, e.1 = b) (hv : ∀ e ∈ cells, e.1 = b → e.2 = v) : lookZero (putZeroList c cells) b = v := by
  induction cells generalizing c with
  | nil =>
    obtain ⟨e, he, -⟩ := hb
    cases he
  | cons x xs ih =>
    have hput : putZeroList c (x :: xs) = putZeroList (putZero c x.1 x.2) xs := rfl
    rw [hput]
    by_cases hxs : ∃ e ∈ xs, e.1 = b
    · exact ih _ hxs fun e he => hv e (List.mem_cons_of_mem _ he)
    · have hx : x.1 = b := by
        obtain ⟨e, he, heb⟩ := hb
        rcases List.mem_cons.mp he with h | h
        · rw [← h, heb]
        · exact absurd ⟨e, h, heb⟩ hxs
      rw [lookZero_putZeroList_ne xs _ fun e he heb => hxs ⟨e, he, heb⟩, lookZero_putZero, if_pos hx.symm,
        hv x (by simp) hx]

end Sys2Proof.Cells
end

section
/-! Proofs. The inverse transforms (45_reconstruction.md R421 to R429). -/

namespace Sys2Proof.Machine

open Sys2Proof.Stated

variable {s t : State}

/-! ### The kernels -/

theorem kernel4_eq (c : Nat → Int) {i : Nat} (hi : i < 4) : kernel4 c i = (t4 (c 0) (c 1) (c 2) (c 3)).getD i 0 := by
  simp only [kernel4, t4, shiftRight_one]
  obtain rfl | rfl | rfl | rfl := eq_of_le_three (Nat.le_of_lt_succ hi) <;> rfl

theorem kernel8_eq (c : Nat → Int) {i : Nat} (hi : i < 8) :
    kernel8 c i = (t8 (c 0) (c 1) (c 2) (c 3) (c 4) (c 5) (c 6) (c 7)).getD i 0 := by
  simp only [kernel8, t8, shiftRight_one, shiftRight_two]
  obtain rfl | rfl | rfl | rfl | rfl | rfl | rfl | rfl := eq_of_le_seven (Nat.le_of_lt_succ hi) <;> rfl

theorem State.residual4_eq (s : State) (k : Nat) {i j : Nat} (hi : i < 4) (hj : j < 4) :
    s.residual kernel4 4 k i j = residual4 (fun m => s.coefAt (k + m)) i j := by
  rw [State.residual, transform2d, shiftRight_six, kernel4_eq _ hj]
  simp only [kernel4_eq _ hi, residual4]

theorem State.residual8_eq (s : State) (k : Nat) {i j : Nat} (hi : i < 8) (hj : j < 8) :
    s.residual kernel8 8 k i j = residual8 (fun m => s.coefAt (k + m)) i j := by
  rw [State.residual, transform2d, shiftRight_six, kernel8_eq _ hj]
  simp only [kernel8_eq _ hi, residual8]

theorem block_coefs (n w : Nat) (hw : 0 < w) : (fun k => w * n ≤ k ∧ k < w * n + w) = fun k => k / w = n := by
  funext k
  rw [eq_iff_iff, Nat.div_eq_iff hw, Nat.mul_comm w n]
  omega

section
variable {n : BitVec 8} (he : s.engine = .run) (hs : s.bitDepthLegal = true)
include he hs

theorem exec_idct4Add (hn : n.toNat ≤ 23) (hin : inPlane s (samplesOf s n.toNat).1 (samplesOf s n.toNat).2 = true) :
    ∃ t, exec (.idct4Add n) s = .next t ∧ residualAdded s t (samplesOf s n.toNat).1 (samplesOf s n.toNat).2
      (residual4 fun k => s.coefAt (16 * n.toNat + k)) (fun k => k / 16 = n.toNat) := by
  obtain ⟨hw, hh⟩ := samplesOf_size s n.toNat
  rw [← block_coefs n.toNat 16 (by decide)]
  exact command_addResidual (accepts_run he (decide_eq_true hn)) hs (s.blockPos_eq _) hw hh (samplesOf_plane_le ..) hin
    fun _ hi _ hj => s.residual4_eq _ hi hj

theorem exec_idct8Add (hn : n.toNat ≤ 3) (hin : inPlane s 0 (quadrantOf s n.toNat) = true) :
    ∃ t, exec (.idct8Add n) s = .next t ∧ residualAdded s t 0 (quadrantOf s n.toNat)
      (residual8 fun k => s.coefAt (64 * n.toNat + k)) (fun k => k / 64 = n.toNat) := by
  rw [← block_coefs n.toNat 64 (by decide)]
  exact command_addResidual (b := quadrantOf s n.toNat) (accepts_run he (decide_eq_true hn)) hs rfl rfl rfl (Nat.zero_le 2) hin
    fun _ hi _ hj => s.residual8_eq _ hi hj

end

/-- Settles O52. -/
theorem inverseTransforms : Obligations.InverseTransforms := fun _ _ he hs =>
  ⟨exec_idct4Add he hs, exec_idct8Add he hs⟩

/-! ### One coefficient, or none -/

/-- With only the first coefficient, the transform gives it everywhere. -/
theorem transform2d_kernel4 {c : Nat → Int} (h : ∀ k, 1 ≤ k → k < 16 → c k = 0) {x y : Nat} (hx : x < 4) (hy : y < 4) :
    transform2d kernel4 4 c y x = c 0 := by
  have hrow (r : Nat) (hr : r < 4) : kernel4 (fun k => c (4 * r + k)) x = if r = 0 then c 0 else 0 := by
    rw [kernel4_eq _ hx]
    have h1 := h (4 * r + 1) (by omega) (by omega)
    have h2 := h (4 * r + 2) (by omega) (by omega)
    have h3 := h (4 * r + 3) (by omega) (by omega)
    by_cases h0 : r = 0
    · subst h0
      simp only [h1, h2, h3]
      obtain rfl | rfl | rfl | rfl := eq_of_le_three (Nat.le_of_lt_succ hx) <;> simp [t4]
    · simp only [h1, h2, h3, h (4 * r + 0) (by omega) (by omega), if_neg h0]
      obtain rfl | rfl | rfl | rfl := eq_of_le_three (Nat.le_of_lt_succ hx) <;> rfl
  rw [transform2d, kernel4_eq _ hy, hrow 0 (by decide), hrow 1 (by decide), hrow 2 (by decide), hrow 3 (by decide)]
  obtain rfl | rfl | rfl | rfl := eq_of_le_three (Nat.le_of_lt_succ hy) <;> simp [t4]

theorem transform2d_kernel8 {c : Nat → Int} (h : ∀ k, 1 ≤ k → k < 64 → c k = 0) {x y : Nat} (hx : x < 8) (hy : y < 8) :
    transform2d kernel8 8 c y x = c 0 := by
  have hrow (r : Nat) (hr : r < 8) : kernel8 (fun k => c (8 * r + k)) x = if r = 0 then c 0 else 0 := by
    rw [kernel8_eq _ hx]
    have hk (k : Nat) (h1 : 1 ≤ k) (h2 : k < 8) : c (8 * r + k) = 0 := h _ (by omega) (by omega)
    by_cases h0 : r = 0
    · subst h0
      simp only [hk 1 (by decide) (by decide), hk 2 (by decide) (by decide), hk 3 (by decide) (by decide),
        hk 4 (by decide) (by decide), hk 5 (by decide) (by decide), hk 6 (by decide) (by decide), hk 7 (by decide) (by decide)]
      obtain rfl | rfl | rfl | rfl | rfl | rfl | rfl | rfl := eq_of_le_seven (Nat.le_of_lt_succ hx) <;> simp [t8]
    · simp only [hk 1 (by decide) (by decide), hk 2 (by decide) (by decide), hk 3 (by decide) (by decide),
        hk 4 (by decide) (by decide), hk 5 (by decide) (by decide), hk 6 (by decide) (by decide), hk 7 (by decide) (by decide),
        h (8 * r + 0) (by omega) (by omega), if_neg h0]
      obtain rfl | rfl | rfl | rfl | rfl | rfl | rfl | rfl := eq_of_le_seven (Nat.le_of_lt_succ hx) <;> rfl
  rw [transform2d, kernel8_eq _ hy, hrow 0 (by decide), hrow 1 (by decide), hrow 2 (by decide), hrow 3 (by decide),
    hrow 4 (by decide), hrow 5 (by decide), hrow 6 (by decide), hrow 7 (by decide)]
  obtain rfl | rfl | rfl | rfl | rfl | rfl | rfl | rfl := eq_of_le_seven (Nat.le_of_lt_succ hy) <;> simp [t8]

/-- Two residuals that agree on the block give the same write. -/
theorem addResidual_congr {pos : State → BlockPos} {n : Nat} {f g : State → Nat → Nat → Int}
    (h : ∀ i j, i < n → j < n → f s i j = g s i j) : addResidual pos n f s = addResidual pos n g s := by
  have hcells : s.putBlock (pos s).p (pos s).x (pos s).y n n (fun i j => s.clipPixel (s.sample (pos s).p ((pos s).x + i) ((pos s).y + j) + f s i j))
      = s.putBlock (pos s).p (pos s).x (pos s).y n n (fun i j => s.clipPixel (s.sample (pos s).p ((pos s).x + i) ((pos s).y + j) + g s i j)) := by
    have hmap : ((blockCoords n n).map fun c => (sampleIndex ((pos s).x + c.1) ((pos s).y + c.2),
          s.clipPixel (s.sample (pos s).p ((pos s).x + c.1) ((pos s).y + c.2) + f s c.1 c.2)))
        = (blockCoords n n).map fun c => (sampleIndex ((pos s).x + c.1) ((pos s).y + c.2),
          s.clipPixel (s.sample (pos s).p ((pos s).x + c.1) ((pos s).y + c.2) + g s c.1 c.2)) :=
      List.map_congr_left fun c hc => by rw [h c.1 c.2 (mem_blockCoords.mp hc).1 (mem_blockCoords.mp hc).2]
    rw [State.putBlock, State.putBlock, hmap]
  rw [addResidual, addResidual, Op.bind_ok (Op.read_run _ s), Op.bind_ok (Op.read_run _ s), updateBlock, updateBlock]
  cases hin : s.insidePlane (pos s).p (pos s).x (pos s).y n n
  · rw [Op.bind_error (Op.require_false _ hin), Op.bind_error (Op.require_false _ hin)]
  · rw [Op.bind_ok (Op.require_true _ hin), Op.bind_ok (Op.require_true _ hin), Op.modify_run, Op.modify_run, hcells]

/-- Zeroing coefficients that read 0 but for the first is zeroing the first. -/
theorem dropAll_first {c : Cells Word} (hc : Cells.wfZero c = true) {k w : Nat} (hw : 0 < w)
    (h : ∀ i, 1 ≤ i → i < w → Cells.lookZero c (k + i) = 0) :
    Cells.dropAll c (List.range' k w) = Cells.dropAll c (List.range' k 1) := by
  obtain ⟨w, rfl⟩ : ∃ m, w = m + 1 := ⟨w - 1, by omega⟩
  have hrest : Cells.dropAll (Cells.drop c k) (List.range' (k + 1) w) = Cells.drop c k := by
    refine Cells.dropAll_eq_self fun a ha => ?_
    obtain ⟨ha1, ha2⟩ := List.mem_range'_1.mp ha
    have hz := h (a - k) (by omega) (by omega)
    rw [Nat.add_sub_cancel' (by omega)] at hz
    rw [Cells.look_drop_ne (by omega)]
    exact Cells.look_eq_none_of_lookZero hc hz
  rw [List.range'_succ, Cells.dropAll, hrest]
  rfl

/-- Where the residuals agree on the block and what is zeroed is 0 but for the first, the two bodies do the same. -/
theorem addResidual_zeroCoefs_congr (hc : Cells.wfZero s.coefs.coef = true) {pos : State → BlockPos} {n k w : Nat}
    {f g : State → Nat → Nat → Int} (hw : 0 < w) (h : ∀ i j, i < n → j < n → f s i j = g s i j)
    (hz : ∀ i, 1 ≤ i → i < w → Cells.lookZero s.coefs.coef (k + i) = 0) :
    (do addResidual pos n f; zeroCoefs k w : Op Unit) s = (do addResidual pos n g; zeroCoefs k 1 : Op Unit) s := by
  rw [Op.bind_run, Op.bind_run, addResidual_congr h]
  cases hr : addResidual pos n g s with
  | error e u => rfl
  | ok a u =>
    have hcoefs : u.coefs = s.coefs := by
      rw [addResidual, Op.bind_ok (Op.read_run _ s), updateBlock] at hr
      obtain ⟨_, _, hreq, hmod⟩ := Op.bind_ok_iff.mp hr
      obtain ⟨-, rfl⟩ := Op.require_ok_iff.mp hreq
      cases hmod
      rfl
    show zeroCoefs k w u = zeroCoefs k 1 u
    rw [zeroCoefs, zeroCoefs, Op.modify_run, Op.modify_run, hcoefs, dropAll_first hc hw hz]

theorem coef_eq_zero_iff (s : State) (k : Nat) : s.coefAt k = 0 ↔ Cells.lookZero s.coefs.coef k = 0 :=
  ⟨fun h => BitVec.toInt_inj.mp (h.trans BitVec.toInt_zero.symm), fun h => (congrArg BitVec.toInt h).trans BitVec.toInt_zero⟩

theorem memWf_coef (h : s.memWf = true) : Cells.wfZero s.coefs.coef = true := by
  simp only [State.memWf, Bool.and_eq_true] at h
  obtain ⟨⟨⟨⟨⟨⟨⟨⟨⟨-, hcoefs⟩, -⟩, -⟩, -⟩, -⟩, -⟩, -⟩, -⟩, -⟩ := h
  simp only [Coefs.wf, Bool.and_eq_true] at hcoefs
  exact hcoefs.1.1

theorem idct4Add_eq_dc (hc : Cells.wfZero s.coefs.coef = true) {n : Nat}
    (h : ∀ k, 1 ≤ k → k < 16 → s.coefAt (16 * n + k) = 0) : idct4Add n s = idct4DcAdd n s :=
  addResidual_zeroCoefs_congr hc (by decide)
    (fun i j hi hj => by rw [State.residual, transform2d_kernel4 h hi hj]; rfl)
    fun i h1 h2 => (coef_eq_zero_iff s _).mp (h i h1 h2)

theorem idct8Add_eq_dc (hc : Cells.wfZero s.coefs.coef = true) {n : Nat}
    (h : ∀ k, 1 ≤ k → k < 64 → s.coefAt (64 * n + k) = 0) : idct8Add n s = idct8DcAdd n s :=
  addResidual_zeroCoefs_congr hc (by decide)
    (fun i j hi hj => by rw [State.residual, transform2d_kernel8 h hi hj]; rfl)
    fun i h1 h2 => (coef_eq_zero_iff s _).mp (h i h1 h2)

theorem command_congr {accepted legal : Bool} {m n : Op Unit} (h : m s = n s) :
    command accepted legal m s = command accepted legal n s := by
  rw [command, command, h]

/-! ### No coefficient at all -/

/-- A block with nothing added keeps its samples, whether it lies in the plane or the command ends otherwise. -/
theorem sample_eq_of_addResidual {accepted legal : Bool} {pos : State → BlockPos} {n k w x y p : Nat} {q : Nat}
    {f : State → Nat → Nat → Int} {b : Block} (hs : s.bitDepthLegal = true)
    (hpos : pos s = ⟨q, b.x, b.y⟩) (hw : b.w = n) (hh : b.h = n) (hq : q ≤ 2) (hf : ∀ i < n, ∀ j < n, f s i j = 0)
    (hsample : ∀ x y, s.sample p x y < 2 ^ s.bitDepth) (hx : x < s.planeW p) (hp : p ≤ 2)
    (ht : command accepted legal (do addResidual pos n f; zeroCoefs k w) s = .next t) :
    t.sample p x y = s.sample p x y := by
  cases hacc : accepted && legal
  · rw [command_reject hacc] at ht
    cases ht
    rfl
  cases hin : inPlane s q b
  · have hinside : s.insidePlane q b.x b.y n n = false := by rw [← hin, inPlane, hw, hh]; rfl
    have hstop : addResidual pos n f s = .error (.faulted .outOfRange) s := by
      rw [addResidual, Op.bind_ok (Op.read_run _ s), hpos]
      exact Op.bind_error (Op.require_false _ hinside)
    rw [command_run hacc, Op.bind_error hstop] at ht
    cases ht
  · obtain ⟨u, hu, heq, hgen, ⟨hblock, -, hother⟩, -⟩ := command_addResidual (m := w) (k := k) (g := fun _ _ => 0) hacc hs hpos hw hh hq hin hf
    have htu : u = t := by
      have := hu.symm.trans ht
      injection this
    subst htu
    have hdepth : u.bitDepth = s.bitDepth := by rw [heq]; rfl
    by_cases hpq : p = q
    · subst hpq
      have hclip : clip s (s.sample p x y : Nat) = (s.sample p x y : Nat) := by
        have hlt : ((s.sample p x y : Nat) : Int) < 2 ^ s.bitDepth := by exact_mod_cast hsample x y
        rw [clip]
        omega
      have hval := hblock x y hx
      simp only [Int.add_zero, hclip, ite_self] at hval
      exact Int.ofNat_inj.mp hval
    · exact State.sample_congr hdepth hgen (by rw [hother p hp hpq])

/-- Settles O54: with one coefficient the transform gives it everywhere, and zeroing what is 0 changes no canonical memory. -/
theorem dcOnlyEqualsFull : Obligations.DcOnlyEqualsFull := by
  refine fun s n hwf => ⟨fun h => command_congr (idct4Add_eq_dc (memWf_coef hwf) h),
    fun h => command_congr (idct8Add_eq_dc (memWf_coef hwf) h), fun t p x y hsample hs hx hp hcase => ?_⟩
  rcases hcase with ⟨hzero, ht⟩ | ⟨hzero, ht⟩
  · obtain ⟨hw, hh⟩ := samplesOf_size s n.toNat
    refine sample_eq_of_addResidual hs (s.blockPos_eq _) hw hh (samplesOf_plane_le ..) (fun i hi j hj => ?_) hsample hx hp ht
    rw [State.residual, transform2d_kernel4 (fun k _ hk => hzero k hk) hi hj, hzero 0 (by decide)]
    rfl
  · refine sample_eq_of_addResidual (b := quadrantOf s n.toNat) hs rfl rfl rfl (Nat.zero_le 2) (fun i hi j hj => ?_) hsample hx hp ht
    rw [State.residual, transform2d_kernel8 (fun k _ hk => hzero k hk) hi hj, hzero 0 (by decide)]
    rfl

end Sys2Proof.Machine
end

section
/-! Proofs. The DC transforms (45_reconstruction.md R430 to R434): what their loops put into the coefficient buffers. -/

namespace Sys2Proof.Machine

open Sys2Proof.Stated

variable {s t : State}

/-! ### The loops -/

/-- A loop each step of which puts one element in a space whose unlisted elements are 0. -/
theorem Op.each_putZeroList {α : Type} {w : Nat} {wr : Cells (BitVec w) → State} {body : α → Op Unit}
    {cell : α → Nat × BitVec w} {as : List α}
    (h : ∀ a ∈ as, ∀ c, body a (wr c) = .ok () (wr (Cells.putZero c (cell a).1 (cell a).2))) (c : Cells (BitVec w)) :
    Op.each as body (wr c) = .ok () (wr (Cells.putZeroList c (as.map cell))) := by
  induction as generalizing c with
  | nil => rfl
  | cons a as ih =>
    rw [Op.each_cons, Op.bind_ok (h a (by simp) c), ih fun b hb => h b (List.mem_cons_of_mem _ hb)]
    rfl

/-- The state with other coefficients. -/
def State.withCoef (s : State) (c : Cells Word) : State := { s with coefs := { s.coefs with coef := c } }

/-- The state with other chroma DC coefficients. -/
def State.withChromaDc (s : State) (c : Cells Word) : State := { s with coefs := { s.coefs with chromaDc := c } }

/-- `values`, each wrapped, for the first coefficients of blocks. -/
def State.firstCells (s : State) (values : List (Nat × Int)) : List (Nat × Word) :=
  values.map fun c => (16 * c.1, s.wrapCoef c.2)

theorem setFirstCoefs_ok (f : State → List (Nat × Int)) :
    setFirstCoefs f s = .ok () (s.withCoef (Cells.putZeroList s.coefs.coef (s.firstCells (f s)))) :=
  (Op.bind_ok (Op.read_run f s)).trans (Op.each_putZeroList (wr := s.withCoef) (fun _ _ _ => rfl) s.coefs.coef)

/-- `values`, each wrapped, for the elements of a chroma DC buffer. -/
def State.chromaCells (s : State) (c : Nat) (values : List (Nat × Int)) : List (Nat × Word) :=
  values.map fun v => (8 * c + v.1, s.wrapCoef v.2)

theorem setChromaDcs_ok (c : Nat) (values : List (Nat × Int)) :
    Op.each values (fun v => setChromaDc c v.1 v.2) s
      = .ok () (s.withChromaDc (Cells.putZeroList s.coefs.chromaDc (s.chromaCells c values))) :=
  Op.each_putZeroList (wr := s.withChromaDc) (fun _ _ _ => rfl) s.coefs.chromaDc

/-! ### What is read then -/

theorem toInt_wrapCoef (s : State) (v : Int) : (s.wrapCoef v).toInt = wrapped s v := by
  rw [State.wrapCoef, State.wCoef, wrapped]
  by_cases h : s.bitDepth = 8
  · rw [if_pos (show s.bitDepth = Config.minBitDepth from h), if_pos h]
    have h1 := (BitVec.ofInt 16 v).toInt_lt
    have h2 := (BitVec.ofInt 16 v).le_toInt
    exact BitVec.toInt_ofInt_eq_self (by decide) (by omega) (by omega)
  · rw [if_neg (show ¬ s.bitDepth = Config.minBitDepth from h), if_neg h, BitVec.ofInt_toInt]

section
variable {N : Nat} {f : Nat → Int} {c : Cells Word} {idx : Nat → Nat}

/-- The values `f 0` to `f (N - 1)`, wrapped, at the indexes `idx`: each index reads its own. -/
theorem lookZero_wrapped (hidx : ∀ i j, i < N → j < N → idx i = idx j → i = j) {k : Nat} (hk : k < N) :
    (Cells.lookZero (Cells.putZeroList c ((List.range N).map fun i => (idx i, s.wrapCoef (f i)))) (idx k)).toInt
      = wrapped s (f k) := by
  have hlook : Cells.lookZero (Cells.putZeroList c ((List.range N).map fun i => (idx i, s.wrapCoef (f i)))) (idx k)
      = s.wrapCoef (f k) := by
    refine Cells.lookZero_putZeroList_eq _ c ⟨_, List.mem_map_of_mem (List.mem_range.mpr hk), rfl⟩ fun e he heq => ?_
    obtain ⟨i, hi, rfl⟩ := List.mem_map.mp he
    rw [hidx i k (List.mem_range.mp hi) hk heq]
  rw [hlook, toInt_wrapCoef]

theorem lookZero_wrapped_ne {k : Nat} (hk : ∀ i, i < N → k ≠ idx i) :
    Cells.lookZero (Cells.putZeroList c ((List.range N).map fun i => (idx i, s.wrapCoef (f i)))) k = Cells.lookZero c k := by
  refine Cells.lookZero_putZeroList_ne _ c fun e he heq => ?_
  obtain ⟨i, hi, rfl⟩ := List.mem_map.mp he
  exact hk i (List.mem_range.mp hi) heq.symm

end

/-! ### The Hadamard sums -/

theorem hadamard_eq : ∀ i < 4, ∀ j < 4, hadamard i j = hadamardAt i j := by decide

theorem block_div_four : ∀ n < 16, blockX n / 4 = bx n ∧ blockY n / 4 = byRow n ∧ bx n < 4 ∧ byRow n < 4 := by decide

theorem lumaHadamard_eq (s : State) {n : Nat} (hn : n < 16) : s.lumaHadamard (byRow n) (bx n) =
    sumOfFour fun k => sumOfFour fun j => hadamardAt (blockY n / 4) k * s.lumaDcAt (j + 4 * k) * hadamardAt j (blockX n / 4) := by
  obtain ⟨hx, hy, hx4, hy4⟩ := block_div_four n hn
  rw [hx, hy]
  simp only [State.lumaHadamard, sum4, sumOfFour, hadamard_eq _ hy4 _ (by decide : 0 < 4), hadamard_eq _ hy4 _ (by decide : 1 < 4),
    hadamard_eq _ hy4 _ (by decide : 2 < 4), hadamard_eq _ hy4 _ (by decide : 3 < 4), hadamard_eq _ (by decide : 0 < 4) _ hx4,
    hadamard_eq _ (by decide : 1 < 4) _ hx4, hadamard_eq _ (by decide : 2 < 4) _ hx4, hadamard_eq _ (by decide : 3 < 4) _ hx4]

/-- The row sum of 4:2:2 chroma with `g` of the two columns. -/
def rowOf (s : State) (c y : Nat) (g : Int → Int → Int) : Int :=
  sumOfFour fun k => hadamardAt y k * g (s.chromaDcAt c (2 * k)) (s.chromaDcAt c (2 * k + 1))

theorem chroma422Hadamard_eq (s : State) (c : Nat) {y : Nat} (hy : y < 4) :
    s.chroma422Hadamard c y 0 = rowOf s c y (fun u v => u + v) ∧ s.chroma422Hadamard c y 1 = rowOf s c y (fun u v => u - v) := by
  simp only [State.chroma422Hadamard, rowOf, sum4, sumOfFour, hadamard_eq _ hy _ (by decide : 0 < 4),
    hadamard_eq _ hy _ (by decide : 1 < 4), hadamard_eq _ hy _ (by decide : 2 < 4), hadamard_eq _ hy _ (by decide : 3 < 4)]
  exact ⟨rfl, rfl⟩

/-! ### The bodies -/

/-- What R430 gives block `n`. -/
def State.lumaDcValue (s : State) (q n : Nat) : Int := (s.lumaHadamard (byRow n) (bx n) * q + 128) >>> 8

theorem lumaDcDequantIdct_ok (q : Nat) : lumaDcDequantIdct q s = .ok () { s with
    coefs := { s.coefs with
      coef := Cells.putZeroList s.coefs.coef ((List.range 16).map fun n => (16 * n, s.wrapCoef (s.lumaDcValue q n)))
      lumaDc := [] } } := by
  rw [lumaDcDequantIdct, Op.bind_ok (setFirstCoefs_ok _), State.firstCells, List.map_map]
  rfl

/-- What R432 gives block `k` of plane `c`. -/
def State.chromaDcValue (s : State) (c q k : Nat) : Int := (s.chromaHadamard c (k / 2) (k % 2) * q) >>> 7

theorem chromaDcDequantIdct_ok (c q : Nat) : chromaDcDequantIdct c q s = .ok () { s with
    coefs := { s.coefs with
      coef := Cells.putZeroList s.coefs.coef
        ((List.range 4).map fun k => (16 * (16 + 4 * c + k), s.wrapCoef (s.chromaDcValue c q k)))
      chromaDc := Cells.dropAll s.coefs.chromaDc (List.range' (8 * c) 4) } } := by
  rw [chromaDcDequantIdct, Op.bind_ok (setFirstCoefs_ok _), State.firstCells, List.map_map]
  rfl

/-- What R434 gives element `k` of the buffer of plane `c`. -/
def State.chroma422Value (s : State) (c q k : Nat) : Int := (s.chroma422Hadamard c (k / 2) (k % 2) * q + 128) >>> 8

theorem chroma422DcDequantIdct_ok (c q : Nat) : chroma422DcDequantIdct c q s = .ok () (s.withChromaDc
    (Cells.putZeroList s.coefs.chromaDc ((List.range 8).map fun k => (8 * c + k, s.wrapCoef (s.chroma422Value c q k))))) := by
  rw [chroma422DcDequantIdct, Op.bind_ok (Op.read_run _ s), setChromaDcs_ok, State.chromaCells, List.map_map]
  rfl

/-! ### The commands -/

theorem exec_lumaDc (he : s.engine = .run) (d : Word) : ∃ t, exec (.lumaDcDequantIdct d) s = .next t
    ∧ t = { s with coefs := t.coefs, status := .ended .ok }
    ∧ (∀ n, n < 16 → t.coefAt (16 * n) = wrapped s
        ((sumOfFour (fun k => sumOfFour fun j =>
          hadamardAt (blockY n / 4) k * s.lumaDcAt (j + 4 * k) * hadamardAt j (blockX n / 4)) * d.toNat + 128) / 256))
    ∧ (∀ k, (k % 16 ≠ 0 ∨ 256 ≤ k) → t.coefAt k = s.coefAt k) ∧ (∀ k, t.lumaDcAt k = 0)
    ∧ t.coefs.chromaDc = s.coefs.chromaDc := by
  refine ⟨_, command_ok (accepts_run he rfl) (lumaDcDequantIdct_ok d.toNat), rfl, fun n hn => ?_,
    fun k hk => congrArg BitVec.toInt (lookZero_wrapped_ne (idx := fun n => 16 * n) fun i hi => ?_), fun k => rfl, rfl⟩
  · refine (lookZero_wrapped (idx := fun n => 16 * n) (fun i j _ _ h => ?_) hn).trans ?_
    · omega
    · rw [State.lumaDcValue, lumaHadamard_eq s hn]
      exact congrArg (wrapped s) (shiftRight_eight _)
  · omega

theorem exec_chromaDc (he : s.engine = .run) {a : BitVec 8} (d : Word) (ha : a.toNat ≤ 1) :
    ∃ t, exec (.chromaDcDequantIdct a d) s = .next t
      ∧ t = { s with coefs := t.coefs, status := .ended .ok }
      ∧ (let v := fun k => s.chromaDcAt a.toNat k
         let at' := fun k => t.coefAt (16 * (16 + 4 * a.toNat + k))
         let out := fun (f : Int) => wrapped s (f * d.toNat / 128)
         at' 0 = out (v 0 + v 1 + v 2 + v 3) ∧ at' 1 = out (v 0 - v 1 + v 2 - v 3)
         ∧ at' 2 = out (v 0 + v 1 - v 2 - v 3) ∧ at' 3 = out (v 0 - v 1 - v 2 + v 3))
      ∧ (∀ k, (∀ j, j < 4 → k ≠ 16 * (16 + 4 * a.toNat + j)) → t.coefAt k = s.coefAt k)
      ∧ t.coefs.lumaDc = s.coefs.lumaDc
      ∧ (∀ k, k < 4 → t.chromaDcAt a.toNat k = 0)
      ∧ ∀ k, (k < 8 * a.toNat ∨ 8 * a.toNat + 4 ≤ k) → t.chromaDcAt 0 k = s.chromaDcAt 0 k := by
  refine ⟨_, command_ok (accepts_run he (decide_eq_true ha)) (chromaDcDequantIdct_ok a.toNat d.toNat), rfl, ?_,
    fun k hk => congrArg BitVec.toInt (lookZero_wrapped_ne (idx := fun j => 16 * (16 + 4 * a.toNat + j)) hk), rfl,
    fun k hk => ?_, fun k hk => ?_⟩
  · have hvalue (k : Nat) (hk : k < 4) : (Cells.lookZero (Cells.putZeroList s.coefs.coef
        ((List.range 4).map fun k => (16 * (16 + 4 * a.toNat + k), s.wrapCoef (s.chromaDcValue a.toNat d.toNat k))))
        (16 * (16 + 4 * a.toNat + k))).toInt = wrapped s (s.chromaHadamard a.toNat (k / 2) (k % 2) * d.toNat / 128) := by
      refine (lookZero_wrapped (idx := fun j => 16 * (16 + 4 * a.toNat + j)) (fun i j _ _ h => ?_) hk).trans ?_
      · omega
      · exact congrArg (wrapped s) (shiftRight_seven _)
    exact ⟨hvalue 0 (by decide), hvalue 1 (by decide), hvalue 2 (by decide), hvalue 3 (by decide)⟩
  · rw [State.chromaDcAt, Cells.lookZero_dropAll, if_pos (List.mem_range'_1.mpr (by omega))]
    rfl
  · rw [State.chromaDcAt, Cells.lookZero_dropAll, if_neg (mt List.mem_range'_1.mp (by omega))]
    rfl

theorem exec_chroma422Dc (he : s.engine = .run) {a : BitVec 8} (d : Word) (ha : a.toNat ≤ 1) :
    ∃ t, exec (.chroma422DcDequantIdct a d) s = .next t
      ∧ t = { s with coefs := { s.coefs with chromaDc := t.coefs.chromaDc }, status := .ended .ok }
      ∧ (∀ y, y < 4 →
          t.chromaDcAt a.toNat (2 * y) = wrapped s ((rowOf s a.toNat y (fun u v => u + v) * d.toNat + 128) / 256)
          ∧ t.chromaDcAt a.toNat (2 * y + 1) = wrapped s ((rowOf s a.toNat y (fun u v => u - v) * d.toNat + 128) / 256))
      ∧ ∀ k, (k < 8 * a.toNat ∨ 8 * a.toNat + 8 ≤ k) → t.chromaDcAt 0 k = s.chromaDcAt 0 k := by
  refine ⟨_, command_ok (accepts_run he (decide_eq_true ha)) (chroma422DcDequantIdct_ok a.toNat d.toNat), rfl, fun y hy => ?_,
    fun k hk => congrArg BitVec.toInt (lookZero_wrapped_ne (idx := fun j => 8 * a.toNat + j) fun i hi => by omega)⟩
  have hvalue (k : Nat) (hk : k < 8) : (Cells.lookZero (Cells.putZeroList s.coefs.chromaDc
      ((List.range 8).map fun k => (8 * a.toNat + k, s.wrapCoef (s.chroma422Value a.toNat d.toNat k))))
      (8 * a.toNat + k)).toInt = wrapped s ((s.chroma422Hadamard a.toNat (k / 2) (k % 2) * d.toNat + 128) / 256) :=
    (lookZero_wrapped (idx := fun j => 8 * a.toNat + j) (fun _ _ _ _ h => Nat.add_left_cancel h) hk).trans
      (congrArg (wrapped s) (shiftRight_eight _))
  obtain ⟨hsum, hdiff⟩ := chroma422Hadamard_eq s a.toNat hy
  refine ⟨(hvalue (2 * y) (by omega)).trans ?_, (hvalue (2 * y + 1) (by omega)).trans ?_⟩
  · rw [show 2 * y / 2 = y by omega, show 2 * y % 2 = 0 by omega, hsum]
  · rw [show (2 * y + 1) / 2 = y by omega, show (2 * y + 1) % 2 = 1 by omega, hdiff]

/-- Settles O55: each clause is the rule of its command above. -/
theorem dcTransforms : Obligations.DcTransforms := fun _ _ d he =>
  ⟨exec_lumaDc he d, exec_chromaDc he d, exec_chroma422Dc he d⟩

end Sys2Proof.Machine
end

section
/-! Proofs. `INTRA_PRED` (45_reconstruction.md R440). -/

namespace Sys2Proof.Machine

open Sys2Proof.Stated

variable {s t : State}

theorem intraMode_ok {kind n mode : Nat} (h : intraModeOf s kind n = some mode) : intraMode kind n s = .ok mode s := by
  match kind with
  | 0 | 1 =>
    obtain ⟨m, hm, rfl⟩ := Option.map_eq_some_iff.mp h
    exact Op.bind_ok (Op.need_some hm)
  | 2 => exact Op.need_some (f := fun s => s.mb.i16Mode.map BitVec.toNat) h
  | _ + 3 => exact Op.need_some (f := fun s => s.mb.chromaMode.map BitVec.toNat) h

theorem intraMode_undef {kind n : Nat} (h : intraModeOf s kind n = none) :
    intraMode kind n s = .error (.faulted .uninitialisedRead) s := by
  match kind with
  | 0 | 1 => exact Op.bind_error (Op.need_none (Option.map_eq_none_iff.mp h))
  | 2 => exact Op.need_none (f := fun s => s.mb.i16Mode.map BitVec.toNat) h
  | _ + 3 => exact Op.need_none (f := fun s => s.mb.chromaMode.map BitVec.toNat) h

theorem nbIntra_ok {left top topLeft topRight : Bool} (h0 : Cells.look s.nbIntra 0 = some left)
    (h1 : Cells.look s.nbIntra 1 = some top) (h2 : Cells.look s.nbIntra 2 = some topLeft)
    (h3 : Cells.look s.nbIntra 3 = some topRight) :
    Op.collect (List.range 4) nbIntraAt s = .ok [left, top, topLeft, topRight] s := by
  have hrange : List.range 4 = [0, 1, 2, 3] := rfl
  have hread {k : Nat} {b : Bool} (h : Cells.look s.nbIntra k = some b) : nbIntraAt k s = .ok b s := Op.need_some h
  simp only [hrange, Op.collect_cons, Op.collect_nil, Op.bind_run, hread h0, hread h1, hread h2, hread h3, Op.pure_run]

/-- The block of each kind, as the model places it. -/
theorem intraPos_eq {kind n p : Nat} {b : Block} (hk : kind ≤ 3) (h2 : kind = 2 → n = 0) (h3 : kind = 3 → n = 16 ∨ n = 20)
    (h : intraBlockOf s kind n = (p, b)) : ∃ w, s.intraPos kind n = (⟨p, b.x, b.y⟩, w) ∧ b.w = w ∧ b.h = w ∧ p ≤ 2 := by
  obtain rfl : p = (intraBlockOf s kind n).1 := by rw [h]
  obtain rfl : b = (intraBlockOf s kind n).2 := by rw [h]
  match kind, hk with
  | 0, _ =>
    obtain ⟨hw, hh⟩ := samplesOf_size s n
    exact ⟨4, congrArg (fun b => (b, 4)) (s.blockPos_eq n), hw, hh, samplesOf_plane_le s n⟩
  | 1, _ => exact ⟨8, rfl, rfl, rfl, Nat.zero_le 2⟩
  | 2, _ => exact ⟨16, rfl, rfl, rfl, Nat.zero_le 2⟩
  | 3, _ =>
    rcases h3 rfl with rfl | rfl
    · exact ⟨8, rfl, rfl, rfl, Nat.le_succ 1⟩
    · exact ⟨8, rfl, rfl, rfl, Nat.le_refl 2⟩

theorem intraPred_run {kind n mode w : Nat} {left top topLeft topRight : Bool} {p : Nat} {b : Block}
    (hm : intraModeOf s kind n = some mode) (h0 : Cells.look s.nbIntra 0 = some left)
    (h1 : Cells.look s.nbIntra 1 = some top) (h2 : Cells.look s.nbIntra 2 = some topLeft)
    (h3 : Cells.look s.nbIntra 3 = some topRight) (hpos : s.intraPos kind n = (⟨p, b.x, b.y⟩, w)) (hw : b.w = w) (hh : b.h = w) :
    intraPred kind n s = updateBlock p b.x b.y b.w b.h (fun u i j => BitVec.ofNat 14 (Config.intraPredict
      (s.intraArgs kind mode n [left, top, topLeft, topRight]) i j % 2 ^ u.bitDepth)) s := by
  rw [intraPred, Op.bind_ok (intraMode_ok hm), Op.bind_ok (nbIntra_ok h0 h1 h2 h3), Op.bind_ok (Op.read_run _ s),
    Op.bind_ok (Op.read_run _ s), hpos, hw, hh]

/-- Settles O56: the block of the kind takes what the predictor gives, which is a sample. -/
theorem intraPrediction : Obligations.IntraPrediction := by
  intro s kind n he hs hwf hchroma
  have hlegal : (Legal.intraBlock kind n && decide (kind ≠ 3 ∨ s.chromaFormat ≠ 0)) = true := by
    refine Bool.and_eq_true_iff.mpr ⟨hwf, decide_eq_true ?_⟩
    by_cases hk : kind.toNat = 3
    · exact Or.inr (hchroma hk)
    · exact Or.inl fun h => hk (by rw [h]; rfl)
  obtain ⟨hk, h2, h3⟩ : kind.toNat ≤ 3 ∧ (kind.toNat = 2 → n.toNat = 0) ∧ (kind.toNat = 3 → n.toNat = 16 ∨ n.toNat = 20) := by
    have hblock : Legal.intraBlock kind n = true := hwf
    rw [Legal.intraBlock] at hblock
    split at hblock <;> simp_all
  refine ⟨fun mode left top topLeft topRight p b hm hl ht htl htr hpos hin => ?_, fun hm => ?_⟩
  · obtain ⟨w, hpos, hw, hh, hp⟩ := intraPos_eq hk h2 h3 hpos
    refine command_updateBlock (accepts_run he hlegal) (intraPred_run hm hl ht htl htr hpos hw hh) hp hin fun x y _ => ?_
    have hdepth : s.bitDepth ≤ 14 := (of_decide_eq_true hs).2
    have hlt (v : Nat) : v % 2 ^ s.bitDepth < 2 ^ 14 :=
      Nat.lt_of_lt_of_le (Nat.mod_lt _ (Nat.two_pow_pos _)) (Nat.pow_le_pow_right Nat.two_pos hdepth)
    rw [BitVec.toNat_ofNat, Nat.mod_eq_of_lt (hlt _), State.intraArgs, hpos]
  · show command s.isRun _ _ s = _
    rw [command_run (accepts_run he hlegal), intraPred, Op.bind_error (intraMode_undef hm)]
    rfl

end Sys2Proof.Machine
end

section
/-! Proofs. Taking one bitstream element alone (30_encoding.md R110 to R121): where it is expected its place is accepted, and its
effect is the registers of the step that reads it. -/

namespace Sys2Proof.Machine

open Sys2Proof.Stated

variable {s t : State}

theorem require_and_ok {a b : State → Bool} {e : Stop} (ha : a s = true) (hb : b s = true) :
    Op.require (fun s => a s && b s) e s = .ok () s := Op.require_true e (Bool.and_eq_true_iff.mpr ⟨ha, hb⟩)

theorem expectTable_ok (hr : reading s = true) (hv : s.vlcReady = true) :
    Op.require (fun s => s.isIdleOrRun && s.vlcReady) (.rejected .illegalCommand) s = .ok () s := require_and_ok hr hv

/-- The block is open, and the three numbers the tables of R218 are selected by are as the element needs them. -/
theorem expectZeros_ok {tc : Nat} {mc : BitVec 5} {c : Nat × Nat → Prop} [DecidablePred c] (hr : reading s = true)
    (hv : s.vlcReady = true) (htc : s.totalCoeff.map BitVec.toNat = some tc) (h1 : 1 ≤ tc) (hmc : s.maxCoeff = some mc)
    (hle : tc ≤ mc.toNat) (hc : c (tc, mc.toNat)) : (do
      Op.require (fun s => s.isIdleOrRun && s.vlcReady) (.rejected .illegalCommand)
      let b ← needBlock
      Op.require (fun _ => decide (c b)) (.rejected .illegalCommand) : Op Unit) s = .ok () s := by
  obtain ⟨total, htotal, rfl⟩ := Option.map_eq_some_iff.mp htc
  rw [Op.bind_ok (expectTable_ok hr hv), Op.bind_ok (needBlock_ok htotal hmc h1 hle)]
  exact Op.require_true _ (decide_eq_true hc)

theorem expectMbType_ok {sl : SliceType} (he : s.engine = .run) (hsl : s.sliceType = sl) :
    Op.require (fun s => s.isRun && decide (s.sliceType = sl)) (.rejected .illegalCommand) s = .ok () s :=
  require_and_ok (b := fun s => decide (s.sliceType = sl)) (isRun_of_run he) (decide_eq_true hsl)

theorem expectSub_ok {sl : SliceType} (he : s.engine = .run) (hsl : s.sliceType = sl) (hk : s.mb.kind = some .inter8x8)
    (i : BitVec 2) : expectElement (.subMbType sl i) s = .ok () s := by
  have hkind : mbKind s = .ok .inter8x8 s := Op.need_some hk
  rw [expectElement, Op.bind_ok (expectMbType_ok he hsl), Op.bind_ok hkind]
  rfl

theorem expectElement_ok {el : Element} (h : expects s el) : expectElement el.ctx s = .ok () s := by
  cases el
  case u | ue | se | te1 | te2 | teN | levelSuffix | sign => exact Op.require_true _ h
  case levelPrefix => exact Op.require_true _ h.1
  case iMb | pMb | bMb => exact expectMbType_ok h.1 h.2
  case pSub i | bSub i => exact expectSub_ok h.1 h.2.1 h.2.2 i
  case token => exact require_and_ok h.1 h.2
  case zeros =>
    obtain ⟨hr, hv, htc, h1, mc, hmc, hlt, h4, h8⟩ := h
    exact expectZeros_ok hr hv htc h1 hmc (Nat.le_of_lt hlt) ⟨rfl, Nat.ne_of_lt hlt, h4, h8⟩
  case chromaDcZeros =>
    obtain ⟨hr, hv, htc, h1, hlt, hmc⟩ := h
    exact expectZeros_ok hr hv htc h1 hmc (Nat.le_of_lt hlt) ⟨rfl, Nat.ne_of_lt hlt, rfl⟩
  case chroma422DcZeros =>
    obtain ⟨hr, hv, htc, h1, hlt, hmc⟩ := h
    exact expectZeros_ok hr hv htc h1 hmc (Nat.le_of_lt hlt) ⟨rfl, Nat.ne_of_lt hlt, rfl⟩
  case run =>
    obtain ⟨hr, hv, z, hz, -, hzl⟩ := h
    rw [Element.ctx, expectElement, Op.bind_ok (expectTable_ok hr hv), Op.bind_ok (zerosLeft_run hz)]
    exact Op.require_true _ (decide_eq_true hzl)

theorem ofInt_sub_natCast (z : BitVec 6) (r : Nat) : BitVec.ofInt 6 (z.toInt - r) = z - BitVec.ofNat 6 r := by
  have hadd : z.toInt - r = z.toInt + -(r : Int) := Int.sub_eq_add_neg
  rw [hadd, BitVec.ofInt_add, BitVec.ofInt_toInt, BitVec.ofInt_neg, BitVec.ofInt_natCast, BitVec.sub_eq_add_neg]

theorem elementEffect_ok {el : Element} (h : expects s el) : elementEffect el s = .ok () (afterElement s el) := by
  cases el
  case u | ue | te2 | teN | levelSuffix => exact setRes_natCast _ s
  case se | te1 | iMb | pMb | bMb | pSub | bSub | zeros | chromaDcZeros | chroma422DcZeros => rfl
  case sign neg => cases neg <;> rfl
  case levelPrefix p =>
    rw [elementEffect, Op.bind_ok (Op.require_true _ (decide_eq_true h.2)), setRes_natCast]
    rfl
  case token sel _ _ =>
    rw [afterElement, ofNat_classSize]
    rfl
  case run zl r =>
    obtain ⟨-, -, z, hz, hle, -⟩ := h
    rw [elementEffect, Op.bind_ok (zerosLeft_run hz), useRun_ok s hle, afterElement, afterRun, hz, ofInt_sub_natCast]
    rfl

theorem takeElement_ok {el : Element} (h : expects s el) (hb : s.bitpos + el.bits.length ≤ s.bsLen) :
    takeElement el s = .ok () { afterElement s el with bitpos := s.bitpos + el.bits.length } := by
  have hmoved : expects { s with bitpos := s.bitpos + el.bits.length } el := by cases el <;> exact h
  rw [takeElement, Op.bind_ok (expectElement_ok h), Op.bind_ok (skipBits_ok hb), elementEffect_ok hmoved]
  cases el <;> rfl

/-- Settles O60. -/
theorem elementsComplete : Obligations.ElementsComplete := by
  intro i el s hi hwf h hb
  rw [exec_of_element hi]
  exact command_ok (Bool.and_eq_true_iff.mpr ⟨rfl, (toInstr_of_element hi).2.trans hwf⟩) (takeElement_ok h hb)

end Sys2Proof.Machine
end

section
/-! Proofs. `CACHE_FILL` (42_neighbor_cache.md R252 to R260): what the neighbours' entries answer, and the slots the loops write. -/

namespace Sys2Proof.Machine

open Sys2Proof.Stated

variable {s t : State}

/-! ### The neighbours -/

/-- The model's neighbour is the statements': what is not available answers "not available", and what is has its entries. -/
structure Describes (s : State) (nb : Neighbor) (x : Option Nat) : Prop where
  av : nb.av = x.isSome
  avi : nb.avi = intraOk s x
  mb : ∀ m, x = some m → nb.mb = m
  written : ∀ m, x = some m → entriesWritten s m = true

theorem describes_none (s : State) (m : Nat) : Describes s ⟨m, false, false⟩ none :=
  ⟨rfl, rfl, by rintro _ ⟨⟩, by rintro _ ⟨⟩⟩

section
variable {m : Nat} (h : entriesWritten s m = true)
include h

theorem entries_kind : ∃ k, kindOf s m = some k := by
  simp only [entriesWritten, Bool.and_eq_true] at h
  obtain ⟨⟨⟨hk, -⟩, -⟩, -⟩ := h
  exact Option.isSome_iff_exists.mp hk

theorem entries_nnz {n : Nat} (hn : n < 24) : (Cells.look s.pic.arrays.nnz (24 * m + n)).isSome = true := by
  simp only [entriesWritten, Bool.and_eq_true, List.all_eq_true, List.mem_range] at h
  obtain ⟨⟨⟨-, hnnz⟩, -⟩, -⟩ := h
  exact hnnz n hn

theorem entries_i4 (hk : kindOf s m = some .intra4x4) {n : Nat} (hn : n < 16) :
    (Cells.look s.pic.arrays.i4 (16 * m + n)).isSome = true := by
  simp only [entriesWritten, Bool.and_eq_true, Bool.or_eq_true, List.all_eq_true, List.mem_range, decide_eq_true_iff] at h
  obtain ⟨⟨-, hi4⟩, -⟩ := h
  exact hi4.resolve_left (not_not_intro hk) n hn

theorem entries_motion {l : Nat} (hl : l < s.listCount) :
    (∀ q < 4, (Cells.look s.pic.arrays.ref (4 * (2 * m + l) + q)).isSome = true)
      ∧ ∀ n < 16, (Cells.look s.pic.arrays.mv (16 * (2 * m + l) + n)).isSome = true := by
  simp only [entriesWritten, Bool.and_eq_true, List.all_eq_true, List.mem_range] at h
  exact h.2 l hl

end

theorem picKindAt_ok {m : Nat} {k : MbKind} {u : State} (hpic : u.pic = s.pic) (h : kindOf s m = some k) :
    picKindAt m u = .ok k u := by
  refine Op.need_some ?_
  rw [kindOf] at h
  rw [hpic]
  cases hlook : Cells.look s.pic.arrays.mbType m with
  | none => rw [hlook] at h; exact h
  | some mb => rw [hlook] at h; exact h

theorem intra_iff (k : MbKind) : k.intra = decide (some k = some .intra4x4 ∨ some k = some .intra16x16 ∨ some k = some .intraPcm) := by
  cases k <;> rfl

theorem intraAvailable_ok {m : Nat} (h : entriesWritten s m = true) :
    intraAvailable m s = .ok (intraOk s (some m)) s := by
  obtain ⟨k, hk⟩ := entries_kind h
  rw [intraAvailable, Op.bind_ok (Op.read_run _ s), intraOk]
  cases s.constrainedIntraPred
  · rfl
  · rw [if_pos rfl, Op.bind_ok (picKindAt_ok rfl hk), intra_iff, hk]
    rfl

/-- The neighbour's slice number is known, and an available neighbour's entries are written. -/
def knownAt (s : State) (dx dy : Int) : Bool :=
  match existing s dx dy with
  | none => true
  | some mb => (s.picSlice mb).isSome && (decide (s.picSlice mb ≠ some s.sliceNum) || entriesWritten s mb)

theorem neighborAt_ok {dx dy : Int} (h : knownAt s dx dy = true) :
    ∃ nb, neighborAt dx dy s = .ok nb s ∧ Describes s nb (neighbour s dx dy) := by
  have hfound : s.neighborMb dx dy = existing s dx dy := rfl
  rw [neighborAt, Op.bind_ok (Op.read_run _ s), hfound, neighbour]
  rw [knownAt] at h
  cases hx : existing s dx dy with
  | none => exact ⟨_, rfl, describes_none s 0⟩
  | some m =>
    rw [hx] at h
    simp only [Bool.and_eq_true, Bool.or_eq_true, decide_eq_true_iff] at h
    obtain ⟨hslice, hwritten⟩ := h
    obtain ⟨slice, hslice⟩ := Option.isSome_iff_exists.mp hslice
    dsimp only
    rw [Op.bind_ok (Op.need_some hslice), Op.bind_ok (Op.read_run _ s), hslice]
    by_cases heq : slice = s.sliceNum
    · have hentries := hwritten.resolve_left (by rw [hslice, heq]; exact not_not_intro rfl)
      rw [if_pos heq, if_pos (congrArg some heq), Op.bind_ok (intraAvailable_ok hentries)]
      exact ⟨_, rfl, rfl, rfl, fun _ h => Option.some.inj h, fun _ h => Option.some.inj h ▸ hentries⟩
    · rw [if_neg heq, if_neg fun h => heq (Option.some.inj h)]
      exact ⟨_, rfl, describes_none s m⟩

/-! ### What a neighbour answers -/

section
variable {nb : Neighbor} {x : Option Nat} (hd : Describes s nb x) {u : State} (hpic : u.pic = s.pic)
include hd hpic

theorem borderNnz_ok {n : Nat} (hn : n < 24) :
    borderNnz nb n u = .ok ((borderCount s x n).getD 0) u ∧ (borderCount s x n).isSome = true := by
  obtain ⟨hav, -, hmb, hw⟩ := hd
  rw [borderNnz, hav]
  cases x with
  | none => exact ⟨rfl, rfl⟩
  | some m =>
    have hsome := entries_nnz (hw m rfl) hn
    refine ⟨?_, hsome⟩
    rw [Option.isSome_some, if_pos rfl, hmb m rfl]
    refine Op.need_some ?_
    rw [hpic]
    exact some_getD_of_isSome hsome 0

/-- Is the neighbour one whose own modes are taken? -/
def ownModesOf (s : State) (x : Option Nat) : Bool :=
  match x with
  | none => false
  | some m => intraOk s x && decide (kindOf s m = some .intra4x4)

theorem borderIs4x4_ok : borderIs4x4 nb u = .ok (ownModesOf s x) u := by
  obtain ⟨-, havi, hmb, hw⟩ := hd
  rw [borderIs4x4, havi]
  cases x with
  | none => rfl
  | some m =>
    obtain ⟨k, hk⟩ := entries_kind (hw m rfl)
    rw [ownModesOf, hmb m rfl]
    cases intraOk s (some m)
    · rfl
    · rw [if_pos rfl, Op.bind_ok (picKindAt_ok hpic hk), hk, Bool.true_and, Op.pure_run]
      simp only [Option.some.injEq]

theorem borderI4_ok {n : Nat} (hn : n < 16) :
    borderI4 nb (ownModesOf s x) n u = .ok ((borderMode s x n).getD 0) u ∧ (borderMode s x n).isSome = true := by
  obtain ⟨-, havi, hmb, hw⟩ := hd
  rw [borderI4, havi]
  cases x with
  | none => exact ⟨rfl, rfl⟩
  | some m =>
    rw [ownModesOf, borderMode, hmb m rfl]
    cases intraOk s (some m)
    · exact ⟨rfl, rfl⟩
    · by_cases hk : kindOf s m = some .intra4x4
      · have hsome := entries_i4 (hw m rfl) hk hn
        have hread : picI4At m n u = .ok _ u := Op.need_some (by rw [hpic]; exact some_getD_of_isSome hsome 0)
        rw [decide_eq_true hk, if_pos rfl, if_pos hk]
        exact ⟨hread, hsome⟩
      · rw [decide_eq_false hk, if_pos rfl, if_neg hk]
        exact ⟨rfl, rfl⟩

theorem fetchMotion_ok {l q n : Nat} (hl : l < s.listCount) (hq : q < 4) (hn : n < 16) :
    fetchMotion nb l q n u = .ok ((borderRef s l x q).getD 0, (borderMv s l x q n).getD Mv.zero) u
      ∧ (borderRef s l x q).isSome = true ∧ (borderMv s l x q n).isSome = true := by
  obtain ⟨hav, -, hmb, hw⟩ := hd
  rw [fetchMotion, hav]
  cases x with
  | none => exact ⟨rfl, rfl, rfl⟩
  | some m =>
    obtain ⟨hrefs, hmvs⟩ := entries_motion (hw m rfl) hl
    obtain ⟨r, hr⟩ := Option.isSome_iff_exists.mp (hrefs q hq)
    have href : picRefAt l m q u = .ok r u := Op.need_some (by rw [hpic]; exact hr)
    rw [Option.isSome_some, if_pos rfl, hmb m rfl, Op.bind_ok href, borderRef, borderMv, hr, isRef]
    dsimp only
    by_cases h0 : 0 ≤ r.toInt
    · obtain ⟨v, hv⟩ := Option.isSome_iff_exists.mp (hmvs n hn)
      have hmv : picMvAt l m n u = .ok v u := Op.need_some (by rw [hpic]; exact hv)
      rw [if_pos (decide_eq_true h0), Op.bind_ok hmv, if_neg (by omega), hv]
      exact ⟨rfl, rfl, rfl⟩
    · rw [if_neg (by rw [decide_eq_false h0]; decide), if_pos (by omega)]
      exact ⟨rfl, rfl, rfl⟩

end

/-! ### The loops -/

/-- The state while the cache is filled: the latches are set, and the caches are `c`. -/
def State.filling (s : State) (a i : Cells Bool) (c : Caches) : State := { s with nbAvail := a, nbIntra := i, cache := c }

theorem State.filling_pic (s : State) (a i : Cells Bool) (c : Caches) : (s.filling a i c).pic = s.pic := rfl

theorem putAll_eq_putList {α : Type} (c : Cells α) (v : α) (as : List Nat) :
    Cells.putAll c v as = Cells.putList c (as.map fun a => (a, v)) := by
  induction as generalizing c with
  | nil => rfl
  | cons a as ih => exact ih _

section
variable {a i : Cells Bool} {c : Caches} {nb : Neighbor} {x : Option Nat} (hd : Describes s nb x)
include hd

theorem fillNnz_ok {pairs : List (Nat × Nat)} (hp : ∀ p ∈ pairs, p.2 < 24) : fillNnz nb pairs (s.filling a i c)
    = .ok () (s.filling a i { c with
        nnz := Cells.putList c.nnz (pairs.map fun p => (p.1, (borderCount s x p.2).getD 0)) }) :=
  Op.each_putList (wr := fun n => s.filling a i { c with nnz := n })
    (fun p hmem _ => (Op.bind_ok (borderNnz_ok hd (s.filling_pic a i _) (hp p hmem)).1).trans rfl) c.nnz

theorem fillI4_ok {pairs : List (Nat × Nat)} (hp : ∀ p ∈ pairs, p.2 < 16) : fillI4 nb pairs (s.filling a i c)
    = .ok () (s.filling a i { c with
        i4 := Cells.putList c.i4 (pairs.map fun p => (p.1, (borderMode s x p.2).getD 0)) }) := by
  rw [fillI4, Op.bind_ok (borderIs4x4_ok hd (s.filling_pic a i _))]
  exact Op.each_putList (wr := fun n => s.filling a i { c with i4 := n })
    (fun p hmem _ => (Op.bind_ok (borderI4_ok hd (s.filling_pic a i _) (hp p hmem)).1).trans rfl) c.i4

/-- The motion a border takes: slot and value, for each triple of slot, quadrant and block. -/
def borderRefs (s : State) (l : Nat) (x : Option Nat) (triples : List (Nat × Nat × Nat)) : List (Nat × BitVec 8) :=
  triples.map fun t => (75 * l + t.1, (borderRef s l x t.2.1).getD 0)

def borderMvs (s : State) (l : Nat) (x : Option Nat) (triples : List (Nat × Nat × Nat)) : List (Nat × Mv) :=
  triples.map fun t => (75 * l + t.1, (borderMv s l x t.2.1 t.2.2).getD Mv.zero)

theorem fillMotion_ok {l : Nat} {triples : List (Nat × Nat × Nat)} (hl : l < s.listCount)
    (hp : ∀ p ∈ triples, p.2.1 < 4 ∧ p.2.2 < 16) : fillMotion nb l triples (s.filling a i c)
    = .ok () (s.filling a i { c with
        ref := Cells.putList c.ref (borderRefs s l x triples), mv := Cells.putList c.mv (borderMvs s l x triples) }) := by
  rw [borderRefs, borderMvs, List.map_eq_flatMap, List.map_eq_flatMap]
  refine Op.each_putLists₂ (wr := fun r m => s.filling a i { c with ref := r, mv := m }) (fun p hmem r m => ?_) c.ref c.mv
  exact (Op.bind_ok (fetchMotion_ok hd (s.filling_pic a i _) hl (hp p hmem).1 (hp p hmem).2).1).trans rfl

end

/-- The slots preset to "not available". -/
def presetSlots : List Nat := [16, 24, 32] ++ (List.range 16).map scan8

section
variable {a i : Cells Bool} {c : Caches}

theorem setRef_ok (l : Nat) (slots : List Nat) (v : BitVec 8) : setRef l slots v (s.filling a i c)
    = .ok () (s.filling a i { c with ref := Cells.putList c.ref (slots.map fun j => (75 * l + j, v)) }) := by
  have hcells : Cells.putList c.ref (slots.map fun j => (75 * l + j, v)) = Cells.putAll c.ref v (slots.map (75 * l + ·)) := by
    rw [putAll_eq_putList, List.map_map]
    rfl
  rw [hcells]
  rfl

theorem setMv_ok (l : Nat) (slots : List Nat) (v : Mv) : setMv l slots v (s.filling a i c)
    = .ok () (s.filling a i { c with mv := Cells.putList c.mv (slots.map fun j => (75 * l + j, v)) }) := by
  have hcells : Cells.putList c.mv (slots.map fun j => (75 * l + j, v)) = Cells.putAll c.mv v (slots.map (75 * l + ·)) := by
    rw [putAll_eq_putList, List.map_map]
    rfl
  rw [hcells]
  rfl

theorem presetMotion_ok (l : Nat) : presetMotion l (s.filling a i c)
    = .ok () (s.filling a i { c with
        ref := Cells.putList c.ref (presetSlots.map fun j => (75 * l + j, partNotAvailable))
        mv := Cells.putList c.mv (presetSlots.map fun j => (75 * l + j, Mv.zero)) }) := by
  have hbody : presetMotion l = (setRef l presetSlots partNotAvailable >>= fun _ => setMv l presetSlots Mv.zero) := rfl
  rw [hbody, Op.bind_ok (setRef_ok l presetSlots _), setMv_ok]

end

/-! ### What the slots hold -/

/-- The reference a slot takes: of a border, the neighbour's; else "not available". -/
def State.slotRef (s : State) (l j : Nat) : Option (BitVec 8) :=
  match j with
  | 4 => borderRef s l (neighbour s 0 (-1)) 2
  | 5 => borderRef s l (neighbour s 0 (-1)) 2
  | 6 => borderRef s l (neighbour s 0 (-1)) 3
  | 7 => borderRef s l (neighbour s 0 (-1)) 3
  | 11 => borderRef s l (neighbour s (-1) 0) 1
  | 19 => borderRef s l (neighbour s (-1) 0) 1
  | 27 => borderRef s l (neighbour s (-1) 0) 3
  | 35 => borderRef s l (neighbour s (-1) 0) 3
  | 8 => borderRef s l (neighbour s 1 (-1)) 2
  | 3 => borderRef s l (neighbour s (-1) (-1)) 3
  | _ => some partNotAvailable

/-- The vector a slot takes. -/
def State.slotMv (s : State) (l j : Nat) : Option Mv :=
  match j with
  | 4 => borderMv s l (neighbour s 0 (-1)) 2 10
  | 5 => borderMv s l (neighbour s 0 (-1)) 2 11
  | 6 => borderMv s l (neighbour s 0 (-1)) 3 14
  | 7 => borderMv s l (neighbour s 0 (-1)) 3 15
  | 11 => borderMv s l (neighbour s (-1) 0) 1 5
  | 19 => borderMv s l (neighbour s (-1) 0) 1 7
  | 27 => borderMv s l (neighbour s (-1) 0) 3 13
  | 35 => borderMv s l (neighbour s (-1) 0) 3 15
  | 8 => borderMv s l (neighbour s 1 (-1)) 2 10
  | 3 => borderMv s l (neighbour s (-1) (-1)) 3 15
  | _ => some Mv.zero

/-- The slots the loops write, in their order: the presets, the borders left and top, the corners. -/
def borderSlots : List Nat := [4, 5, 6, 7, 11, 19, 27, 35]

def cornerSlots : List Nat := [8, 3]

/-- The cells of slots of a list, with the values `F`. -/
def slotCells {α : Type} (F : Nat → Nat → α) (slots : List Nat) (l : Nat) : List (Nat × α) :=
  slots.map fun j => (75 * l + j, F l j)

/-- All cells the loops write in a motion cache. -/
def motionCells {α : Type} (F : Nat → Nat → α) (lists : List Nat) : List (Nat × α) :=
  lists.flatMap (slotCells F presetSlots) ++ (lists.flatMap (slotCells F borderSlots) ++ lists.flatMap (slotCells F cornerSlots))

def motionSlots : List Nat := presetSlots ++ (borderSlots ++ cornerSlots)

theorem mem_motionCells {α : Type} {F : Nat → Nat → α} {lists : List Nat} {e : Nat × α} :
    e ∈ motionCells F lists ↔ ∃ l ∈ lists, ∃ j ∈ motionSlots, e = (75 * l + j, F l j) := by
  simp only [motionCells, motionSlots, slotCells, List.mem_append, List.mem_flatMap, List.mem_map, or_and_right, exists_or,
    and_or_left, eq_comm (b := e)]

section
variable {α : Type} {F : Nat → Nat → α} {lists : List Nat} (c : Cells α)

theorem motionSlots_lt : ∀ j ∈ motionSlots, j < 75 := by decide

/-- A slot that is written takes its value: the slots of different lists are apart. -/
theorem look_motionCells {l j : Nat} (hl : l ∈ lists) (hj : j ∈ motionSlots) :
    Cells.look (Cells.putList c (motionCells F lists)) (75 * l + j) = some (F l j) := by
  refine Cells.look_putList_eq _ c ⟨_, mem_motionCells.mpr ⟨l, hl, j, hj, rfl⟩, rfl⟩ fun e he heq => ?_
  obtain ⟨l', -, j', hj', rfl⟩ := mem_motionCells.mp he
  have h1 := motionSlots_lt j hj
  have h2 := motionSlots_lt j' hj'
  obtain ⟨rfl, rfl⟩ : l' = l ∧ j' = j := by simp only at heq; omega
  rfl

theorem look_motionCells_ne {k : Nat} (hk : ∀ l ∈ lists, ∀ j ∈ motionSlots, k ≠ 75 * l + j) :
    Cells.look (Cells.putList c (motionCells F lists)) k = Cells.look c k := by
  refine Cells.look_putList_ne _ c fun e he heq => ?_
  obtain ⟨l, hl, j, hj, rfl⟩ := mem_motionCells.mp he
  exact hk l hl j hj heq.symm

end

end Sys2Proof.Machine
end

section
/-! Proofs. `CACHE_FILL` (42_neighbor_cache.md R252 to R262): the borders filled from the four neighbours. -/

namespace Sys2Proof.Machine

open Sys2Proof.Stated

variable {s t : State}

/-! ### What is written -/

/-- The counts a border takes: slot and value, for each pair of slot and block. -/
def borderCounts (s : State) (x : Option Nat) (pairs : List (Nat × Nat)) : List (Nat × BitVec 8) :=
  pairs.map fun p => (p.1, (borderCount s x p.2).getD 0)

/-- The modes a border takes. -/
def borderModes (s : State) (x : Option Nat) (pairs : List (Nat × Nat)) : List (Nat × BitVec 8) :=
  pairs.map fun p => (p.1, (borderMode s x p.2).getD 0)

/-- The chroma counts written in a picture of 4:2:0. -/
def chromaCounts (s : State) : List (Nat × BitVec 8) :=
  if s.chromaFormat = 1 then
    borderCounts s (neighbour s 0 (-1)) [(1, 18), (2, 19)] ++ (borderCounts s (neighbour s (-1) 0) [(8, 17), (16, 19)]
      ++ (borderCounts s (neighbour s 0 (-1)) [(25, 22), (26, 23)] ++ borderCounts s (neighbour s (-1) 0) [(32, 21), (40, 23)]))
  else []

/-- The counts written. -/
def countCells (s : State) : List (Nat × BitVec 8) :=
  borderCounts s (neighbour s 0 (-1)) [(4, 10), (5, 11), (6, 14), (7, 15)]
    ++ (borderCounts s (neighbour s (-1) 0) [(11, 5), (19, 7), (27, 13), (35, 15)] ++ chromaCounts s)

/-- The modes written. -/
def modeCells (s : State) : List (Nat × BitVec 8) :=
  borderModes s (neighbour s 0 (-1)) [(4, 10), (5, 11), (6, 14), (7, 15)]
    ++ borderModes s (neighbour s (-1) 0) [(11, 5), (19, 7), (27, 13), (35, 15)]

/-- The caches once filled. -/
def State.filledCaches (s : State) : Caches where
  nnz := Cells.putList s.cache.nnz (countCells s)
  i4 := Cells.putList s.cache.i4 (modeCells s)
  ref := Cells.putList s.cache.ref (motionCells (fun l j => (s.slotRef l j).getD 0) s.lists)
  mv := Cells.putList s.cache.mv (motionCells (fun l j => (s.slotMv l j).getD Mv.zero) s.lists)

/-! ### The loops -/

theorem slot_preset (s : State) (l : Nat) : ∀ j ∈ presetSlots,
    s.slotRef l j = some partNotAvailable ∧ s.slotMv l j = some Mv.zero := by
  have hslots : presetSlots = [16, 24, 32, 12, 13, 20, 21, 14, 15, 22, 23, 28, 29, 36, 37, 30, 31, 38, 39] := by decide
  rw [hslots]
  simp only [List.forall_mem_cons, List.not_mem_nil, false_implies, implies_true, and_true]
  refine ⟨?_, ?_, ?_, ?_, ?_, ?_, ?_, ?_, ?_, ?_, ?_, ?_, ?_, ?_, ?_, ?_, ?_, ?_, ?_⟩ <;> exact ⟨rfl, rfl⟩

section
variable {a i : Cells Bool} {c : Caches}

theorem presets_ok : Op.each s.lists presetMotion (s.filling a i c) = .ok () (s.filling a i { c with
    ref := Cells.putList c.ref (s.lists.flatMap (slotCells (fun l j => (s.slotRef l j).getD 0) presetSlots))
    mv := Cells.putList c.mv (s.lists.flatMap (slotCells (fun l j => (s.slotMv l j).getD Mv.zero) presetSlots)) }) := by
  refine Op.each_putLists₂ (wr := fun r m => s.filling a i { c with ref := r, mv := m }) (fun l _ r m => ?_) c.ref c.mv
  have hrefs : slotCells (fun l j => (s.slotRef l j).getD 0) presetSlots l = presetSlots.map fun j => (75 * l + j, partNotAvailable) :=
    List.map_congr_left fun j hj => Prod.ext rfl (congrArg (Option.getD · 0) (slot_preset s l j hj).1)
  have hmvs : slotCells (fun l j => (s.slotMv l j).getD Mv.zero) presetSlots l = presetSlots.map fun j => (75 * l + j, Mv.zero) :=
    List.map_congr_left fun j hj => Prod.ext rfl (congrArg (Option.getD · Mv.zero) (slot_preset s l j hj).2)
  rw [hrefs, hmvs]
  exact presetMotion_ok l

variable {nt nl ntl ntr : Neighbor} (ht : Describes s nt (neighbour s 0 (-1))) (hl : Describes s nl (neighbour s (-1) 0))
    (htl : Describes s ntl (neighbour s (-1) (-1))) (htr : Describes s ntr (neighbour s 1 (-1)))

section
include ht hl

theorem borders_ok : Op.each s.lists (fun l => do
      fillMotion nt l [(4, 2, 10), (5, 2, 11), (6, 3, 14), (7, 3, 15)]
      fillMotion nl l [(11, 1, 5), (19, 1, 7), (27, 3, 13), (35, 3, 15)]) (s.filling a i c)
    = .ok () (s.filling a i { c with
      ref := Cells.putList c.ref (s.lists.flatMap (slotCells (fun l j => (s.slotRef l j).getD 0) borderSlots))
      mv := Cells.putList c.mv (s.lists.flatMap (slotCells (fun l j => (s.slotMv l j).getD Mv.zero) borderSlots)) }) := by
  refine Op.each_putLists₂ (wr := fun r m => s.filling a i { c with ref := r, mv := m }) (fun l hmem r m => ?_) c.ref c.mv
  have hlist : l < s.listCount := List.mem_range.mp hmem
  rw [Op.bind_ok (fillMotion_ok ht hlist (by decide)), fillMotion_ok hl hlist (by decide)]
  rfl

theorem counts_ok {β : Type} (k : Op β) : (do
      fillNnz nt [(4, 10), (5, 11), (6, 14), (7, 15)]
      fillNnz nl [(11, 5), (19, 7), (27, 13), (35, 15)]
      let format ← Op.read State.chromaFormat
      Op.when (decide (format = 1)) do
        fillNnz nt [(1, 18), (2, 19)]
        fillNnz nl [(8, 17), (16, 19)]
        fillNnz nt [(25, 22), (26, 23)]
        fillNnz nl [(32, 21), (40, 23)]
      k : Op β) (s.filling a i c) = k (s.filling a i { c with nnz := Cells.putList c.nnz (countCells s) }) := by
  have hformat (c : Caches) : (s.filling a i c).chromaFormat = s.chromaFormat := rfl
  rw [Op.bind_ok (fillNnz_ok ht (by decide)), Op.bind_ok (fillNnz_ok hl (by decide)), Op.bind_ok (Op.read_run _ _), hformat,
    countCells, chromaCounts]
  by_cases h : s.chromaFormat = 1
  · have hchroma (c : Caches) : Op.when (decide (s.chromaFormat = 1)) (do
        fillNnz nt [(1, 18), (2, 19)]
        fillNnz nl [(8, 17), (16, 19)]
        fillNnz nt [(25, 22), (26, 23)]
        fillNnz nl [(32, 21), (40, 23)]) (s.filling a i c)
        = .ok () (s.filling a i { c with nnz := Cells.putList c.nnz (chromaCounts s) }) := by
      rw [decide_eq_true h, chromaCounts, if_pos h]
      show (fillNnz nt _ >>= _) _ = _
      rw [Op.bind_ok (fillNnz_ok ht (by decide)), Op.bind_ok (fillNnz_ok hl (by decide)), Op.bind_ok (fillNnz_ok ht (by decide)),
        fillNnz_ok hl (by decide)]
      rfl
    rw [Op.bind_ok (hchroma _), chromaCounts]
    rfl
  · rw [decide_eq_false h, if_neg h]
    rfl

theorem modes_ok {β : Type} (k : Op β) : (do
      fillI4 nt [(4, 10), (5, 11), (6, 14), (7, 15)]
      fillI4 nl [(11, 5), (19, 7), (27, 13), (35, 15)]
      k : Op β) (s.filling a i c) = k (s.filling a i { c with i4 := Cells.putList c.i4 (modeCells s) }) := by
  rw [Op.bind_ok (fillI4_ok ht (by decide)), Op.bind_ok (fillI4_ok hl (by decide))]
  rfl

end

section
include htl htr

theorem corners_ok : Op.each s.lists (fun l => do
      fillMotion ntr l [(8, 2, 10)]
      fillMotion ntl l [(3, 3, 15)]) (s.filling a i c)
    = .ok () (s.filling a i { c with
      ref := Cells.putList c.ref (s.lists.flatMap (slotCells (fun l j => (s.slotRef l j).getD 0) cornerSlots))
      mv := Cells.putList c.mv (s.lists.flatMap (slotCells (fun l j => (s.slotMv l j).getD Mv.zero) cornerSlots)) }) := by
  refine Op.each_putLists₂ (wr := fun r m => s.filling a i { c with ref := r, mv := m }) (fun l hmem r m => ?_) c.ref c.mv
  have hlist : l < s.listCount := List.mem_range.mp hmem
  rw [Op.bind_ok (fillMotion_ok htr hlist (by decide)), fillMotion_ok htl hlist (by decide)]
  rfl

end

include ht hl htl htr

theorem fillBorders_ok : fillBorders nl nt ntl ntr (s.filling a i s.cache) = .ok () (s.filling a i s.filledCaches) := by
  have hlists (c : Caches) : (s.filling a i c).lists = s.lists := rfl
  rw [fillBorders, counts_ok ht hl, modes_ok ht hl, Op.bind_ok (Op.read_run _ _), hlists, Op.bind_ok presets_ok,
    Op.bind_ok (borders_ok ht hl), corners_ok htl htr, State.filledCaches, motionCells, motionCells, Cells.putList_append,
    Cells.putList_append, Cells.putList_append, Cells.putList_append]

end

/-! ### The command -/

theorem knownAt_of_neighboursKnown (h : neighboursKnown s = true) :
    knownAt s (-1) 0 = true ∧ knownAt s 0 (-1) = true ∧ knownAt s (-1) (-1) = true ∧ knownAt s 1 (-1) = true := by
  simp only [neighboursKnown, List.all_cons, List.all_nil, Bool.and_true, Bool.and_eq_true] at h
  exact h

/-- The availability latches. -/
def availOf (s : State) : Cells Bool := [(0, (neighbour s (-1) 0).isSome), (1, (neighbour s 0 (-1)).isSome),
  (2, (neighbour s (-1) (-1)).isSome), (3, (neighbour s 1 (-1)).isSome)]

/-- The latches of intra availability. -/
def intraAvailOf (s : State) : Cells Bool := [(0, intraOk s (neighbour s (-1) 0)), (1, intraOk s (neighbour s 0 (-1))),
  (2, intraOk s (neighbour s (-1) (-1))), (3, intraOk s (neighbour s 1 (-1)))]

theorem cacheFill_ok (h : neighboursKnown s = true) :
    cacheFill s = .ok () (s.filling (availOf s) (intraAvailOf s) s.filledCaches)
      ∧ ∃ nl nt ntl ntr, Describes s nl (neighbour s (-1) 0) ∧ Describes s nt (neighbour s 0 (-1))
        ∧ Describes s ntl (neighbour s (-1) (-1)) ∧ Describes s ntr (neighbour s 1 (-1)) := by
  obtain ⟨hkl, hkt, hktl, hktr⟩ := knownAt_of_neighboursKnown h
  obtain ⟨nl, hnl, hl⟩ := neighborAt_ok hkl
  obtain ⟨nt, hnt, ht⟩ := neighborAt_ok hkt
  obtain ⟨ntl, hntl, htl⟩ := neighborAt_ok hktl
  obtain ⟨ntr, hntr, htr⟩ := neighborAt_ok hktr
  refine ⟨?_, nl, nt, ntl, ntr, hl, ht, htl, htr⟩
  have hlatches : Op.modify (fun s : State => { s with
      nbAvail := [(0, nl.av), (1, nt.av), (2, ntl.av), (3, ntr.av)]
      nbIntra := [(0, nl.avi), (1, nt.avi), (2, ntl.avi), (3, ntr.avi)] }) s
      = .ok () (s.filling (availOf s) (intraAvailOf s) s.cache) := by
    rw [Op.modify_run, availOf, intraAvailOf, hl.av, ht.av, htl.av, htr.av, hl.avi, ht.avi, htl.avi, htr.avi]
    rfl
  rw [cacheFill, Op.bind_ok hnl, Op.bind_ok hnt, Op.bind_ok hntl, Op.bind_ok hntr, Op.bind_ok hlatches,
    fillBorders_ok ht hl htl htr]

/-! ### What the caches hold then -/

section
variable {nb : Neighbor} {x : Option Nat} (hd : Describes s nb x)
include hd

theorem borderCount_some {n : Nat} (hn : n < 24) : some ((borderCount s x n).getD 0) = borderCount s x n :=
  (some_getD_of_isSome (borderNnz_ok hd rfl hn).2 0).symm

theorem borderMode_some {n : Nat} (hn : n < 16) : some ((borderMode s x n).getD 0) = borderMode s x n :=
  (some_getD_of_isSome (borderI4_ok hd rfl hn).2 0).symm

theorem borderRef_some {l q : Nat} (hl : l < s.listCount) (hq : q < 4) : some ((borderRef s l x q).getD 0) = borderRef s l x q :=
  (some_getD_of_isSome (fetchMotion_ok (n := 0) hd rfl hl hq (by decide)).2.1 0).symm

theorem borderMv_some {l q n : Nat} (hl : l < s.listCount) (hq : q < 4) (hn : n < 16) :
    some ((borderMv s l x q n).getD Mv.zero) = borderMv s l x q n :=
  (some_getD_of_isSome (fetchMotion_ok hd rfl hl hq hn).2.2 _).symm

end

/-- A motion slot reads what it takes. -/
theorem look_filled {l j : Nat} (hl : l < s.listCount) (hj : j ∈ motionSlots) :
    Cells.look s.filledCaches.ref (75 * l + j) = some ((s.slotRef l j).getD 0)
      ∧ Cells.look s.filledCaches.mv (75 * l + j) = some ((s.slotMv l j).getD Mv.zero) :=
  ⟨look_motionCells _ (List.mem_range.mpr hl) hj, look_motionCells _ (List.mem_range.mpr hl) hj⟩

/-- A motion slot whose values are known reads them. -/
theorem look_filled_of {l j : Nat} {r : Option (BitVec 8)} {v : Option Mv} (hl : l < s.listCount) (hj : j ∈ motionSlots)
    (hr : s.slotRef l j = r) (hv : s.slotMv l j = v) (hrs : some (r.getD 0) = r) (hvs : some (v.getD Mv.zero) = v) :
    Cells.look s.filledCaches.ref (75 * l + j) = r ∧ Cells.look s.filledCaches.mv (75 * l + j) = v := by
  obtain ⟨h1, h2⟩ := look_filled hl hj
  rw [h1, h2, hr, hv, hrs, hvs]
  exact ⟨rfl, rfl⟩

theorem countCells_keys {e : Nat × BitVec 8} (he : e ∈ countCells s) : e.1 ∈ [4, 5, 6, 7, 11, 19, 27, 35]
    ∨ (s.chromaFormat = 1 ∧ e.1 ∈ [1, 2, 8, 16, 25, 26, 32, 40]) := by
  rw [countCells, chromaCounts] at he
  by_cases h : s.chromaFormat = 1
  · rw [if_pos h] at he
    simp only [borderCounts, List.map_cons, List.map_nil, List.mem_append, List.mem_cons, List.not_mem_nil, or_false] at he
    rcases he with (rfl | rfl | rfl | rfl) | (rfl | rfl | rfl | rfl) | (rfl | rfl) | (rfl | rfl) | (rfl | rfl) | rfl | rfl <;>
      simp [h]
  · rw [if_neg h, List.append_nil] at he
    simp only [borderCounts, List.map_cons, List.map_nil, List.mem_append, List.mem_cons, List.not_mem_nil, or_false] at he
    rcases he with (rfl | rfl | rfl | rfl) | (rfl | rfl | rfl | rfl) <;> simp

theorem modeCells_keys {e : Nat × BitVec 8} (he : e ∈ modeCells s) : e.1 ∈ [4, 5, 6, 7, 11, 19, 27, 35] := by
  simp only [modeCells, borderModes, List.map_cons, List.map_nil, List.mem_append, List.mem_cons, List.not_mem_nil, or_false] at he
  rcases he with (rfl | rfl | rfl | rfl) | rfl | rfl | rfl | rfl <;> simp

/-- A list of cells with these keys leaves the other slots. -/
theorem look_filled_nnz_ne {k : Nat} (h : k ∉ [4, 5, 6, 7, 11, 19, 27, 35])
    (hc : s.chromaFormat ≠ 1 ∨ k ∉ [1, 2, 8, 16, 25, 26, 32, 40]) :
    Cells.look s.filledCaches.nnz k = Cells.look s.cache.nnz k := by
  refine Cells.look_putList_ne _ _ fun e he heq => ?_
  rcases countCells_keys he with hkey | ⟨hformat, hkey⟩
  · exact h (heq ▸ hkey)
  · rcases hc with hc | hc
    · exact hc hformat
    · exact hc (heq ▸ hkey)

theorem look_filled_i4_ne {k : Nat} (h : k ∉ [4, 5, 6, 7, 11, 19, 27, 35]) :
    Cells.look s.filledCaches.i4 k = Cells.look s.cache.i4 k :=
  Cells.look_putList_ne _ _ fun _ he heq => h (heq ▸ modeCells_keys he)

theorem look_filled_motion_ne {k : Nat} (h : ∀ l, l < s.listCount → ∀ j ∈ [3, 4, 5, 6, 7, 8, 11, 12, 13, 14, 15, 16, 19, 20,
    21, 22, 23, 24, 27, 28, 29, 30, 31, 32, 35, 36, 37, 38, 39], k ≠ 75 * l + j) :
    Cells.look s.filledCaches.ref k = Cells.look s.cache.ref k ∧ Cells.look s.filledCaches.mv k = Cells.look s.cache.mv k := by
  have hslots : ∀ j ∈ motionSlots, j ∈ [3, 4, 5, 6, 7, 8, 11, 12, 13, 14, 15, 16, 19, 20,
    21, 22, 23, 24, 27, 28, 29, 30, 31, 32, 35, 36, 37, 38, 39] := by decide
  have hne : ∀ l ∈ s.lists, ∀ j ∈ motionSlots, k ≠ 75 * l + j := fun l hl j hj =>
    h l (List.mem_range.mp hl) j (hslots j hj)
  exact ⟨look_motionCells_ne _ hne, look_motionCells_ne _ hne⟩

section
variable {nt nl ntl ntr : Neighbor} (ht : Describes s nt (neighbour s 0 (-1))) (hl : Describes s nl (neighbour s (-1) 0))
include ht hl

theorem look_filled_nnz :
    (∀ p ∈ [(4, 10), (5, 11), (6, 14), (7, 15)], Cells.look s.filledCaches.nnz p.1 = borderCount s (neighbour s 0 (-1)) p.2)
    ∧ (∀ p ∈ [(11, 5), (19, 7), (27, 13), (35, 15)],
        Cells.look s.filledCaches.nnz p.1 = borderCount s (neighbour s (-1) 0) p.2)
    ∧ (s.chromaFormat = 1 →
      (∀ p ∈ [(1, 18), (2, 19), (25, 22), (26, 23)], Cells.look s.filledCaches.nnz p.1 = borderCount s (neighbour s 0 (-1)) p.2)
      ∧ ∀ p ∈ [(8, 17), (16, 19), (32, 21), (40, 23)],
        Cells.look s.filledCaches.nnz p.1 = borderCount s (neighbour s (-1) 0) p.2) := by
  have htop (n : Nat) (hn : n < 24) : some ((borderCount s (neighbour s 0 (-1)) n).getD 0#8) = borderCount s (neighbour s 0 (-1)) n := borderCount_some ht hn
  have hleft (n : Nat) (hn : n < 24) : some ((borderCount s (neighbour s (-1) 0) n).getD 0#8) = borderCount s (neighbour s (-1) 0) n := borderCount_some hl hn
  by_cases h : s.chromaFormat = 1 <;>
    simp [State.filledCaches, countCells, chromaCounts, borderCounts, h, Cells.putList, Cells.look_put, htop, hleft]

theorem look_filled_i4 :
    (∀ p ∈ [(4, 10), (5, 11), (6, 14), (7, 15)], Cells.look s.filledCaches.i4 p.1 = borderMode s (neighbour s 0 (-1)) p.2)
    ∧ ∀ p ∈ [(11, 5), (19, 7), (27, 13), (35, 15)], Cells.look s.filledCaches.i4 p.1 = borderMode s (neighbour s (-1) 0) p.2 := by
  have htop (n : Nat) (hn : n < 16) : some ((borderMode s (neighbour s 0 (-1)) n).getD 0#8) = borderMode s (neighbour s 0 (-1)) n := borderMode_some ht hn
  have hleft (n : Nat) (hn : n < 16) : some ((borderMode s (neighbour s (-1) 0) n).getD 0#8) = borderMode s (neighbour s (-1) 0) n := borderMode_some hl hn
  simp [State.filledCaches, modeCells, borderModes, Cells.putList, Cells.look_put, htop, hleft]

variable (htl : Describes s ntl (neighbour s (-1) (-1))) (htr : Describes s ntr (neighbour s 1 (-1)))
include htl htr

theorem look_filled_motion {l : Nat} (hlist : l < s.listCount) :
    (∀ p ∈ [(4, 2, 10), (5, 2, 11), (6, 3, 14), (7, 3, 15)],
      Cells.look s.filledCaches.ref (75 * l + p.1) = borderRef s l (neighbour s 0 (-1)) p.2.1
      ∧ Cells.look s.filledCaches.mv (75 * l + p.1) = borderMv s l (neighbour s 0 (-1)) p.2.1 p.2.2)
    ∧ (∀ p ∈ [(11, 1, 5), (19, 1, 7), (27, 3, 13), (35, 3, 15)],
      Cells.look s.filledCaches.ref (75 * l + p.1) = borderRef s l (neighbour s (-1) 0) p.2.1
      ∧ Cells.look s.filledCaches.mv (75 * l + p.1) = borderMv s l (neighbour s (-1) 0) p.2.1 p.2.2)
    ∧ (Cells.look s.filledCaches.ref (75 * l + 8) = borderRef s l (neighbour s 1 (-1)) 2
      ∧ Cells.look s.filledCaches.mv (75 * l + 8) = borderMv s l (neighbour s 1 (-1)) 2 10)
    ∧ (Cells.look s.filledCaches.ref (75 * l + 3) = borderRef s l (neighbour s (-1) (-1)) 3
      ∧ Cells.look s.filledCaches.mv (75 * l + 3) = borderMv s l (neighbour s (-1) (-1)) 3 15)
    ∧ ∀ k ∈ [16, 24, 32, 12, 13, 20, 21, 14, 15, 22, 23, 28, 29, 36, 37, 30, 31, 38, 39],
      Cells.look s.filledCaches.ref (75 * l + k) = some (-2) ∧ Cells.look s.filledCaches.mv (75 * l + k) = some ⟨0, 0⟩ := by
  have hborder {nb : Neighbor} {x : Option Nat} (hd : Describes s nb x) {j q n : Nat} (hj : j ∈ motionSlots) (hq : q < 4)
      (hn : n < 16) (hr : s.slotRef l j = borderRef s l x q) (hv : s.slotMv l j = borderMv s l x q n) :
      Cells.look s.filledCaches.ref (75 * l + j) = borderRef s l x q
        ∧ Cells.look s.filledCaches.mv (75 * l + j) = borderMv s l x q n :=
    look_filled_of hlist hj hr hv (borderRef_some hd hlist hq) (borderMv_some hd hlist hq hn)
  refine ⟨?_, ?_, hborder htr (by decide) (by decide) (by decide) rfl rfl, hborder htl (by decide) (by decide) (by decide) rfl rfl,
    fun k hk => ?_⟩
  · simp only [List.forall_mem_cons, List.not_mem_nil, false_implies, implies_true, and_true]
    refine ⟨?_, ?_, ?_, ?_⟩ <;> exact hborder ht (by decide) (by decide) (by decide) rfl rfl
  · simp only [List.forall_mem_cons, List.not_mem_nil, false_implies, implies_true, and_true]
    refine ⟨?_, ?_, ?_, ?_⟩ <;> exact hborder hl (by decide) (by decide) (by decide) rfl rfl
  · have hslots : ∀ k ∈ [16, 24, 32, 12, 13, 20, 21, 14, 15, 22, 23, 28, 29, 36, 37, 30, 31, 38, 39],
        k ∈ presetSlots ∧ k ∈ motionSlots := by decide
    obtain ⟨hr, hv⟩ := slot_preset s l k (hslots k hk).1
    exact look_filled_of hlist (hslots k hk).2 hr hv rfl rfl

end

/-- Settles O37: the loops leave `State.filledCaches`, whose slots read what the statement lists. -/
theorem cacheFillLoadsTheBorders : Obligations.CacheFillLoadsTheBorders := by
  intro s he hk
  obtain ⟨hok, nl, nt, ntl, ntr, hl, ht, htl, htr⟩ := cacheFill_ok hk
  refine ⟨_, command_ok (accepts_run he rfl) hok, rfl, rfl, rfl, ?_⟩
  obtain ⟨htop, hleft, hchroma⟩ := look_filled_nnz ht hl
  obtain ⟨hmodeTop, hmodeLeft⟩ := look_filled_i4 ht hl
  refine ⟨fun p hp => ⟨htop p hp, hmodeTop p hp⟩, fun p hp => ⟨hleft p hp, hmodeLeft p hp⟩, hchroma, fun l hlist => ?_,
    fun k => look_filled_nnz_ne, fun k => look_filled_i4_ne, fun k => look_filled_motion_ne⟩
  obtain ⟨hborderTop, hborderLeft, ⟨hr8, hv8⟩, ⟨hr3, hv3⟩, hpreset⟩ := look_filled_motion ht hl htl htr hlist
  exact ⟨hborderTop, hborderLeft, hr8, hv8, hr3, hv3, hpreset⟩

end Sys2Proof.Machine
end

section
/-! Proofs. Reconstruction stays in its macroblock (20_memory.md R82): every block that is written lies in it, and every entry is its
own. -/

namespace Sys2Proof.Machine

open Sys2Proof.Stated

variable {s t u : State} {α β : Type} {P : State → Prop}

/-! ### Rules for operations that depend on what they read -/

theorem Ends.mono {Q : State → Prop} {r : Res α} (h : Ends P r) (hpq : ∀ u, P u → Q u) : Ends Q r := by
  cases r <;> exact hpq _ h

theorem Op.keeps_read_bind {g : State → α} {f : α → Op β} (h : ∀ u, P u → Op.Keeps P (f (g u))) :
    Op.Keeps P (Op.read g >>= f) := by
  intro u hu
  rw [Op.bind_ok (Op.read_run g u)]
  exact h u hu u hu

/-- Every value the operation gives has `Q`. -/
def Op.Gives (Q : α → Prop) (m : Op α) : Prop := ∀ u a v, m u = .ok a v → Q a

theorem Op.keeps_bind_gives {Q : α → Prop} {m : Op α} {f : α → Op β} (hm : Op.Keeps P m) (hg : Op.Gives Q m)
    (hf : ∀ a, Q a → Op.Keeps P (f a)) : Op.Keeps P (m >>= f) := by
  intro u hu
  have h := hm u hu
  rw [Op.bind_run]
  cases hr : m u with
  | ok a v => rw [hr] at h; exact hf a (hg u a v hr) v h
  | error e v => rw [hr] at h; exact h

/-- After a write, the rest runs from a state with another property, and ends with the first one. -/
theorem Op.keeps_modify_bind {Q : State → Prop} {g : State → State} {f : Unit → Op β} (hg : ∀ u, P u → Q (g u))
    (hqp : ∀ u, Q u → P u) (hf : Op.Keeps Q (f ())) : Op.Keeps P (Op.modify g >>= f) := by
  intro u hu
  rw [Op.bind_ok (Op.modify_run g u)]
  exact (hf _ (hg u hu)).mono hqp

/-! ### What stays outside the macroblock -/

/-- The entries of every other macroblock are the same. -/
def SameEntries (mb : Nat) (a b : PicArrays) : Prop :=
  ∀ k, k ≠ mb → Cells.look b.slice k = Cells.look a.slice k ∧ Cells.look b.mbType k = Cells.look a.mbType k
    ∧ Cells.look b.qscale k = Cells.look a.qscale k ∧ Cells.look b.cbp k = Cells.look a.cbp k
    ∧ (∀ n, n < 16 → Cells.look b.i4 (16 * k + n) = Cells.look a.i4 (16 * k + n))
    ∧ (∀ n, n < 24 → Cells.look b.nnz (24 * k + n) = Cells.look a.nnz (24 * k + n))
    ∧ (∀ n, n < 8 → Cells.look b.ref (8 * k + n) = Cells.look a.ref (8 * k + n))
    ∧ ∀ n, n < 32 → Cells.look b.mv (32 * k + n) = Cells.look a.mv (32 * k + n)

/-- The samples of no other macroblock differ, and no other entry. -/
structure Outside (s u : State) : Prop where
  cr0 : u.cr0 = s.cr0
  gen : u.pic.planes.gen = s.pic.planes.gen
  samples : ∀ p, p ≤ 2 → ∀ k, (∀ x y, inMacroblock s p x y = true → k ≠ sampleIndex x y) →
    Cells.look (u.pic.planes.plane p) k = Cells.look (s.pic.planes.plane p) k
  entries : SameEntries s.mbXY s.pic.arrays u.pic.arrays

/-- The same, while the engine is at the same macroblock. -/
structure Here (s u : State) : Prop extends Outside s u where
  mbX : u.mbX = s.mbX
  mbY : u.mbY = s.mbY
  cr1 : u.cr1 = s.cr1

theorem here_refl (s : State) : Here s s :=
  ⟨⟨rfl, rfl, fun _ _ _ _ => rfl, fun _ _ => ⟨rfl, rfl, rfl, rfl, fun _ _ => rfl, fun _ _ => rfl, fun _ _ => rfl, fun _ _ => rfl⟩⟩,
    rfl, rfl, rfl⟩

/-- What `Here` says depends on these parts of the state alone. -/
theorem Here.of_eq {v : State} (h : Here s u) (hcr0 : v.cr0 = u.cr0) (hpic : v.pic = u.pic) (hx : v.mbX = u.mbX)
    (hy : v.mbY = u.mbY) (hcr1 : v.cr1 = u.cr1) : Here s v := by
  obtain ⟨⟨h0, hgen, hsamples, hentries⟩, hhx, hhy, h1⟩ := h
  exact ⟨⟨hcr0.trans h0, hpic ▸ hgen, hpic ▸ hsamples, hpic ▸ hentries⟩, hx.trans hhx, hy.trans hhy, hcr1.trans h1⟩

theorem here_coefWrites (s : State) : CoefWrites (Here s) where
  coef _ _ _ h := h.of_eq rfl rfl rfl rfl rfl
  lumaDc _ _ _ h := h.of_eq rfl rfl rfl rfl rfl
  chromaDc _ _ _ h := h.of_eq rfl rfl rfl rfl rfl
  zeroCoef _ _ h := h.of_eq rfl rfl rfl rfl rfl
  zeroLumaDc _ h := h.of_eq rfl rfl rfl rfl rfl
  zeroChromaDc _ _ h := h.of_eq rfl rfl rfl rfl rfl
  zeroAll _ h := h.of_eq rfl rfl rfl rfl rfl

theorem here_mc (m : McRegs) (h : Here s u) : Here s { u with mc := m } := h.of_eq rfl rfl rfl rfl rfl

/-! ### Blocks of the macroblock -/

/-- The block lies in the current macroblock's part of plane `p`. -/
def Fits (s : State) (p x y w h : Nat) : Prop :=
  p ≤ 2 ∧ (if p = 0 then 16 else 8) * s.mbX.toNat ≤ x ∧ x + w ≤ (if p = 0 then 16 else 8) * s.mbX.toNat + (if p = 0 then 16 else 8)
    ∧ (if p = 0 then 16 else 8) * s.mbY.toNat ≤ y ∧ y + h ≤ (if p = 0 then 16 else 8) * s.mbY.toNat + (if p = 0 then 16 else 8)

section
variable {p x y w h : Nat}

theorem Fits.inMacroblock (hf : Fits s p x y w h) {i j : Nat} (hi : i < w) (hj : j < h) :
    Stated.inMacroblock s p (x + i) (y + j) = true := by
  obtain ⟨-, h1, h2, h3, h4⟩ := hf
  refine decide_eq_true ?_
  omega

theorem here_putBlock (hu : Here s u) (hf : Fits s p x y w h) (f : Nat → Nat → Sample) : Here s (u.putBlock p x y w h f) := by
  obtain ⟨⟨h0, hgen, hsamples, hentries⟩, hx, hy, h1⟩ := hu
  refine ⟨⟨h0, (Planes.setPlane_gen ..).trans hgen, fun q hq k hk => ?_, hentries⟩, hx, hy, h1⟩
  by_cases hqp : q = p
  · subst hqp
    exact (u.look_putBlock_outside q f fun i hi j hj => hk _ _ (hf.inMacroblock hi hj)).trans (hsamples q hq k hk)
  · refine Eq.trans ?_ (hsamples q hq k hk)
    exact congrArg (Cells.look · k) (Planes.plane_setPlane_ne _ _ hf.1 hq hqp)

theorem updateBlock_keeps_of_fits (hf : Fits s p x y w h) (f : State → Nat → Nat → Sample) :
    Op.Keeps (Here s) (updateBlock p x y w h f) :=
  Op.keeps_require_bind fun _ hu _ => here_putBlock hu hf _

end

/-! ### Transforms and intra prediction -/

theorem byRow_lt : ∀ n, byRow n < 4 ∧ bx n < 4 := by
  intro n
  unfold byRow bx
  omega

theorem blockPos_fits (s : State) (b : Nat) : Fits s (s.blockPos b).p (s.blockPos b).x (s.blockPos b).y 4 4 := by
  have h := byRow_lt b
  unfold State.blockPos
  split
  · exact ⟨Nat.zero_le 2, by simp only [if_true]; omega⟩
  · split
    · exact ⟨Nat.le_succ 1, by rw [if_neg Nat.one_ne_zero]; dsimp only; omega⟩
    · exact ⟨Nat.le_refl 2, by rw [if_neg (Nat.succ_ne_zero 1)]; dsimp only; omega⟩

theorem quadrantPos_fits (s : State) {q : Nat} (hq : q ≤ 3) :
    Fits s (s.quadrantPos q).p (s.quadrantPos q).x (s.quadrantPos q).y 8 8 :=
  ⟨Nat.zero_le 2, by simp only [State.quadrantPos, if_true]; omega⟩

theorem blockPos_eq_of_here (hu : Here s u) (b : Nat) : u.blockPos b = s.blockPos b := by
  rw [State.blockPos, hu.mbX, hu.mbY]
  rfl

theorem quadrantPos_eq_of_here (hu : Here s u) (q : Nat) : u.quadrantPos q = s.quadrantPos q := by
  rw [State.quadrantPos, hu.mbX, hu.mbY]
  rfl

theorem addResidual_keeps_of_fits {pos : State → BlockPos} {n : Nat} (heq : ∀ u, Here s u → pos u = pos s)
    (hf : Fits s (pos s).p (pos s).x (pos s).y n n) (f : State → Nat → Nat → Int) :
    Op.Keeps (Here s) (addResidual pos n f) :=
  Op.keeps_read_bind fun u hu => by
    rw [heq u hu]
    exact updateBlock_keeps_of_fits hf _

theorem idct4_keeps_here (s : State) (b : Nat) : Op.Keeps (Here s) (idct4Add b) ∧ Op.Keeps (Here s) (idct4DcAdd b) :=
  have hadd (f : State → Nat → Nat → Int) : Op.Keeps (Here s) (addResidual (fun s => s.blockPos b) 4 f) :=
    addResidual_keeps_of_fits (fun _ hu => blockPos_eq_of_here hu b) (blockPos_fits s b) f
  ⟨Op.keeps_bind (hadd _) fun _ => zeroCoefs_keeps (here_coefWrites s) _ _,
    Op.keeps_bind (hadd _) fun _ => zeroCoefs_keeps (here_coefWrites s) _ _⟩

theorem idct8_keeps_here (s : State) {q : Nat} (hq : q ≤ 3) :
    Op.Keeps (Here s) (idct8Add q) ∧ Op.Keeps (Here s) (idct8DcAdd q) :=
  have hadd (f : State → Nat → Nat → Int) : Op.Keeps (Here s) (addResidual (fun s => s.quadrantPos q) 8 f) :=
    addResidual_keeps_of_fits (fun _ hu => quadrantPos_eq_of_here hu q) (quadrantPos_fits s hq) f
  ⟨Op.keeps_bind (hadd _) fun _ => zeroCoefs_keeps (here_coefWrites s) _ _,
    Op.keeps_bind (hadd _) fun _ => zeroCoefs_keeps (here_coefWrites s) _ _⟩

/-- A kind and a block of intra prediction that the rules name (R440). -/
def IntraNamed (kind b : Nat) : Prop := kind = 0 ∨ (kind = 1 ∧ b ≤ 15) ∨ (kind = 2) ∨ (3 ≤ kind ∧ (b = 16 ∨ b = 20))

theorem intraPos_fits (s : State) {kind b : Nat} (h : IntraNamed kind b) :
    Fits s (s.intraPos kind b).1.p (s.intraPos kind b).1.x (s.intraPos kind b).1.y (s.intraPos kind b).2 (s.intraPos kind b).2 := by
  rcases h with rfl | ⟨rfl, hb⟩ | rfl | ⟨hk, hb⟩
  · exact blockPos_fits s b
  · exact quadrantPos_fits s (by omega)
  · exact ⟨Nat.zero_le 2, Nat.le_refl _, Nat.le_refl _, Nat.le_refl _, Nat.le_refl _⟩
  · obtain ⟨k, rfl⟩ : ∃ k, kind = k + 3 := ⟨kind - 3, by omega⟩
    rcases hb with rfl | rfl
    · exact ⟨Nat.le_succ 1, Nat.le_refl _, Nat.le_refl _, Nat.le_refl _, Nat.le_refl _⟩
    · exact ⟨Nat.le_refl 2, Nat.le_refl _, Nat.le_refl _, Nat.le_refl _, Nat.le_refl _⟩

theorem intraPos_eq_of_here (hu : Here s u) (kind b : Nat) : u.intraPos kind b = s.intraPos kind b := by
  match kind with
  | 0 => exact congrArg (·, 4) (blockPos_eq_of_here hu b)
  | 1 => exact congrArg (·, 8) (quadrantPos_eq_of_here hu (b / 4))
  | 2 => exact congrArg (·, 16) (blockPos_eq_of_here hu 0)
  | _ + 3 => exact congrArg (·, 8) (blockPos_eq_of_here hu b)

theorem intraPred_keeps_here (s : State) {kind b : Nat} (h : IntraNamed kind b) : Op.Keeps (Here s) (intraPred kind b) :=
  Op.keeps_bind (intraMode_keeps kind b) fun _ => Op.keeps_bind (Op.keeps_collect _ fun _ _ => Op.keeps_need _) fun _ =>
    Op.keeps_bind (Op.keeps_read _) fun _ => Op.keeps_read_bind fun u hu => by
      rw [intraPos_eq_of_here hu]
      exact updateBlock_keeps_of_fits (intraPos_fits s h) _

/-! ### Motion compensation -/

/-- At the macroblock, with the destination registers on this block. -/
def AimedAt (s : State) (b : Block) (u : State) : Prop := Here s u ∧ destinationIs u.mc b

section
variable {b : Block} {p : Nat} (hf : Fits s p b.x b.y b.w b.h)

theorem mcDst_gives (hu : AimedAt s b u) : mcDst u = .ok (dstOf b) u := mcDst_ok hu.2

/-- Reading the destination gives the block aimed at. -/
theorem keeps_mcDst_bind {f : McDst → Op β} (h : Op.Keeps (AimedAt s b) (f (dstOf b))) : Op.Keeps (AimedAt s b) (mcDst >>= f) := by
  intro u hu
  rw [Op.bind_ok (mcDst_gives hu)]
  exact h u hu

include hf

theorem updateBlock_keeps_aimed (f : State → Nat → Nat → Sample) : Op.Keeps (AimedAt s b) (updateBlock p b.x b.y b.w b.h f) :=
  Op.keeps_require_bind fun _ hu _ => ⟨here_putBlock hu.1 hf _, hu.2⟩

theorem mcWrite_aimed (hu : AimedAt s b u) (src : McSrc) (ref : RefPic) (f : Formula) :
    AimedAt s b (u.mcWrite p (dstOf b) src ref f) := by
  obtain ⟨hhere, hdst⟩ := hu
  rw [State.mcWrite]
  cases src.buf
  · exact ⟨(here_putBlock hhere hf _).of_eq rfl rfl rfl rfl rfl, hdst⟩
  · exact ⟨hhere.of_eq rfl rfl rfl rfl rfl, hdst⟩

theorem sampleOp_keeps_aimed (f : Formula) : Op.Keeps (AimedAt s b) (sampleOp p f) :=
  keeps_mcDst_bind <| Op.keeps_bind mcSrc_keeps fun _ => Op.keeps_bind (Op.keeps_require _ _) fun _ =>
    Op.keeps_bind (Op.keeps_read _) fun _ => Op.keeps_bind (Op.keeps_orStop _ _) fun _ =>
      Op.keeps_bind (Op.keeps_require _ _) fun _ => Op.keeps_modify fun _ hu => mcWrite_aimed hf hu _ _ _

theorem mcChroma_keeps_aimed : Op.Keeps (AimedAt s b) (mcChroma p) :=
  Op.keeps_bind (Op.keeps_need _) fun _ => Op.keeps_bind (Op.keeps_need _) fun _ => sampleOp_keeps_aimed hf _

theorem weightUni_keeps_aimed (l r : Nat) : Op.Keeps (AimedAt s b) (weightUni p l r) :=
  keeps_mcDst_bind <| Op.keeps_bind (Op.keeps_need _) fun _ => Op.keeps_bind (Op.keeps_need _) fun _ =>
    updateBlock_keeps_aimed hf _

theorem weightBi_keeps_aimed (r0 r1 : Nat) : Op.Keeps (AimedAt s b) (weightBi p r0 r1) :=
  Op.keeps_bind (Op.keeps_require _ _) fun _ => Op.keeps_bind (Op.keeps_require _ _) fun _ =>
    keeps_mcDst_bind <| Op.keeps_bind (biWeights_keeps _ _ _) fun _ => Op.keeps_bind (Op.keeps_require _ _) fun _ =>
      updateBlock_keeps_aimed hf _

end

theorem toNat_destCoordinate {v : Nat} (h : v < 2 ^ 16) : (destCoordinate v).toNat = v := by
  rw [destCoordinate, if_pos h]
  exact (BitVec.toNat_ofNat ..).trans (Nat.mod_eq_of_lt h)

theorem chromaPlanes_le (u : State) : ∀ p ∈ u.chromaPlanes, p ≤ 2 := by
  intro p hp
  rw [State.chromaPlanes] at hp
  split at hp
  · simp only [List.mem_cons, List.not_mem_nil, or_false] at hp
    omega
  · cases hp

/-- The block of plane `p` of a partition. -/
def McPartition.blockOf (q : McPartition) (p : Nat) : Block :=
  let k := if p = 0 then 1 else 2
  ⟨q.x0 / k, q.y0 / k, q.w / k, q.h / k⟩

/-- The partition lies in the current macroblock, whose coordinates fit the registers. -/
structure PartInside (s : State) (q : McPartition) : Prop where
  x : 16 * s.mbX.toNat ≤ q.x0 ∧ q.x0 + q.w ≤ 16 * s.mbX.toNat + 16
  y : 16 * s.mbY.toNat ≤ q.y0 ∧ q.y0 + q.h ≤ 16 * s.mbY.toNat + 16
  size : 1 ≤ q.w ∧ 1 ≤ q.h
  fits : s.mbX.toNat < 4096 ∧ s.mbY.toNat < 4096

section
variable {q : McPartition} (hq : PartInside s q)
include hq

theorem blockOf_fits {p : Nat} (hp : p ≤ 2) : Fits s p (q.blockOf p).x (q.blockOf p).y (q.blockOf p).w (q.blockOf p).h := by
  obtain ⟨⟨hx1, hx2⟩, ⟨hy1, hy2⟩, -, -⟩ := hq
  by_cases h0 : p = 0
  · subst h0
    exact ⟨Nat.zero_le 2, by simp only [McPartition.blockOf, if_true]; omega⟩
  · exact ⟨hp, by simp only [McPartition.blockOf, if_neg h0]; omega⟩

/-- `setDst` aims at the partition's block. -/
theorem keeps_setDst_bind (p : Nat) {f : Unit → Op β} (hf : Op.Keeps (AimedAt s (q.blockOf p)) (f ())) :
    Op.Keeps (Here s) (q.setDst p >>= f) := by
  obtain ⟨⟨hx1, hx2⟩, ⟨hy1, hy2⟩, ⟨hw1, hh1⟩, hX, hY⟩ := hq
  have hdiv (v : Nat) : v / (if p = 0 then 1 else 2) ≤ v := Nat.div_le_self ..
  have hx := hdiv q.x0
  have hy := hdiv q.y0
  have hw := hdiv q.w
  have hh := hdiv q.h
  have hsize {v : Nat} (hv : v < 2 ^ 5) : (BitVec.ofNat 5 v).toNat = v :=
    (BitVec.toNat_ofNat ..).trans (Nat.mod_eq_of_lt hv)
  refine Op.keeps_modify_bind (fun u hu => ⟨here_mc _ hu, ?_, ?_, ?_, ?_⟩) (fun _ h => h.1) hf
  · exact congrArg some (toNat_destCoordinate (by omega))
  · exact congrArg some (toNat_destCoordinate (by omega))
  · exact congrArg some (hsize (by omega))
  · exact congrArg some (hsize (by omega))

theorem predictLuma_keeps_here (mx my : Int) : Op.Keeps (Here s) (q.predictLuma mx my) :=
  keeps_setDst_bind hq 0 <| Op.keeps_bind (Op.keeps_modify fun _ hu => ⟨here_mc _ hu.1, hu.2⟩) fun _ =>
    Op.keeps_nested (sampleOp_keeps_aimed (blockOf_fits hq (Nat.zero_le 2)) _)

theorem predictChroma_keeps_here (mx my : Int) {p : Nat} (hp : p ≤ 2) : Op.Keeps (Here s) (q.predictChroma mx my p) :=
  keeps_setDst_bind hq p <| Op.keeps_bind (Op.keeps_modify fun _ hu => ⟨here_mc _ hu.1, hu.2⟩) fun _ =>
    Op.keeps_bind (Op.keeps_modify fun _ hu => ⟨here_mc _ hu.1, hu.2⟩) fun _ =>
      Op.keeps_nested (mcChroma_keeps_aimed (blockOf_fits hq hp))

theorem predictPart_keeps_here (slot : Nat) (weighted : Bool) (c : (Nat × Nat) × Nat) :
    Op.Keeps (Here s) (q.predict slot weighted c) :=
  Op.keeps_bind (Op.keeps_need _) fun _ => Op.keeps_bind (Op.keeps_read _) fun _ => Op.keeps_bind (waitRow_keeps _ _ _) fun _ =>
    Op.keeps_bind (Op.keeps_modify fun _ hu => here_mc _ hu) fun _ => Op.keeps_bind (predictLuma_keeps_here hq _ _) fun _ =>
      Op.keeps_read_bind fun u _ => Op.keeps_each _ fun p hp => predictChroma_keeps_here hq _ _ (chromaPlanes_le u p hp)

theorem weightPart_keeps_here (used : List (Nat × Nat)) : Op.Keeps (Here s) (q.weight used) := by
  refine Op.keeps_read_bind fun u _ => Op.keeps_each _ fun p hmem => keeps_setDst_bind hq p ?_
  have hp : p ≤ 2 := by
    rcases List.mem_cons.mp hmem with rfl | h
    · exact Nat.zero_le 2
    · exact chromaPlanes_le u p h
  split
  · exact Op.keeps_nested (weightUni_keeps_aimed (blockOf_fits hq hp) _ _)
  · exact Op.keeps_nested (weightBi_keeps_aimed (blockOf_fits hq hp) _ _)
  · exact Op.keeps_pure ()

end

/-- A partition of a macroblock. -/
def PartNamed (n w h : Nat) : Prop := 4 * bx n + w ≤ 16 ∧ 4 * byRow n + h ≤ 16 ∧ 1 ≤ w ∧ 1 ≤ h

theorem mcPart_keeps_here (hX : s.mbX.toNat < 4096) (hY : s.mbY.toNat < 4096) {n w h : Nat} (hn : PartNamed n w h) :
    Op.Keeps (Here s) (mcPart n w h) := by
  refine Op.keeps_read_bind fun u hu => ?_
  have hq : PartInside s ⟨16 * u.mbX.toNat + 4 * bx n, 16 * u.mbY.toNat + 4 * byRow n, w, h⟩ := by
    obtain ⟨h1, h2, hw, hh⟩ := hn
    rw [hu.mbX, hu.mbY]
    exact ⟨⟨by simp only; omega, by simp only; omega⟩, ⟨by simp only; omega, by simp only; omega⟩, ⟨hw, hh⟩, hX, hY⟩
  exact Op.keeps_bind (Op.keeps_bind (Op.keeps_read _) fun _ => Op.keeps_bind (Op.keeps_collect _ fun _ _ => Op.keeps_need _) fun _ =>
      Op.keeps_pure _) fun used => Op.keeps_bind (Op.keeps_require _ _) fun _ => Op.keeps_bind (Op.keeps_read _) fun _ =>
    Op.keeps_bind (Op.keeps_eachNested _ fun c _ => predictPart_keeps_here hq _ _ c) fun _ =>
      Op.keeps_when _ (weightPart_keeps_here hq used)

end Sys2Proof.Machine
end

section
/-! Proofs. `MB_RECON` and its parts stay in the macroblock (20_memory.md R82; 45_reconstruction.md R450 to R455). -/

namespace Sys2Proof.Machine

open Sys2Proof.Stated

variable {s t u : State} {α β : Type}

/-! ### The samples of one macroblock -/

theorem add4_keeps_here (s : State) (kind : MbKind) (b : Nat) : Op.Keeps (Here s) (add4 kind b) :=
  have ⟨hfull, hdc⟩ := idct4_keeps_here s b
  Op.keeps_bind (Op.keeps_need _) fun _ => Op.keeps_bind (Op.keeps_read _) fun _ =>
    Op.keeps_ite (Op.keeps_ite hfull (Op.keeps_ite hdc (Op.keeps_pure _)))
      (Op.keeps_ite (Op.keeps_pure _) (Op.keeps_ite hdc hfull))

theorem add8_keeps_here (s : State) {q : Nat} (hq : q ≤ 3) : Op.Keeps (Here s) (add8 q) :=
  have ⟨hfull, hdc⟩ := idct8_keeps_here s hq
  Op.keeps_bind (Op.keeps_need _) fun _ => Op.keeps_bind (Op.keeps_read _) fun _ =>
    Op.keeps_ite (Op.keeps_pure _) (Op.keeps_ite hdc hfull)

/-- The macroblock's whole block of a plane. -/
theorem pcmBlock_keeps_here (s : State) {p n : Nat} (k : Nat) (hp : p ≤ 2) (hn : n = if p = 0 then 16 else 8) :
    Op.Keeps (Here s) (pcmBlock p k n) := by
  refine Op.keeps_bind (Op.keeps_require _ _) fun _ => Op.keeps_read_bind fun u hu => Op.keeps_read_bind fun v hv => ?_
  rw [hu.mbX, hv.mbY]
  refine updateBlock_keeps_of_fits ⟨hp, ?_⟩ _
  rw [← hn]
  exact ⟨Nat.le_refl _, Nat.le_refl _, Nat.le_refl _, Nat.le_refl _⟩

theorem reconPcm_keeps_here (s : State) : Op.Keeps (Here s) reconPcm :=
  Op.keeps_bind (pcmBlock_keeps_here s 0 (Nat.zero_le 2) rfl) fun _ => Op.keeps_bind (Op.keeps_read _) fun _ => Op.keeps_when _ <|
    Op.keeps_bind (pcmBlock_keeps_here s 256 (Nat.le_succ 1) rfl) fun _ => pcmBlock_keeps_here s 320 (Nat.le_refl 2) rfl

/-- Blocks and sizes that are partitions of a macroblock. -/
def PartsNamed (parts : List (Nat × Nat × Nat)) : Prop := ∀ c ∈ parts, PartNamed c.1 c.2.1 c.2.2

theorem partsNamed_of_list {parts : List (Nat × Nat × Nat)}
    (h : parts.all (fun c => decide (4 * bx c.1 + c.2.1 ≤ 16 ∧ 4 * byRow c.1 + c.2.2 ≤ 16 ∧ 1 ≤ c.2.1 ∧ 1 ≤ c.2.2)) = true) :
    PartsNamed parts := fun c hc => by
  have := of_decide_eq_true (List.all_eq_true.mp h c hc)
  exact this

theorem quadrantParts_named : ∀ q < 4, ∀ shape, PartsNamed (quadrantParts q shape) := by
  intro q hq shape
  obtain rfl | rfl | rfl | rfl := eq_of_le_three (Nat.le_of_lt_succ hq) <;> rcases shape with - | - | - | - | - <;>
    exact partsNamed_of_list rfl

theorem collect_length {f : α → Op β} {as : List α} : Op.Gives (fun bs => bs.length = as.length) (Op.collect as f) := by
  induction as with
  | nil =>
    intro u a v h
    cases h
    rfl
  | cons a as ih =>
    intro u bs v h
    rw [Op.collect_cons] at h
    obtain ⟨b, u', -, h⟩ := Op.bind_ok_iff.mp h
    obtain ⟨bs', w, hbs, h⟩ := Op.bind_ok_iff.mp h
    cases h
    exact congrArg (· + 1) (ih _ _ _ hbs)

theorem interPartitions_gives (kind : MbKind) : Op.Gives PartsNamed (interPartitions kind) := by
  intro u parts v h
  cases kind
  case inter8x8 =>
    obtain ⟨subs, u', hsubs, h⟩ := Op.bind_ok_iff.mp h
    have hlen : subs.length = 4 := collect_length u subs u' hsubs
    cases h
    intro c hc
    obtain ⟨d, hd, hc⟩ := List.mem_flatMap.mp hc
    have hlt : d.2 < subs.length := (List.mem_zipIdx' hd).1
    exact quadrantParts_named d.2 (by omega) _ c hc
  all_goals
    cases h
    exact partsNamed_of_list (by decide)

theorem interLuma_keeps_here (s : State) (kind : MbKind) : Op.Keeps (Here s) (interLuma kind) :=
  Op.keeps_bind (Op.keeps_need _) fun _ => Op.keeps_ite
    (Op.keeps_each _ fun _ hq => add8_keeps_here s (Nat.le_of_lt_succ (List.mem_range.mp hq)))
    (Op.keeps_each _ fun n _ => add4_keeps_here s kind n)

theorem intraLuma_keeps_here (s : State) (kind : MbKind) : Op.Keeps (Here s) (intraLuma kind) := by
  refine Op.keeps_ite (Op.keeps_bind (Op.keeps_need _) fun _ => Op.keeps_ite (Op.keeps_each _ fun q hq => ?_)
    (Op.keeps_each _ fun n _ => ?_)) ?_
  · have hq3 : q ≤ 3 := Nat.le_of_lt_succ (List.mem_range.mp hq)
    exact Op.keeps_bind (intraPred_keeps_here s (.inr (.inl ⟨rfl, by omega⟩))) fun _ => add8_keeps_here s hq3
  · exact Op.keeps_bind (intraPred_keeps_here s (.inl rfl)) fun _ => add4_keeps_here s kind n
  · exact Op.keeps_bind (intraPred_keeps_here s (.inr (.inr (.inl rfl)))) fun _ => Op.keeps_bind (Op.keeps_need _) fun _ =>
      Op.keeps_bind (Op.keeps_when _ (Op.keeps_bind (Op.keeps_read _) fun _ => Op.keeps_bind (Op.keeps_need _) fun _ =>
        lumaDc_keeps (here_coefWrites s) _)) fun _ => Op.keeps_each _ fun n _ => add4_keeps_here s kind n

theorem reconChroma_keeps_here (s : State) (kind : MbKind) : Op.Keeps (Here s) (reconChroma kind) := by
  have hplane (c : Nat) : Op.Keeps (Here s) (chromaPlaneResidual kind c) :=
    Op.keeps_bind (Op.keeps_need _) fun _ =>
      Op.keeps_bind (Op.keeps_when _ (Op.keeps_bind (Op.keeps_need _) fun _ => Op.keeps_bind (Op.keeps_need _) fun _ =>
        chromaDc_keeps (here_coefWrites s) _ _)) fun _ => Op.keeps_each _ fun _ _ => add4_keeps_here s kind _
  exact Op.keeps_bind (Op.keeps_read _) fun _ => Op.keeps_when _ <| Op.keeps_bind (Op.keeps_when _ <|
      Op.keeps_bind (intraPred_keeps_here s (.inr (.inr (.inr ⟨Nat.le_refl 3, .inl rfl⟩)))) fun _ =>
        intraPred_keeps_here s (.inr (.inr (.inr ⟨Nat.le_refl 3, .inr rfl⟩)))) fun _ =>
    Op.keeps_bind (Op.keeps_need _) fun _ => Op.keeps_when _ (Op.keeps_each _ fun c _ => hplane c)

section
variable (hX : s.mbX.toNat < 4096) (hY : s.mbY.toNat < 4096)
include hX hY

theorem interPrediction_keeps_here (kind : MbKind) : Op.Keeps (Here s) (interPrediction kind) :=
  Op.keeps_bind_gives (interPartitions_keeps kind) (interPartitions_gives kind) fun _ hparts =>
    Op.keeps_eachNested _ fun c hc => mcPart_keeps_here hX hY (hparts c hc)

theorem reconSamples_keeps_here (kind : MbKind) : Op.Keeps (Here s) (reconSamples kind) :=
  Op.keeps_ite (reconPcm_keeps_here s) <| Op.keeps_bind (Op.keeps_ite (intraLuma_keeps_here s kind)
      (Op.keeps_bind (interPrediction_keeps_here hX hY kind) fun _ => interLuma_keeps_here s kind)) fun _ =>
    reconChroma_keeps_here s kind

end

/-! ### The entries -/

/-- A write of the arrays that leaves the other macroblocks' entries. -/
theorem here_arrays (hu : Here s u) {a : PicArrays} (ha : SameEntries s.mbXY u.pic.arrays a) :
    Here s { u with pic := { u.pic with arrays := a } } := by
  obtain ⟨⟨h0, hgen, hsamples, hentries⟩, hx, hy, h1⟩ := hu
  refine ⟨⟨h0, hgen, hsamples, fun k hk => ?_⟩, hx, hy, h1⟩
  obtain ⟨a1, a2, a3, a4, a5, a6, a7, a8⟩ := ha k hk
  obtain ⟨b1, b2, b3, b4, b5, b6, b7, b8⟩ := hentries k hk
  exact ⟨a1.trans b1, a2.trans b2, a3.trans b3, a4.trans b4, fun n hn => (a5 n hn).trans (b5 n hn),
    fun n hn => (a6 n hn).trans (b6 n hn), fun n hn => (a7 n hn).trans (b7 n hn), fun n hn => (a8 n hn).trans (b8 n hn)⟩

section
variable {mb : Nat} {a : PicArrays}

theorem sameEntries_head (sl : BitVec 16) (m : Mb) (q : BitVec 7) (c : BitVec 16) : SameEntries mb a { a with
    slice := Cells.put a.slice mb sl, mbType := Cells.put a.mbType mb m, qscale := Cells.put a.qscale mb q
    cbp := Cells.put a.cbp mb c } := fun _ hk =>
  ⟨Cells.look_put_ne hk .., Cells.look_put_ne hk .., Cells.look_put_ne hk .., Cells.look_put_ne hk .., fun _ _ => rfl,
    fun _ _ => rfl, fun _ _ => rfl, fun _ _ => rfl⟩

theorem sameEntries_nnz {n : Nat} (hn : n < 24) (v : BitVec 8) :
    SameEntries mb a { a with nnz := Cells.put a.nnz (24 * mb + n) v } := fun k hk =>
  ⟨rfl, rfl, rfl, rfl, fun _ _ => rfl, fun m hm => Cells.look_put_ne (by omega) .., fun _ _ => rfl, fun _ _ => rfl⟩

theorem sameEntries_i4 {n : Nat} (hn : n < 16) (v : BitVec 8) :
    SameEntries mb a { a with i4 := Cells.put a.i4 (16 * mb + n) v } := fun k hk =>
  ⟨rfl, rfl, rfl, rfl, fun m hm => Cells.look_put_ne (by omega) .., fun _ _ => rfl, fun _ _ => rfl, fun _ _ => rfl⟩

theorem sameEntries_ref {l q : Nat} (hl : l < 2) (hq : q < 4) (v : BitVec 8) :
    SameEntries mb a { a with ref := Cells.put a.ref (4 * (2 * mb + l) + q) v } := fun k hk =>
  ⟨rfl, rfl, rfl, rfl, fun _ _ => rfl, fun _ _ => rfl, fun m hm => Cells.look_put_ne (by omega) .., fun _ _ => rfl⟩

theorem sameEntries_mv {l n : Nat} (hl : l < 2) (hn : n < 16) (v : Mv) :
    SameEntries mb a { a with mv := Cells.put a.mv (16 * (2 * mb + l) + n) v } := fun k hk =>
  ⟨rfl, rfl, rfl, rfl, fun _ _ => rfl, fun _ _ => rfl, fun _ _ => rfl, fun m hm => Cells.look_put_ne (by omega) ..⟩

end

theorem mbXY_eq_of_here (hu : Here s u) : u.mbXY = s.mbXY := by
  rw [State.mbXY, State.picW, hu.mbX, hu.mbY, hu.cr1]
  rfl

theorem writebackMotion_keeps_here (intra : Bool) {l : Nat} (hl : l < 2) :
    Op.Keeps (Here s) (writebackMotion s.mbXY intra l) :=
  Op.keeps_bind
    (Op.keeps_each _ fun _ hq => Op.keeps_bind (Op.keeps_ite (Op.keeps_pure _) (Op.keeps_need _)) fun _ =>
      Op.keeps_modify fun _ hu => here_arrays hu (sameEntries_ref hl (List.mem_range.mp hq) _))
    fun _ => Op.keeps_each _ fun _ hn => Op.keeps_bind (Op.keeps_ite (Op.keeps_pure _) (Op.keeps_need _)) fun _ =>
      Op.keeps_modify fun _ hu => here_arrays hu (sameEntries_mv hl (List.mem_range.mp hn) _)

theorem cacheWriteback_keeps_here (s : State) : Op.Keeps (Here s) cacheWriteback := by
  refine Op.keeps_bind (Op.keeps_require _ _) fun _ => Op.keeps_bind (Op.keeps_need _) fun kind => Op.keeps_read_bind fun u hu => ?_
  rw [mbXY_eq_of_here hu]
  have hmodes : Op.Keeps (Here s) (Op.each (List.range 16) fun n => do
      let v ← i4At (scan8 n)
      setArrays fun a => { a with i4 := Cells.put a.i4 (16 * s.mbXY + n) v }) :=
    Op.keeps_each _ fun n hn => Op.keeps_bind (Op.keeps_need _) fun _ =>
      Op.keeps_modify fun _ hu => here_arrays hu (sameEntries_i4 (List.mem_range.mp hn) _)
  exact Op.keeps_bind (Op.keeps_read _) fun q => Op.keeps_bind (Op.keeps_ite (Op.keeps_pure _) (Op.keeps_need _)) fun c =>
    Op.keeps_bind (Op.keeps_modify fun _ hu => here_arrays hu (sameEntries_head _ _ _ _)) fun _ =>
      Op.keeps_bind (Op.keeps_each _ fun n hn => Op.keeps_bind (Op.keeps_need _) fun _ =>
        Op.keeps_modify fun _ hu => here_arrays hu (sameEntries_nnz (List.mem_range.mp hn) _)) fun _ =>
      Op.keeps_bind (Op.keeps_when _ hmodes) fun _ => Op.keeps_read_bind fun v _ => Op.keeps_each _ fun l hl =>
        writebackMotion_keeps_here _ (Nat.lt_of_lt_of_le (List.mem_range.mp hl) v.listCount_le)

/-! ### The commands -/

theorem Outside.of_eq {v : State} (h : Outside s u) (hcr0 : v.cr0 = u.cr0) (hplanes : v.pic.planes = u.pic.planes)
    (harrays : v.pic.arrays = u.pic.arrays) : Outside s v := by
  obtain ⟨h0, hgen, hsamples, hentries⟩ := h
  exact ⟨hcr0.trans h0, hplanes ▸ hgen, hplanes ▸ hsamples, harrays ▸ hentries⟩

theorem outside_endWrites (s : State) : EndWrites (Outside s) where
  status _ _ h := h.of_eq rfl rfl rfl
  raise u k h := by
    refine h.of_eq rfl ?_ ?_ <;> · unfold State.raise; dsimp only; split <;> rfl
  wait _ _ _ h := h.of_eq rfl rfl rfl

theorem mbRecon_ends_outside (hX : s.mbX.toNat < 4096) (hY : s.mbY.toNat < 4096) : Ends (Outside s) (mbRecon s) := by
  have hhere (kind : MbKind) : Op.Keeps (Here s) (do
      reconSamples kind
      Op.modify fun s => { s with coefs := Coefs.zero }
      cacheWriteback) :=
    Op.keeps_bind (reconSamples_keeps_here hX hY kind) fun _ =>
      Op.keeps_bind (Op.keeps_modify (here_coefWrites s).zeroAll) fun _ => cacheWriteback_keeps_here s
  have hassoc : mbRecon = (mbKind >>= fun kind => (do
      reconSamples kind
      Op.modify fun s => { s with coefs := Coefs.zero }
      cacheWriteback : Op Unit) >>= fun _ => Op.modify State.advanceMb >>= fun _ => setRes 0) := by
    simp only [mbRecon, bind_assoc]
  rw [hassoc, Op.bind_run]
  cases hk : mbKind s with
  | error e u =>
    have hu := (Op.keeps_need (P := Here s) _).error (here_refl s) hk
    exact hu.toOutside
  | ok kind u =>
    have hu : Here s u := (Op.keeps_need (P := Here s) _).ok (here_refl s) hk
    have hrest := hhere kind u hu
    dsimp only
    rw [Op.bind_run]
    cases hr : (do
      reconSamples kind
      Op.modify fun s => { s with coefs := Coefs.zero }
      cacheWriteback : Op Unit) u with
    | error e v =>
      rw [hr] at hrest
      exact Here.toOutside hrest
    | ok _ v =>
      rw [hr] at hrest
      exact (Here.toOutside hrest).of_eq rfl rfl rfl

/-- A command whose body stays outside the other macroblocks does. -/
theorem command_outside {accepted legal : Bool} {body : Op Unit} (hb : (accepted && legal) = true → Ends (Outside s) (body s))
    (h : command accepted legal body s = .next t) : Outside s t := by
  obtain ⟨hstatus, hraise, hwait⟩ := outside_endWrites s
  cases ha : accepted && legal
  · rw [command_reject ha] at h
    cases h
    exact hstatus s _ (here_refl s).toOutside
  · have hends := hb ha
    rw [command_run ha] at h
    rcases finish_next h with ⟨u, hu, rfl⟩ | ⟨k, u, hu, rfl⟩ | ⟨k, u, hu, rfl⟩ | ⟨u, hu, rfl⟩
    · rw [hu] at hends; exact hstatus u _ hends
    · exact hstatus s _ (here_refl s).toOutside
    · rw [hu] at hends; exact hraise u k hends
    · rw [hu] at hends; exact hwait u _ _ hends

theorem command_outside_of_keeps {accepted legal : Bool} {body : Op Unit}
    (hb : legal = true → Op.Keeps (Here s) body) (h : command accepted legal body s = .next t) : Outside s t :=
  command_outside (fun ha => (hb (and_right ha) s (here_refl s)).mono fun _ hu => hu.toOutside) h

theorem intraNamed_of_legal {kind b : BitVec 8} (h : Legal.intraBlock kind b = true) : IntraNamed kind.toNat b.toNat := by
  rw [Legal.intraBlock] at h
  unfold IntraNamed
  split at h
  case h_1 hk => exact .inl hk
  case h_2 hk =>
    have hb := of_decide_eq_true h
    simp only [List.mem_cons, List.not_mem_nil, or_false] at hb
    exact .inr (.inl ⟨hk, by omega⟩)
  case h_3 hk => exact .inr (.inr (.inl hk))
  case h_4 hk => exact .inr (.inr (.inr ⟨by omega, of_decide_eq_true h⟩))
  case h_5 => cases h

theorem partNamed_of_legal {n w h : BitVec 8} (hl : Legal.partition n w h = true) : PartNamed n.toNat w.toNat h.toNat := by
  obtain ⟨-, hw, hh, hx, hy⟩ := of_decide_eq_true hl
  simp only [List.mem_cons, List.not_mem_nil, or_false] at hw hh
  exact ⟨hx, hy, by omega, by omega⟩

theorem exec_outside {i : Instr} (hi : ofOneMacroblock i = true) (hX : s.mbX.toNat < 4096) (hY : s.mbY.toNat < 4096)
    (h : exec i s = .next t) : Outside s t := by
  cases i
  case mcPart => exact command_outside_of_keeps (fun hl => mcPart_keeps_here hX hY (partNamed_of_legal hl)) h
  case idct4Add => exact command_outside_of_keeps (fun _ => (idct4_keeps_here s _).1) h
  case idct4DcAdd => exact command_outside_of_keeps (fun _ => (idct4_keeps_here s _).2) h
  case idct8Add => exact command_outside_of_keeps (fun hl => (idct8_keeps_here s (of_decide_eq_true hl)).1) h
  case idct8DcAdd => exact command_outside_of_keeps (fun hl => (idct8_keeps_here s (of_decide_eq_true hl)).2) h
  case intraPred => exact command_outside_of_keeps (fun hl => intraPred_keeps_here s (intraNamed_of_legal (and_left hl))) h
  case mbRecon => exact command_outside (fun _ => mbRecon_ends_outside hX hY) h
  all_goals cases hi

/-- Settles O58: a sample outside the macroblock has an index no block of it has. -/
theorem reconstructionStaysInMacroblock : Obligations.ReconstructionStaysInMacroblock := by
  intro i s t hi _ hX hY h
  obtain ⟨h0, hgen, hsamples, hentries⟩ := exec_outside hi hX hY h
  refine ⟨fun p x y hp hx hout => ?_, hentries⟩
  have hdepth : t.bitDepth = s.bitDepth := congrArg (fun c : Word => (c.extractLsb' 2 4).toNat) h0
  refine State.sample_congr hdepth hgen (hsamples p hp _ fun x' y' hin heq => ?_)
  have hW := s.planeW_lt p
  have hx' : x' < 2 ^ 20 := by
    obtain ⟨-, hlt, -⟩ := of_decide_eq_true hin
    split at hlt <;> omega
  obtain ⟨rfl, rfl⟩ := (sampleIndex_inj (by omega) hx').mp heq
  rw [hin] at hout
  cases hout

end Sys2Proof.Machine
end

section
/-! Proofs. `MC_PART` as the commands it is made of (44_motion_comp.md R408). -/

namespace Sys2Proof.Machine

open Sys2Proof.Stated

variable {α β γ : Type} {s t : State}

/-! ### Further rules for steps -/

/-- The steps that follow a view see the state it was taken of. -/
theorem Follows.view_bind {f : State → α} {g : State → β} {p : α → Steps γ} {m : β → Op γ}
    (h : ∀ s, Follows (p (f s)) (m (g s))) : Follows (Stated.view f >>= p) (Op.read g >>= m) := by
  intro s c t hc
  obtain ⟨a, u, ha, hc⟩ := Steps.bind_some_iff.mp hc
  cases ha
  exact (Op.bind_ok (Op.read_run g s)).trans (h s s c t hc)

/-- What follows may use what the operation is known to give. -/
theorem Follows.bind_gives {Q : α → Prop} {p : Steps α} {m : Op α} {f : α → Steps β} {g : α → Op β} (h : Follows p m)
    (hg : Op.Gives Q m) (hf : ∀ a, Q a → Follows (f a) (g a)) : Follows (p >>= f) (m >>= g) := by
  intro s b t hb
  obtain ⟨a, u, ha, hb⟩ := Steps.bind_some_iff.mp hb
  have hm := h s a u ha
  rw [Op.bind_ok hm]
  exact hf a (hg s a u hm) u b t hb

/-- Two lists that correspond element by element. -/
inductive ListRel (R : α → β → Prop) : List α → List β → Prop
  | nil : ListRel R [] []
  | cons {a : α} {b : β} {as : List α} {bs : List β} : R a b → ListRel R as bs → ListRel R (a :: as) (b :: bs)

/-- The images of one list correspond where the images of its elements do. -/
theorem ListRel.map {γ : Type} {R : α → β → Prop} {f : γ → α} {g : γ → β} : ∀ {cs : List γ}, (∀ c ∈ cs, R (f c) (g c)) →
    ListRel R (cs.map f) (cs.map g)
  | [], _ => .nil
  | c :: cs, h => .cons (h c (by simp)) (ListRel.map fun d hd => h d (List.mem_cons_of_mem c hd))

theorem ListRel.map_right {R : α → β → Prop} {g : α → β} {as : List α} (h : ∀ a ∈ as, R a (g a)) : ListRel R as (as.map g) := by
  have hmap : ListRel R (as.map id) (as.map g) := .map h
  rwa [List.map_id] at hmap

theorem ListRel.same {R : α → α → Prop} {as : List α} (h : ∀ a ∈ as, R a a) : ListRel R as as := by
  have hmap : ListRel R as (as.map id) := .map_right h
  rwa [List.map_id] at hmap

theorem ListRel.imp {R Q : α → β → Prop} (h : ∀ a b, R a b → Q a b) : ∀ {as : List α} {bs : List β}, ListRel R as bs →
    ListRel Q as bs
  | _, _, .nil => .nil
  | _, _, .cons hab hs => .cons (h _ _ hab) (hs.imp h)

/-- Steps and operations over lists that correspond element by element. -/
theorem Follows.forEach₂ {f : α → Steps Unit} {g : β → Op Unit} {as : List α} {bs : List β}
    (h : ListRel (fun a b => Follows (f a) (g b)) as bs) : Follows (Stated.forEach as f) (Op.each bs g) := by
  induction h with
  | nil => exact .pure
  | cons h _ ih => exact .bind h fun _ => ih

theorem Op.gives_collect {Q : α → β → Prop} {f : α → Op β} {as : List α} (h : ∀ a ∈ as, Op.Gives (Q a) (f a)) :
    Op.Gives (ListRel Q as) (Op.collect as f) := by
  induction as with
  | nil =>
    intro u bs v hbs
    cases hbs
    exact .nil
  | cons a as ih =>
    intro u bs v hbs
    rw [Op.collect_cons] at hbs
    obtain ⟨b, u', hb, hbs⟩ := Op.bind_ok_iff.mp hbs
    obtain ⟨bs', w, hbs', hw⟩ := Op.bind_ok_iff.mp hbs
    cases hw
    exact .cons (h a (by simp) _ _ _ hb) (ih (fun c hc => h c (List.mem_cons_of_mem _ hc)) _ _ _ hbs')

/-! ### The commands issued -/

theorem sampleOp_keepsStatus (p : Nat) (f : Formula) : Op.KeepsStatus (sampleOp p f) := fun st =>
  sampleOp_keeps (bodyWrites_status st).toMcWrites p f

/-- A luma phase by its number. -/
theorem exec_phases {k : Nat} (hk : k < 16) (s : State) :
    exec (phases.getD k .qpelMc00) s = command s.isRun true (sampleOp 0 (phaseFormula k)) s := by
  have hk' : k = 0 ∨ k = 1 ∨ k = 2 ∨ k = 3 ∨ k = 4 ∨ k = 5 ∨ k = 6 ∨ k = 7 ∨ k = 8 ∨ k = 9 ∨ k = 10 ∨ k = 11 ∨ k = 12
    ∨ k = 13 ∨ k = 14 ∨ k = 15 := by omega
  obtain rfl | rfl | rfl | rfl | rfl | rfl | rfl | rfl | rfl | rfl | rfl | rfl | rfl | rfl | rfl | rfl := hk' <;> rfl

theorem follows_phase {k : Nat} (hk : k < 16) : Follows (issue (phases.getD k .qpelMc00)) (sampleOp 0 (phaseFormula k)) :=
  .issue (fun s => ⟨_, _, exec_phases hk s⟩) (sampleOp_stops _ _) (sampleOp_keepsStatus _ _)

theorem follows_mcChroma (p : BitVec 8) : Follows (issue (.mcChroma p)) (mcChroma p.toNat) :=
  .issue (fun _ => ⟨_, _, rfl⟩) (mcChroma_stops _) fun st => mcChroma_keeps (bodyWrites_status st).toMcWrites _

theorem follows_weightUni (p l r : BitVec 8) : Follows (issue (.weightUni p l r)) (weightUni p.toNat l.toNat r.toNat) :=
  .issue (fun _ => ⟨_, _, rfl⟩) (weightUni_stops Stop.legal_stopSet _ _ _)
    fun st => weightUni_keeps (bodyWrites_status st).toPlaneWrites _ _ _

theorem follows_weightBi (p r0 r1 : BitVec 8) : Follows (issue (.weightBi p r0 r1)) (weightBi p.toNat r0.toNat r1.toNat) :=
  .issue (fun _ => ⟨_, _, rfl⟩) (weightBi_stops _ _ _) fun st => weightBi_keeps (bodyWrites_status st).toPlaneWrites _ _ _

theorem follows_waitRow {l r : Nat} {row : Int} (hl : l < 2 ^ 8) (hr : r < 2 ^ 8) (hrow : -2 ^ 31 ≤ row ∧ row < 2 ^ 31) :
    Follows (issue (.waitRow (BitVec.ofNat 8 l) (BitVec.ofNat 8 r) (BitVec.ofInt 32 row))) (waitRow l r row) := by
  have hl' : (BitVec.ofNat 8 l).toNat = l := Nat.mod_eq_of_lt hl
  have hr' : (BitVec.ofNat 8 r).toNat = r := Nat.mod_eq_of_lt hr
  have hrow' : (BitVec.ofInt 32 row).toInt = row := by
    rw [BitVec.toInt_ofInt, Int.bmod_eq_of_le] <;> omega
  have h : Follows (issue (.waitRow (BitVec.ofNat 8 l) (BitVec.ofNat 8 r) (BitVec.ofInt 32 row)))
      (waitRow (BitVec.ofNat 8 l).toNat (BitVec.ofNat 8 r).toNat (BitVec.ofInt 32 row).toInt) :=
    .issue (fun _ => ⟨_, _, rfl⟩) (waitRow_stops _ _ _) fun _ => waitRow_keeps _ _ _
  rwa [hl', hr', hrow'] at h

theorem neededRow_bounds (s : State) (sy : Int) (h : Nat) : -2 ^ 31 ≤ s.neededRow sy h ∧ s.neededRow sy h < 2 ^ 31 := by
  have := (s.cr1.extractLsb' 16 16).isLt
  rw [State.neededRow, State.picH]
  omega

/-! ### One list -/

/-- The luma block of a partition. -/
def McPartition.whole (q : McPartition) : Block := ⟨q.x0, q.y0, q.w, q.h⟩

theorem McPartition.blockOf_eq (q : McPartition) (p : Nat) : q.blockOf p = if p = 0 then q.whole else q.whole.half := by
  by_cases h : p = 0
  · simp [McPartition.blockOf, McPartition.whole, h]
  · simp [McPartition.blockOf, McPartition.whole, Block.half, h]

theorem follows_aimAt (q : McPartition) (p : Nat) : Follows (aimAt (q.blockOf p)) (q.setDst p) := by
  intro s a t h
  obtain ⟨_, u, honly, hregs⟩ := Steps.bind_some_iff.mp h
  obtain ⟨hfits, hu⟩ := Steps.only_some_iff.mp honly
  obtain ⟨hx, hy⟩ := of_decide_eq_true hfits
  cases hregs
  have hx' : destCoordinate (q.blockOf p).x = BitVec.ofNat 16 (q.blockOf p).x := if_pos hx
  have hy' : destCoordinate (q.blockOf p).y = BitVec.ofNat 16 (q.blockOf p).y := if_pos hy
  rw [← hx', ← hy', hu]
  rfl

/-- The chroma planes present, as the steps name them. -/
theorem chromaPlanes_map (s : State) :
    s.chromaPlanes = (if decide (s.chromaFormat = 1) then [1, 2] else [] : List (BitVec 8)).map BitVec.toNat := by
  rw [State.chromaPlanes]
  by_cases h : s.chromaFormat = 1 <;> simp [h]

theorem follows_predictChroma (q : McPartition) (mx my : Int) {p : BitVec 8} (hp : p.toNat ≠ 0) : Follows
    (aimAt q.whole.half >>= fun _ => sourceAt (q.whole.half.x + mx / 8) (q.whole.half.y + my / 8) >>= fun _ =>
      change (fun s => { s with mc := { s.mc with
        fx := some (BitVec.ofInt 3 (mx % 8)), fy := some (BitVec.ofInt 3 (my % 8)) } }) >>= fun _ => issue (.mcChroma p))
    (q.predictChroma mx my p.toNat) := by
  have haim := follows_aimAt q p.toNat
  rw [McPartition.blockOf_eq, if_neg hp] at haim
  rw [McPartition.predictChroma, shiftRight_three, shiftRight_three]
  exact .bind haim fun _ => .bind .change fun _ => .bind .change fun _ => .nested (follows_mcChroma p)

theorem follows_chromaPlanes {f : BitVec 8 → Steps Unit} {g : Nat → Op Unit}
    (h : ∀ p : BitVec 8, p.toNat ≠ 0 → Follows (f p) (g p.toNat)) : Follows
    (view (fun s => decide (s.chromaFormat = 1)) >>= fun chroma => onlyIf chroma (forEach [1, 2] f))
    (Op.read State.chromaPlanes >>= fun planes => Op.each planes g) := by
  refine .view_bind fun s => ?_
  rw [State.chromaPlanes]
  by_cases hc : s.chromaFormat = 1
  · rw [if_pos hc, decide_eq_true hc]
    exact .bind (h 1 (by decide)) fun _ => .bind (h 2 (by decide)) fun _ => .pure
  · rw [if_neg hc, decide_eq_false hc]
    exact .pure

theorem follows_predict (q : McPartition) (slot : Nat) {l r k : Nat} (weighted : Bool) (hl : l < 2 ^ 8) (hr : r < 2 ^ 8) :
    Follows (predictSteps q.whole slot l r (weighted && !decide (k = 0)) (!weighted && !decide (k = 0)))
      (q.predict slot weighted ((l, r), k)) := by
  have haim := follows_aimAt q 0
  rw [McPartition.blockOf_eq, if_pos rfl] at haim
  simp only [predictSteps, McPartition.predict, McPartition.predictLuma, bind_assoc, shiftRight_two]
  exact .bind (.held fun _ => rfl) fun mv => .view_bind fun u =>
    .bind (follows_waitRow hl hr (neededRow_bounds ..)) fun _ => .bind .change fun _ => .bind haim fun _ =>
    .bind .change fun _ => .bind (.nested (follows_phase (by omega))) fun _ =>
      follows_chromaPlanes fun p hp => follows_predictChroma q _ _ hp

/-- The lists a partition uses, each with its reference. -/
def usedOf (refs : List (Nat × BitVec 8)) : List (Nat × BitVec 8) := refs.filter fun c => decide (0 ≤ c.2.toInt)

theorem Op.collect_pair {f : α → Op β} (as : List α) :
    (Op.collect as fun a => f a >>= fun b => pure (a, b)) = Op.collect as f >>= fun bs => pure (as.zip bs) := by
  induction as with
  | nil => rfl
  | cons a as ih => simp only [Op.collect_cons, ih, bind_assoc, pure_bind, List.zip_cons_cons]

theorem usedLists_eq (slot : Nat) : usedLists slot = Op.read State.lists >>= fun lists =>
    (Op.collect lists fun l => Machine.refAt l slot >>= fun r => pure (l, r)) >>= fun refs =>
      pure ((usedOf refs).map fun c => (c.1, c.2.toNat)) := by
  simp only [usedLists, Op.collect_pair, bind_assoc, pure_bind]
  rfl

/-- The weighting of one plane, as the steps have it. -/
def weightSteps (b : Block) (used : List (Nat × BitVec 8)) (p : BitVec 8) : Steps Unit := do
  aimAt (if p = 0 then b else b.half)
  match used with
  | [] => only false
  | [c] => issue (.weightUni p (BitVec.ofNat 8 c.1) c.2)
  | c :: d :: _ => issue (.weightBi p c.2 d.2)

theorem follows_weight (q : McPartition) {used : List (Nat × BitVec 8)} (h : ∀ c ∈ used, c.1 < 2 ^ 8) : Follows
    (view (fun s => decide (s.chromaFormat = 1)) >>= fun chroma =>
      forEach ((0 : BitVec 8) :: if chroma then [1, 2] else []) (weightSteps q.whole used))
    (q.weight (used.map fun c => (c.1, c.2.toNat))) := by
  refine .view_bind fun s => ?_
  have hzero (p : BitVec 8) : p = 0 ↔ p.toNat = 0 := BitVec.toNat_inj.symm
  have hplane (p : BitVec 8) : Follows (weightSteps q.whole used p) (q.setDst p.toNat >>= fun _ =>
      match used.map fun c => (c.1, c.2.toNat) with
      | [(l, r)] => Op.nested (weightUni p.toNat l r)
      | (_, r0) :: (_, r1) :: _ => Op.nested (weightBi p.toNat r0 r1)
      | [] => pure ()) := by
    have haim := follows_aimAt q p.toNat
    simp only [McPartition.blockOf_eq, ← hzero] at haim
    refine .bind haim fun _ => ?_
    match used, h with
    | [], _ => exact fun _ _ _ h => nomatch h
    | [c], h =>
      have hc : (BitVec.ofNat 8 c.1).toNat = c.1 := Nat.mod_eq_of_lt (h c (by simp))
      have := Follows.nested (follows_weightUni p (BitVec.ofNat 8 c.1) c.2)
      rwa [hc] at this
    | c :: d :: _, _ => exact .nested (follows_weightBi p c.2 d.2)
  rw [chromaPlanes_map]
  exact .bind (hplane 0) fun _ => .forEach₂ (.map_right fun p _ => hplane p)

/-- The partition `MC_PART` predicts. -/
def partOf (s : State) (n w h : Nat) : McPartition := ⟨16 * s.mbX.toNat + 4 * bx n, 16 * s.mbY.toNat + 4 * byRow n, w, h⟩

/-- What `MC_PART` does with the references of its lists. -/
def mcPartWith (q : McPartition) (slot : Nat) (used : List (Nat × Nat)) : Op Unit := do
  Op.require (fun _ => !used.isEmpty) (.rejected .illegalCommand)
  let mode ← Op.read State.useWeight
  let weighted := decide (mode = 1 ∨ (mode = 2 ∧ used.length = 2))
  Op.eachNested used.zipIdx (q.predict slot weighted)
  Op.when weighted (q.weight used)

theorem follows_predictMore (q : McPartition) (slot : Nat) (weighted : Bool) {more : List (Nat × BitVec 8)} :
    ∀ k, (∀ c ∈ more, c.1 < 2 ^ 8) → Follows
      (forEach more fun c => predictSteps q.whole slot c.1 c.2.toNat weighted (!weighted))
      (Op.each ((more.map fun c => (c.1, c.2.toNat)).zipIdx (k + 1)) fun c => Op.nested (q.predict slot weighted c)) := by
  induction more with
  | nil => exact fun _ _ => .pure
  | cons c more ih =>
    intro k h
    have hc := follows_predict q slot (k := k + 1) weighted (h c (by simp)) c.2.isLt
    simp only [Nat.add_one_ne_zero, decide_false, Bool.not_false, Bool.and_true] at hc
    exact .bind (.nested hc) fun _ => ih (k + 1) fun d hd => h d (List.mem_cons_of_mem _ hd)

theorem gives_usedRefs (slot : Nat) {lists : List Nat} (h : ∀ l ∈ lists, l < 2 ^ 8) :
    Op.Gives (fun refs => ∀ c ∈ usedOf refs, c.1 < 2 ^ 8)
      (Op.collect lists fun l => Machine.refAt l slot >>= fun r => pure (l, r)) := by
  intro u refs v hrefs c hc
  rw [Op.collect_pair] at hrefs
  obtain ⟨rs, w, -, hz⟩ := Op.bind_ok_iff.mp hrefs
  cases hz
  obtain ⟨hc, -⟩ := List.mem_filter.mp hc
  exact h c.1 (List.of_mem_zip hc).1

theorem mcPart_eq (n w h : Nat) : mcPart n w h = Op.read (fun s => partOf s n w h) >>= fun q =>
    Op.read State.lists >>= fun lists =>
    (Op.collect lists fun l => Machine.refAt l (scan8 n) >>= fun r => pure (l, r)) >>= fun refs =>
      mcPartWith q (scan8 n) ((usedOf refs).map fun c => (c.1, c.2.toNat)) := by
  simp only [mcPart, usedLists_eq, bind_assoc, pure_bind]
  rfl

/-- A condition of the operation that holds is no step. -/
theorem Follows.require_bind {c : State → Bool} {e : Stop} {p : Steps α} {m : Op α} (hc : ∀ s, c s = true) (h : Follows p m) :
    Follows p (Op.require c e >>= fun _ => m) :=
  fun s a t hp => (Op.bind_ok (Op.require_true e (hc s))).trans (h s a t hp)

theorem follows_partSteps {n : Nat} (hn : blockX n = 4 * bx n ∧ blockY n = 4 * byRow n) (w h : Nat) :
    Follows (partSteps n w h) (mcPart n w h) := by
  rw [mcPart_eq]
  unfold partSteps
  rw [hn.1, hn.2]
  refine .view_bind fun s0 => .view_bind fun s1 => ?_
  have hlists : ∀ l ∈ s1.lists, l < 2 ^ 8 := fun l hl => by
    have := s1.listCount_le
    have := List.mem_range.mp hl
    omega
  refine .bind_gives (.gather fun l _ => .bind (.held fun _ => rfl) fun _ => .pure) (gives_usedRefs _ hlists) fun refs hrefs => ?_
  generalize hu : usedOf refs = used at hrefs ⊢
  have hu' : refs.filter (fun c => decide (0 ≤ c.2.toInt)) = used := hu
  simp only [hu', mcPartWith]
  match used, hrefs with
  | [], _ =>
    rintro s ⟨⟩ t h
    obtain ⟨mode, u, -, hnone⟩ := Steps.bind_some_iff.mp h
    cases hnone
  | c :: more, hrefs =>
    refine .require_bind (fun _ => rfl) (.bind .view fun mode => ?_)
    simp only [List.length_map]
    generalize decide (mode = 1 ∨ (mode = 2 ∧ (c :: more).length = 2)) = weighted
    have hfirst := follows_predict (partOf s0 n w h) (scan8 n) (k := 0) weighted (hrefs c (by simp)) c.2.isLt
    simp only [decide_true, Bool.not_true, Bool.and_false] at hfirst
    have hmore := follows_predictMore (partOf s0 n w h) (scan8 n) weighted 0 fun d hd => hrefs d (List.mem_cons_of_mem _ hd)
    rw [List.map_cons, List.zipIdx_cons, Op.eachNested_cons, bind_assoc]
    refine .bind hfirst fun _ => .bind hmore fun _ => .onlyIf fun _ => ?_
    have hw := follows_weight (partOf s0 n w h) hrefs
    cases more <;> exact hw

theorem partitionPrediction_steps {n w h : BitVec 8} {u : State} (he : s.engine = .run)
    (hw : Instr.wellFormed (.mcPart n w h) = true) (hsteps : afterSteps (partSteps n.toNat w.toNat h.toNat) s = some u) :
    exec (.mcPart n w h) s = .next { u with status := .ended .ok } := by
  obtain ⟨⟨_, t⟩, hrun, rfl⟩ := Option.map_eq_some_iff.mp hsteps
  have hn : n.toNat < 16 := Nat.lt_succ_of_le (of_decide_eq_true hw).1
  exact command_ok (accepts_run he hw) (follows_partSteps (blockX_blockY_eq _ hn) _ _ s () t hrun)

end Sys2Proof.Machine
end

section
/-! Proofs. `MC_PART` from one list and unweighted (44_motion_comp.md R373 to R394, R408): the wait, then the luma block and for 4:2:0
the two chroma blocks. -/

namespace Sys2Proof.Machine

open Sys2Proof.Stated

variable {s : State} {q : McPartition}

/-! ### The operand registers and the planes -/

/-- A state whose operand registers, planes and free-value counter have moved on. -/
def State.predicted (s : State) (m : McRegs) (pl : Planes) (c : Nat) : State :=
  { s with mc := m, pic := { s.pic with planes := pl }, freeCtr := c }

theorem State.sample_predicted {m m' : McRegs} {pl pl' : Planes} {c c' p : Nat} (hgen : pl'.gen = pl.gen)
    (hplane : pl'.plane p = pl.plane p) (x y : Nat) :
    (s.predicted m' pl' c').sample p x y = (s.predicted m pl c).sample p x y :=
  State.sample_congr rfl hgen (congrArg (fun cells => Cells.look cells _) hplane)

/-- The source and the way into the picture: list, reference, no average, not the scratch buffer. -/
def Latched (m : McRegs) (l r : Nat) : Prop :=
  m.list.map BitVec.toNat = some l ∧ m.ref.map BitVec.toNat = some r ∧ m.avg = some 0 ∧ m.buf = some 0

/-- The registers aimed at plane `p` of a partition. -/
def McRegs.aimed (m : McRegs) (q : McPartition) (p : Nat) (sx sy : Int) : McRegs :=
  let k := if p = 0 then 1 else 2
  { m with
    dstX := some (destCoordinate (q.x0 / k)), dstY := some (destCoordinate (q.y0 / k))
    w := some (BitVec.ofNat 5 (q.w / k)), h := some (BitVec.ofNat 5 (q.h / k))
    srcX := some (BitVec.ofInt 32 sx), srcY := some (BitVec.ofInt 32 sy) }

/-- A source coordinate that the register holds exactly. -/
def FitsSource (v : Int) : Prop := -2 ^ 31 ≤ v ∧ v < 2 ^ 31

theorem toInt_ofInt_source {v : Int} (h : FitsSource v) : (BitVec.ofInt 32 v).toInt = v := by
  obtain ⟨h0, h1⟩ := h
  rw [BitVec.toInt_ofInt, Int.bmod_eq_of_le] <;> omega

section
variable (hq : PartInside s q)
include hq

theorem operandsAre_aimed {m : McRegs} {l r p : Nat} {sx sy : Int} (hm : Latched m l r) (hx : FitsSource sx) (hy : FitsSource sy) :
    operandsAre (m.aimed q p sx sy) ⟨q.blockOf p, sx, sy, l, r⟩ 0 0 := by
  obtain ⟨hl, hr, ha, hb⟩ := hm
  obtain ⟨⟨hx1, hx2⟩, ⟨hy1, hy2⟩, ⟨hw1, hh1⟩, hX, hY⟩ := hq
  have hdiv (v : Nat) : v / (if p = 0 then 1 else 2) ≤ v := Nat.div_le_self ..
  have h1 := hdiv q.x0
  have h2 := hdiv q.y0
  have h3 := hdiv q.w
  have h4 := hdiv q.h
  have hsize {v : Nat} (hv : v < 2 ^ 5) : (BitVec.ofNat 5 v).toNat = v :=
    (BitVec.toNat_ofNat ..).trans (Nat.mod_eq_of_lt hv)
  exact ⟨congrArg some (toNat_destCoordinate (by omega)), congrArg some (toNat_destCoordinate (by omega)),
    congrArg some (hsize (by omega)), congrArg some (hsize (by omega)), congrArg some (toInt_ofInt_source hx),
    congrArg some (toInt_ofInt_source hy), hl, hr, ha, hb⟩

theorem inPlane_blockOf (hX : s.mbX.toNat < s.picW) (hY : s.mbY.toNat < s.picH) {p : Nat} (hp : p = 0 ∨ s.chromaFormat = 1) :
    inPlane s p (q.blockOf p) = true := by
  obtain ⟨⟨hx1, hx2⟩, ⟨hy1, hy2⟩, -, -⟩ := hq
  refine decide_eq_true ?_
  by_cases h0 : p = 0
  · subst h0
    simp only [McPartition.blockOf, if_true, State.planeW, State.planeH]
    omega
  · have hc : s.chromaFormat = 1 := hp.resolve_left h0
    simp only [McPartition.blockOf, if_neg h0, State.planeW, State.planeH, hc]
    omega

end

/-- A sample operation into the picture, each sample of the block in its range. -/
theorem sampleOp_predicted {m : McRegs} {pl : Planes} {c p : Nat} {o : Operands} {ref : RefPic} {f : Formula} {g : Nat → Nat → Int}
    (ho : operandsAre m o 0 0) (href : s.refPic o.l o.r = some ref) (hin : inPlane s p o.b = true) (hp : p ≤ 2)
    (hs : s.bitDepthLegal = true)
    (hg : ∀ dx dy, dx < o.b.w → dy < o.b.h →
      (s.predicted m pl c).mcValue p (dstOf o.b) (srcOf o 0 0) ref f dx dy = g (o.b.x + dx) (o.b.y + dy)
        ∧ InRange (g (o.b.x + dx) (o.b.y + dy))) :
    ∃ pl', sampleOp p f (s.predicted m pl c) = .ok () (s.predicted m pl' (c + 1)) ∧ pl'.gen = pl.gen
      ∧ blockWritten (s.predicted m pl c) (s.predicted m pl' (c + 1)) p o.b g := by
  refine ⟨_, sampleOp_ok (s := s.predicted m pl c) ho href (.inr hin) fun h => absurd h (by decide), Planes.setPlane_gen .., ?_⟩
  refine blockWritten_of_planes_eq (f := (s.predicted m pl c).mcNew p (dstOf o.b) (srcOf o 0 0) ref f) rfl rfl hp hin
    fun x y hxy => ?_
  obtain ⟨hx, hx', hy, hy'⟩ := block_has_iff.mp hxy
  obtain ⟨heq, hr⟩ := hg (x - o.b.x) (y - o.b.y) (by omega) (by omega)
  rw [Nat.add_sub_cancel' hx, Nat.add_sub_cancel' hy] at heq hr
  exact mcNew_picture (v := fun _ _ => g x y) heq hs hr

/-! ### The planes of a partition -/

section
variable {m : McRegs} {pl : Planes} {c l r : Nat} {ref : RefPic} {mx my : Int} (hq : PartInside s q)
    (hX : s.mbX.toNat < s.picW) (hY : s.mbY.toNat < s.picH) (hs : s.bitDepthLegal = true) (href : s.refPic l r = some ref)
    (hrow : s.neededRow (q.y0 + my / 4) q.h ≤ ref.progress.toInt) (hmx : -2 ^ 15 ≤ mx ∧ mx < 2 ^ 15) (hmy : -2 ^ 15 ≤ my ∧ my < 2 ^ 15)
    (hm : Latched m l r)
include hq hX hY hs href hrow hmx hmy hm

theorem predictLuma_ok : ∃ m' pl', q.predictLuma mx my (s.predicted m pl c) = .ok () (s.predicted m' pl' (c + 1))
    ∧ Latched m' l r ∧ pl'.gen = pl.gen
    ∧ blockWritten (s.predicted m pl c) (s.predicted m' pl' (c + 1)) 0 q.whole fun x y =>
      lumaPhase (Stated.refAt s ref 0) (clip s) (mx % 4).toNat (my % 4).toNat (x + mx / 4) (y + my / 4) := by
  obtain ⟨⟨hx1, hx2⟩, ⟨hy1, hy2⟩, -, hX', hY'⟩ := id hq
  have hblock : q.blockOf 0 = q.whole := McPartition.blockOf_eq q 0
  have ho := operandsAre_aimed hq (p := 0) (sx := q.x0 + mx / 4) (sy := q.y0 + my / 4) hm
    ⟨by omega, by omega⟩ ⟨by omega, by omega⟩
  have hin := inPlane_blockOf hq hX hY (.inl rfl)
  rw [hblock] at ho hin
  have hready : rowsReady s ref 0 ⟨q.whole, q.x0 + mx / 4, q.y0 + my / 4, l, r⟩ 3 = true := by
    rw [State.neededRow] at hrow
    refine decide_eq_true ?_
    simp only [McPartition.whole, State.planeH, if_true, ne_eq, not_true, false_and, if_false]
    omega
  have hok := sampleOp_predicted (pl := pl) (c := c)
    (f := phaseFormula ((mx % 4).toNat + 4 * (my % 4).toNat))
    (g := fun x y => lumaPhase (Stated.refAt s ref 0) (clip s) (mx % 4).toNat (my % 4).toNat (x + mx / 4) (y + my / 4))
    ho href hin (Nat.zero_le 2) hs fun dx dy hdx hdy => ⟨?_, lumaPhase_inRange (refAt_bounds hs ref 0) (clip_inRange hs) ..⟩
  · obtain ⟨pl', hok, hgen, hwritten⟩ := hok
    refine ⟨m.aimed q 0 (q.x0 + mx / 4) (q.y0 + my / 4), pl', ?_, hm, hgen, hwritten⟩
    rw [McPartition.predictLuma, shiftRight_two, shiftRight_two]
    show Op.nested _ (s.predicted (m.aimed q 0 (q.x0 + mx / 4) (q.y0 + my / 4)) pl c) = _
    exact Op.nested_ok hok
  · have hcol : ((q.whole.x + dx : Nat) : Int) + mx / 4 = q.x0 + mx / 4 + dx := by simp only [McPartition.whole]; omega
    have hline : ((q.whole.y + dy : Nat) : Int) + my / 4 = q.y0 + my / 4 + dy := by simp only [McPartition.whole]; omega
    rw [State.mcValue, phaseFormula_eq (by omega) (by omega), clip3_pixelMax_eq, hcol, hline]
    refine lumaPhase_congr (fun x y hy => ?_) ..
    exact refSample_eq (s := s.predicted _ pl c) hready (by dsimp only [srcOf] at hy hdy ⊢; omega) _

theorem predictChroma_ok {p : Nat} (hp : p = 1 ∨ p = 2) (hc : s.chromaFormat = 1) :
    ∃ m' pl', q.predictChroma mx my p (s.predicted m pl c) = .ok () (s.predicted m' pl' (c + 1))
    ∧ Latched m' l r ∧ pl'.gen = pl.gen
    ∧ blockWritten (s.predicted m pl c) (s.predicted m' pl' (c + 1)) p q.whole.half fun x y =>
      chromaSample (Stated.refAt s ref p) (mx % 8).toNat (my % 8).toNat (x + mx / 8) (y + my / 8) := by
  have hp0 : p ≠ 0 := by omega
  obtain ⟨⟨hx1, hx2⟩, ⟨hy1, hy2⟩, -, hX', hY'⟩ := id hq
  have hblock : q.blockOf p = q.whole.half := (McPartition.blockOf_eq q p).trans (if_neg hp0)
  have ho := operandsAre_aimed hq (p := p) (sx := (q.x0 / 2 : Nat) + mx / 8) (sy := (q.y0 / 2 : Nat) + my / 8) hm
    ⟨by omega, by omega⟩ ⟨by omega, by omega⟩
  have hin := inPlane_blockOf hq hX hY (p := p) (.inr hc)
  rw [hblock] at ho hin
  have hready : rowsReady s ref p ⟨q.whole.half, (q.x0 / 2 : Nat) + mx / 8, (q.y0 / 2 : Nat) + my / 8, l, r⟩ 1 = true := by
    rw [State.neededRow] at hrow
    refine decide_eq_true ?_
    simp only [McPartition.whole, Block.half, State.planeH, hc, hp0, if_true, ne_eq, not_false_eq_true, and_self, if_false]
    omega
  have hfrac (v : Int) : (BitVec.ofInt 3 (v % 8)).toNat = (v % 8).toNat := by
    rw [BitVec.toNat_ofInt]
    omega
  have hok := sampleOp_predicted (pl := pl) (c := c)
    (m := { m.aimed q p ((q.x0 / 2 : Nat) + mx / 8) ((q.y0 / 2 : Nat) + my / 8) with
      fx := some (BitVec.ofInt 3 (mx % 8)), fy := some (BitVec.ofInt 3 (my % 8)) })
    (f := chromaFormula ((mx % 8).toNat : Int) ((my % 8).toNat : Int))
    (g := fun x y => chromaSample (Stated.refAt s ref p) (mx % 8).toNat (my % 8).toNat (x + mx / 8) (y + my / 8))
    ho href hin (by omega) hs fun dx dy hdx hdy =>
      ⟨?_, chromaSample_inRange (refAt_bounds hs ref _) (by omega) (by omega) ..⟩
  · obtain ⟨pl', hok, hgen, hwritten⟩ := hok
    refine ⟨{ m.aimed q p ((q.x0 / 2 : Nat) + mx / 8) ((q.y0 / 2 : Nat) + my / 8) with
      fx := some (BitVec.ofInt 3 (mx % 8)), fy := some (BitVec.ofInt 3 (my % 8)) }, pl', ?_, hm, hgen, hwritten⟩
    rw [McPartition.predictChroma, shiftRight_three, shiftRight_three]
    refine Op.nested_ok ((mcChroma_run (fx := BitVec.ofInt 3 (mx % 8)) (fy := BitVec.ofInt 3 (my % 8)) rfl rfl).trans ?_)
    rw [hfrac, hfrac]
    exact hok
  · have hcol : ((q.whole.half.x + dx : Nat) : Int) + mx / 8 = (q.x0 / 2 : Nat) + mx / 8 + dx := by
      simp only [McPartition.whole, Block.half]; omega
    have hline : ((q.whole.half.y + dy : Nat) : Int) + my / 8 = (q.y0 / 2 : Nat) + my / 8 + dy := by
      simp only [McPartition.whole, Block.half]; omega
    rw [State.mcValue, chromaFormula_eq, hcol, hline]
    refine chromaSample_congr (fun x y hy => ?_) ..
    exact refSample_eq (s := s.predicted _ pl c) hready (by dsimp only [srcOf] at hy hdy ⊢; omega) _

theorem predictPlanes_ok : ∃ m' pl' c',
    (Op.read State.chromaPlanes >>= fun planes => Op.each planes fun p => q.predictChroma mx my p) (s.predicted m pl c)
      = .ok () (s.predicted m' pl' c')
    ∧ pl'.gen = pl.gen ∧ pl'.plane 0 = pl.plane 0
    ∧ ∀ p x y, (p = 1 ∨ p = 2) → x < s.planeW p →
      ((s.predicted m' pl' c').sample p x y : Int) = if s.chromaFormat = 1 ∧ q.whole.half.has x y then
        chromaSample (Stated.refAt s ref p) (mx % 8).toNat (my % 8).toNat (x + mx / 8) (y + my / 8)
        else ((s.predicted m pl c).sample p x y : Nat) := by
  have hread : Op.read State.chromaPlanes (s.predicted m pl c) = .ok s.chromaPlanes (s.predicted m pl c) := rfl
  rw [Op.bind_ok hread, State.chromaPlanes]
  by_cases hc : s.chromaFormat = 1
  · obtain ⟨m1, pl1, hcb, hm1, hgen1, hw1⟩ := predictChroma_ok (c := c) (pl := pl) hq hX hY hs href hrow hmx hmy hm (.inl rfl) hc
    obtain ⟨m2, pl2, hcr, -, hgen2, hw2⟩ :=
      predictChroma_ok (c := c + 1) (pl := pl1) hq hX hY hs href hrow hmx hmy hm1 (.inr rfl) hc
    obtain ⟨hin1, -, hother1⟩ := hw1
    obtain ⟨hin2, -, hother2⟩ := hw2
    have h0 : pl2.plane 0 = pl.plane 0 := (hother2 0 (by decide) (by decide)).trans (hother1 0 (by decide) (by decide))
    refine ⟨m2, pl2, c + 1 + 1, ?_, hgen2.trans hgen1, h0, fun p x y hp hx => ?_⟩
    · rw [if_pos hc]
      exact (Op.bind_ok hcb).trans ((Op.bind_ok hcr).trans rfl)
    · simp only [hc, true_and]
      rcases hp with rfl | rfl
      · rw [State.sample_predicted (m := m1) (c := c + 1) hgen2 (hother2 1 (by decide) (by decide))]
        exact hin1 x y hx
      · rw [hin2 x y hx, State.sample_predicted (m := m) (c := c) hgen1 (hother1 2 (by decide) (by decide))]
  · refine ⟨m, pl, c, ?_, rfl, rfl, fun p x y _ _ => ?_⟩
    · rw [if_neg hc]
      rfl
    · simp only [hc, false_and, if_false]

end

/-! ### The command -/

theorem usedLists_single {slot l : Nat} {r : BitVec 8} (hl : l < s.listCount)
    (hrefs : ∀ k, k < s.listCount → ∃ c, Cells.look s.cache.ref (75 * k + slot) = some c ∧ (0 ≤ c.toInt ↔ k = l))
    (hr : Cells.look s.cache.ref (75 * l + slot) = some r) : usedLists slot s = .ok [(l, r.toNat)] s := by
  have hlists : s.lists = List.range s.listCount := rfl
  have hcount := s.listCount_le
  have hcases : s.listCount = 1 ∨ s.listCount = 2 := by omega
  have hread {k : Nat} {c : BitVec 8} (h : Cells.look s.cache.ref (75 * k + slot) = some c) :
      Machine.refAt k slot s = .ok c s := Op.need_some h
  obtain ⟨c0, hc0, h0⟩ := hrefs 0 (by omega)
  rw [usedLists, Op.bind_ok (Op.read_run _ s), hlists]
  rcases hcases with h | h
  · obtain rfl : l = 0 := by omega
    obtain rfl : r = c0 := Option.some.inj (hr.symm.trans hc0)
    rw [h]
    refine (Op.bind_ok (a := [r]) ((Op.bind_ok (hread hr)).trans rfl)).trans ?_
    have hpos : isRef r = true := decide_eq_true (h0.mpr rfl)
    simp only [List.range, List.range.loop, List.zip_cons_cons, List.zip_nil_left, List.filter, hpos]
    rfl
  · obtain ⟨c1, hc1, h1⟩ := hrefs 1 (by omega)
    rw [h]
    refine (Op.bind_ok (a := [c0, c1]) 
      ((Op.bind_ok (hread hc0)).trans ((Op.bind_ok (a := [c1]) ((Op.bind_ok (hread hc1)).trans rfl)).trans rfl))).trans ?_
    have hused0 : isRef c0 = decide (0 = l) := decide_eq_decide.mpr h0
    have hused1 : isRef c1 = decide (1 = l) := decide_eq_decide.mpr h1
    have hl2 : l = 0 ∨ l = 1 := by omega
    simp only [List.range, List.range.loop, List.zip_cons_cons, List.zip_nil_left, List.filter, hused0, hused1]
    rcases hl2 with rfl | rfl
    · obtain rfl : r = c0 := Option.some.inj (hr.symm.trans hc0)
      rfl
    · obtain rfl : r = c1 := Option.some.inj (hr.symm.trans hc1)
      rfl

/-- `MC_PART` of one list, unweighted, is the prediction from that list. -/
theorem mcPart_single {n w h l : Nat} {r : BitVec 8} (hmode : s.useWeight ≠ 1)
    (hused : usedLists (scan8 n) s = .ok [(l, r.toNat)] s) :
    mcPart n w h s = ((partOf s n w h).predict (scan8 n) false ((l, r.toNat), 0)) s := by
  have hmode' : (Op.read State.useWeight) s = .ok s.useWeight s := rfl
  have hunweighted : decide (s.useWeight = 1 ∨ (s.useWeight = 2 ∧ [(l, r.toNat)].length = 2)) = false := by
    refine decide_eq_false ?_
    rintro (h | ⟨-, h⟩)
    · exact hmode h
    · cases h
  rw [mcPart, Op.bind_ok (Op.read_run _ s), Op.bind_ok hused, Op.bind_ok (Op.require_true _ rfl), Op.bind_ok hmode', hunweighted]
  show (((partOf s n w h).predict (scan8 n) false ((l, r.toNat), 0) >>= fun _ => pure ()) >>= fun _ => pure ()) s = _
  rw [bind_pure_unit, bind_pure_unit]

/-- Where the row is not published, nothing is written; where it is, the planes of the partition follow. -/
theorem predict_single {slot l : Nat} {r : BitVec 8} {mv : Mv} {ref : RefPic} (hl : l < s.listCount) (hr : r.toNat < s.refCount l)
    (hmv : Cells.look s.cache.mv (75 * l + slot) = some mv) (href : s.refPic l r.toNat = some ref) :
    q.predict slot false ((l, r.toNat), 0) s =
      if s.neededRow (q.y0 + mv.y.toInt / 4) q.h ≤ ref.progress.toInt then
        (q.predictLuma mv.x.toInt mv.y.toInt >>= fun _ => Op.read State.chromaPlanes >>= fun planes =>
          Op.each planes fun p => q.predictChroma mv.x.toInt mv.y.toInt p)
          (s.predicted { s.mc with list := some (BitVec.ofNat 1 l), ref := some (BitVec.ofNat 5 r.toNat)
                                   buf := some 0, avg := some 0 } s.pic.planes s.freeCtr)
      else .error .waiting s := by
  have hvec : mvAt l slot s = .ok mv s := Op.need_some hmv
  have hwait := waitRow_run (row := s.neededRow (q.y0 + mv.y.toInt / 4) q.h) hl hr href
  simp only [McPartition.predict, shiftRight_two]
  rw [Op.bind_ok hvec, Op.bind_ok (Op.read_run _ s)]
  split
  · next h =>
    rw [if_pos h] at hwait
    exact Op.bind_ok hwait
  · next h =>
    rw [if_neg h] at hwait
    exact Op.bind_error hwait

/-- Settles O51. -/
theorem partitionPrediction : Obligations.PartitionPrediction := by
  refine ⟨fun s u n w h he hw hsteps => partitionPrediction_steps he hw hsteps, ?_⟩
  intro s n w h l r mv ref he hs hcf hmode hw hX hY hX' hY' hl hrefs hr hcount hr31 hmv href b row
  have hn : n.toNat < 16 := Nat.lt_succ_of_le (of_decide_eq_true hw).1
  obtain ⟨hbx, hby⟩ := blockX_blockY_eq _ hn
  have hb : (partOf s n.toNat w.toNat h.toNat).whole = b := by
    simp only [b, hbx, hby]
    rfl
  have hq : PartInside s (partOf s n.toNat w.toNat h.toNat) := by
    obtain ⟨h1, h2, hw1, hh1⟩ := partNamed_of_legal hw
    exact ⟨⟨by simp only [partOf]; omega, by simp only [partOf]; omega⟩,
      ⟨by simp only [partOf]; omega, by simp only [partOf]; omega⟩, ⟨hw1, hh1⟩, hX', hY'⟩
  have hrow : s.neededRow ((partOf s n.toNat w.toNat h.toNat).y0 + mv.y.toInt / 4) (partOf s n.toNat w.toNat h.toNat).h = row := by
    simp only [row, ← hb]
    rfl
  have hbody := (mcPart_single (n := n.toNat) (w := w.toNat) (h := h.toNat) hmode (usedLists_single hl hrefs hr)).trans
    (predict_single hl hcount hmv href)
  rw [hrow] at hbody
  have hacc : (s.isRun && Legal.partition n w h) = true := accepts_run he hw
  refine ⟨fun hnot => ?_, fun hpub => ?_⟩
  · rw [if_neg (Int.not_le.mpr hnot)] at hbody
    exact (command_run hacc).trans (congrArg (finish s) hbody)
  · rw [if_pos hpub] at hbody
    have hl1 : l ≤ 1 := by have := s.listCount_le; omega
    have hlatched : Latched { s.mc with list := some (BitVec.ofNat 1 l), ref := some (BitVec.ofNat 5 r.toNat)
                                        buf := some 0, avg := some 0 } l r.toNat :=
      ⟨congrArg some (Nat.mod_eq_of_lt (by omega)), congrArg some (Nat.mod_eq_of_lt (by omega)), rfl, rfl⟩
    have hvec (v : BitVec 16) : -2 ^ 15 ≤ v.toInt ∧ v.toInt < 2 ^ 15 := ⟨v.le_toInt, v.toInt_lt⟩
    have hpub' := hrow ▸ hpub
    obtain ⟨m1, pl1, hluma, hm1, hgen1, hin1, -, hother1⟩ := predictLuma_ok (pl := s.pic.planes) (c := s.freeCtr) hq hX hY hs
      href hpub' (hvec mv.x) (hvec mv.y) hlatched
    obtain ⟨m2, pl2, c2, hchroma, hgen2, hplane0, hin2⟩ := predictPlanes_ok (pl := pl1) (c := s.freeCtr + 1) hq hX hY hs
      href hpub' (hvec mv.x) (hvec mv.y) hm1
    rw [hb] at hin1 hin2
    refine ⟨_, command_ok hacc (hbody.trans ((Op.bind_ok hluma).trans hchroma)), rfl, hgen2.trans hgen1,
      fun x y hx => ?_, fun p x y hp hx => ?_⟩
    · refine (congrArg Nat.cast ?_).trans (hin1 x y hx)
      exact State.sample_predicted (m := m1) (m' := m2) (c := s.freeCtr + 1) (c' := c2) hgen2 hplane0 x y
    · refine (hin2 p x y hp hx).trans ?_
      rw [State.sample_predicted (m := s.mc) (c := s.freeCtr) hgen1 (hother1 p (by omega) (by omega))]
      rfl

end Sys2Proof.Machine
end

section
/-! Proofs. `MB_RECON` of any kind but `IntraPCM` as the commands it is made of (45_reconstruction.md R450, R452 to R456). -/

namespace Sys2Proof.Machine

open Sys2Proof.Stated

variable {α β : Type} {s t : State}

/-! ### The commands issued -/

theorem toNat_ofNat_byte {n : Nat} (h : n < 2 ^ 8) : (BitVec.ofNat 8 n).toNat = n := Nat.mod_eq_of_lt h

theorem follows_idct {b : Nat} (hb : b < 2 ^ 8) :
    Follows (issue (.idct4Add (BitVec.ofNat 8 b))) (idct4Add b)
      ∧ Follows (issue (.idct4DcAdd (BitVec.ofNat 8 b))) (idct4DcAdd b)
      ∧ Follows (issue (.idct8Add (BitVec.ofNat 8 b))) (idct8Add b)
      ∧ Follows (issue (.idct8DcAdd (BitVec.ofNat 8 b))) (idct8DcAdd b) := by
  have hkeeps (st : Status) := idct_keeps (bodyWrites_status st).toPlaneWrites (bodyWrites_status st).toCoefWrites
    (BitVec.ofNat 8 b).toNat
  have h : Follows (issue (.idct4Add (BitVec.ofNat 8 b))) (idct4Add (BitVec.ofNat 8 b).toNat)
      ∧ Follows (issue (.idct4DcAdd (BitVec.ofNat 8 b))) (idct4DcAdd (BitVec.ofNat 8 b).toNat)
      ∧ Follows (issue (.idct8Add (BitVec.ofNat 8 b))) (idct8Add (BitVec.ofNat 8 b).toNat)
      ∧ Follows (issue (.idct8DcAdd (BitVec.ofNat 8 b))) (idct8DcAdd (BitVec.ofNat 8 b).toNat) :=
    ⟨.issue (fun _ => ⟨_, _, rfl⟩) (addResidual_zeroCoefs_stops Stop.legal_stopSet _ _ _ _ _) fun st => (hkeeps st).1,
      .issue (fun _ => ⟨_, _, rfl⟩) (addResidual_zeroCoefs_stops Stop.legal_stopSet _ _ _ _ _) fun st => (hkeeps st).2.1,
      .issue (fun _ => ⟨_, _, rfl⟩) (addResidual_zeroCoefs_stops Stop.legal_stopSet _ _ _ _ _) fun st => (hkeeps st).2.2.1,
      .issue (fun _ => ⟨_, _, rfl⟩) (addResidual_zeroCoefs_stops Stop.legal_stopSet _ _ _ _ _) fun st => (hkeeps st).2.2.2⟩
  rwa [toNat_ofNat_byte hb] at h

theorem follows_intraPred (kind b : BitVec 8) : Follows (issue (.intraPred kind b)) (intraPred kind.toNat b.toNat) :=
  .issue (fun _ => ⟨_, _, rfl⟩) (intraPred_stops Stop.legal_stopSet _ _) fun st => intraPred_keeps (bodyWrites_status st).toPlaneWrites _ _

theorem follows_mcPart (n w h : BitVec 8) : Follows (issue (.mcPart n w h)) (mcPart n.toNat w.toNat h.toNat) :=
  .issue (fun _ => ⟨_, _, rfl⟩) (mcPart_stops _ _ _) fun st => mcPart_keeps (bodyWrites_status st).toMcWrites _ _ _

theorem follows_lumaDc (f : Word) : Follows (issue (.lumaDcDequantIdct f)) (lumaDcDequantIdct f.toNat) :=
  .issue (fun _ => ⟨_, _, rfl⟩) (lumaDcDequantIdct_stops _) fun st => lumaDc_keeps (bodyWrites_status st).toCoefWrites _

theorem follows_chromaDc (c : BitVec 8) (f : Word) : Follows (issue (.chromaDcDequantIdct c f)) (chromaDcDequantIdct c.toNat f.toNat) :=
  .issue (fun _ => ⟨_, _, rfl⟩) (chromaDcDequantIdct_stops _ _) fun st => chromaDc_keeps (bodyWrites_status st).toCoefWrites _ _

theorem follows_cacheWriteback : Follows (issue .cacheWriteback) cacheWriteback :=
  .issue (fun _ => ⟨_, _, rfl⟩) (cacheWriteback_stops Stop.legal_stopSet) fun st => cacheWriteback_keeps (bodyWrites_status st).toArrayWrites

/-! ### Further rules for steps -/

theorem Follows.eachNested {f : α → Steps Unit} {g : α → Op Unit} {as : List α} (h : ∀ a ∈ as, Follows (f a) (g a)) :
    Follows (Stated.forEach as f) (Op.eachNested as g) := by
  cases as with
  | nil => exact .pure
  | cons a as => exact .bind (h a (by simp)) fun _ => .forEach fun b hb => .nested (h b (List.mem_cons_of_mem _ hb))

/-- A value held as a word, where the operation takes the number. -/
theorem Follows.held_bind {f : State → Option α} {g : State → Option β} {k : α → β} {p : α → Steps Unit} {m : β → Op Unit}
    (hfg : ∀ s, g s = (f s).map k) (h : ∀ a, Follows (p a) (m (k a))) : Follows (Stated.held f >>= p) (Op.need g >>= m) := by
  intro s c t hc
  obtain ⟨a, u, ha, hrest⟩ := Steps.bind_some_iff.mp hc
  obtain ⟨b, hb, hu⟩ := Option.map_eq_some_iff.mp ha
  cases hu
  exact (Op.bind_ok (Op.need_some ((hfg s).trans (congrArg (Option.map k) hb)))).trans (h _ _ c t hrest)

/-- A condition of the steps, decided, and the operation's own. -/
theorem Follows.onlyIf_then {c : Prop} [Decidable c] {p : Steps Unit} {m : Op Unit} (h : Follows p m) :
    Follows (Stated.onlyIf (decide c) p) (if c then m else Pure.pure ()) := by
  by_cases hc : c
  · rw [if_pos hc, decide_eq_true hc]; exact h
  · rw [if_neg hc, decide_eq_false hc]; exact .pure

theorem Follows.onlyIf_else {c : Prop} [Decidable c] {p : Steps Unit} {m : Op Unit} (h : Follows p m) :
    Follows (Stated.onlyIf (decide (¬ c)) p) (if c then Pure.pure () else m) := by
  by_cases hc : c
  · rw [if_pos hc, decide_eq_false (not_not_intro hc)]; exact .pure
  · rw [if_neg hc, decide_eq_true hc]; exact h

/-! ### The gates -/

theorem follows_addBlock (kind : MbKind) {b : Nat} (hb : b < 2 ^ 8) : Follows (addBlock kind b) (add4 kind b) := by
  obtain ⟨hfull, hdc, -, -⟩ := follows_idct hb
  refine .bind (.held fun _ => rfl) fun k => .view_bind fun s => ?_
  simp only [decide_eq_true_eq]
  exact .ite (fun _ => .ite (fun _ => hfull) fun _ => .onlyIf_then hdc) fun _ =>
    .onlyIf_else (.ite (fun _ => hdc) fun _ => hfull)

theorem follows_addQuadrant {q : Nat} (hq : q < 2 ^ 8) : Follows (addQuadrant q) (add8 q) := by
  obtain ⟨-, -, hfull, hdc⟩ := follows_idct hq
  refine .bind (.held fun _ => rfl) fun k => .view_bind fun s => ?_
  simp only [decide_eq_true_eq]
  exact .onlyIf_else (.ite (fun _ => hdc) fun _ => hfull)

/-! ### Inter prediction -/

theorem quadrantBlocks_eq (q : Nat) (shape : Option SubShape) : quadrantBlocks q shape = quadrantParts q shape := by
  cases shape with
  | none => rfl
  | some shape => cases shape <;> rfl

/-- Numbers and sizes that fit an operand. -/
def PartsFit (parts : List (Nat × Nat × Nat)) : Prop := ∀ c ∈ parts, c.1 < 2 ^ 8 ∧ c.2.1 < 2 ^ 8 ∧ c.2.2 < 2 ^ 8

theorem follows_parts {parts : List (Nat × Nat × Nat)} (h : PartsFit parts) : Follows
    (forEach parts fun c => issue (.mcPart (BitVec.ofNat 8 c.1) (BitVec.ofNat 8 c.2.1) (BitVec.ofNat 8 c.2.2)))
    (Op.eachNested parts fun c => mcPart c.1 c.2.1 c.2.2) := by
  refine .eachNested fun c hc => ?_
  obtain ⟨h1, h2, h3⟩ := h c hc
  have := follows_mcPart (BitVec.ofNat 8 c.1) (BitVec.ofNat 8 c.2.1) (BitVec.ofNat 8 c.2.2)
  rwa [toNat_ofNat_byte h1, toNat_ofNat_byte h2, toNat_ofNat_byte h3] at this

theorem quadrantParts_fit {q : Nat} (hq : q < 4) (shape : Option SubShape) : PartsFit (quadrantParts q shape) := by
  intro c hc
  unfold quadrantParts at hc
  split at hc
  all_goals
    simp only [List.mem_cons, List.not_mem_nil, or_false] at hc
    rcases hc with rfl | rfl | rfl | rfl
    all_goals
      dsimp only
      omega

theorem follows_interSteps {kind : MbKind} (hk : kind.intra = false) : Follows (interSteps kind) (interPrediction kind) := by
  have hfixed {parts : List (Nat × Nat × Nat)} (h : ∀ c ∈ parts, c.1 < 2 ^ 8 ∧ c.2.1 < 2 ^ 8 ∧ c.2.2 < 2 ^ 8) := follows_parts h
  cases kind
  case inter16x16 => exact hfixed (by decide)
  case inter16x8 => exact hfixed (by decide)
  case inter8x16 => exact hfixed (by decide)
  case direct => exact hfixed (by decide)
  case inter8x8 =>
    unfold interSteps interPrediction interPartitions
    simp only [if_true, bind_assoc, pure_bind, quadrantBlocks_eq]
    refine .bind_gives (.gather fun i _ => .held fun _ => rfl) collect_length fun subs hlen => follows_parts fun c hc => ?_
    obtain ⟨d, hd, hc⟩ := List.mem_flatMap.mp hc
    have hlt : d.2 < subs.length := (List.mem_zipIdx' hd).1
    exact quadrantParts_fit (Nat.lt_of_lt_of_eq hlt hlen) _ c hc
  all_goals cases hk

/-! ### Luma and chroma -/

theorem lt_byte_of_range {n k : Nat} (hk : k ≤ 2 ^ 8) (hn : n ∈ List.range k) : n < 2 ^ 8 :=
  Nat.lt_of_lt_of_le (List.mem_range.mp hn) hk

theorem follows_blocks (kind : MbKind) : Follows (forEach (List.range 16) (addBlock kind)) (Op.each (List.range 16) (add4 kind)) :=
  .forEach fun _ hn => follows_addBlock kind (lt_byte_of_range (by decide) hn)

theorem follows_lumaDequant {p : Word → Steps Unit} {m : Nat → Op Unit} (h : ∀ f, Follows (p f) (m f.toNat)) : Follows
    (held (fun s => Cells.look s.tabs.dequant4 (16 * s.qscale)) >>= p)
    (Op.read State.qscale >>= fun qp => dequant4At 0 qp 0 >>= m) := by
  intro s c t hc
  obtain ⟨f, u, hf, hrest⟩ := Steps.bind_some_iff.mp hc
  obtain ⟨f', hlook, hu⟩ := Option.map_eq_some_iff.mp hf
  cases hu
  have hindex : (0 * 128 + s.qscale) * 16 + 0 = 16 * s.qscale := by omega
  have hread : dequant4At 0 s.qscale 0 s = .ok f.toNat s :=
    Op.need_some (by rw [hindex]; exact congrArg (Option.map BitVec.toNat) hlook)
  exact (Op.bind_ok (Op.read_run _ s)).trans ((Op.bind_ok hread).trans (h f s c t hrest))

theorem follows_luma16 : Follows (lumaReconSteps .intra16x16) (reconLuma .intra16x16) :=
  .bind (follows_intraPred 2 0) fun _ => .bind (.held fun _ => rfl) fun _ =>
    .bind (.onlyIf fun _ => follows_lumaDequant follows_lumaDc) fun _ => follows_blocks _

theorem follows_luma4 : Follows (lumaReconSteps .intra4x4) (reconLuma .intra4x4) := by
  have hpred (kind : BitVec 8) {b : Nat} (hb : b < 2 ^ 8) : Follows (issue (.intraPred kind (BitVec.ofNat 8 b)))
      (intraPred kind.toNat b) := by
    have := follows_intraPred kind (BitVec.ofNat 8 b)
    rwa [toNat_ofNat_byte hb] at this
  have hluma : Follows (held (fun s => s.mb.dct8x8) >>= fun big => if big then
      forEach (List.range 4) fun q => issue (.intraPred 1 (BitVec.ofNat 8 (4 * q))) >>= fun _ => addQuadrant q
      else forEach (List.range 16) fun n => issue (.intraPred 0 (BitVec.ofNat 8 n)) >>= fun _ => addBlock .intra4x4 n)
      (reconLuma .intra4x4) :=
    .bind (.held fun _ => rfl) fun big => .ite
      (fun _ => .forEach fun q hq => .bind (hpred 1 (by have := List.mem_range.mp hq; omega)) fun _ =>
        follows_addQuadrant (lt_byte_of_range (by decide) hq))
      fun _ => .forEach fun n hn => .bind (hpred 0 (lt_byte_of_range (by decide) hn)) fun _ =>
        follows_addBlock _ (lt_byte_of_range (by decide) hn)
  exact hluma

theorem follows_lumaInter {kind : MbKind} (hk : kind.intra = false) : Follows (lumaReconSteps kind) (reconLuma kind) := by
  have h16 : kind ≠ .intra16x16 := fun h => by rw [h] at hk; cases hk
  simp only [lumaReconSteps, reconLuma, hk, if_neg h16, Bool.not_false, onlyIf, if_true, if_false, Bool.false_eq_true]
  exact .bind (follows_interSteps hk) fun _ => .bind (.held fun _ => rfl) fun big => .ite
    (fun _ => .forEach fun q hq => follows_addQuadrant (lt_byte_of_range (by decide) hq)) fun _ => follows_blocks _

theorem follows_lumaRecon {kind : MbKind} (hk : kind ≠ .intraPcm) : Follows (lumaReconSteps kind) (reconLuma kind) := by
  cases kind
  case intraPcm => exact absurd rfl hk
  case intra4x4 => exact follows_luma4
  case intra16x16 => exact follows_luma16
  all_goals exact follows_lumaInter rfl

theorem follows_chromaPlane (kind : MbKind) {c : Nat} (hc : c < 2) : Follows
    (held (fun s => Cells.look s.cache.nnz (scan8 (25 + c))) >>= fun k =>
      onlyIf (decide (k ≠ 0)) (held (fun s => (Cells.look s.chromaQp c).map BitVec.toNat) >>= fun qp =>
        held (fun s => Cells.look s.tabs.dequant4 (((c + 1 + if kind.intra then 0 else 3) * 128 + qp) * 16)) >>= fun f =>
          issue (.chromaDcDequantIdct (BitVec.ofNat 8 c) f)) >>= fun _ =>
      forEach (List.range 4) fun k => addBlock kind (16 + 4 * c + k)) (chromaPlaneResidual kind c) := by
  refine .bind (.held fun _ => rfl) fun k => .bind (.onlyIf fun _ => .bind (.held fun _ => rfl) fun qp =>
    .held_bind (fun _ => rfl) fun f => ?_) fun _ => .forEach fun k hk => follows_addBlock kind ?_
  · have := follows_chromaDc (BitVec.ofNat 8 c) f
    rwa [toNat_ofNat_byte (by omega)] at this
  · have := List.mem_range.mp hk
    omega

theorem follows_chromaRecon (kind : MbKind) : Follows (chromaReconSteps kind) (reconChroma kind) :=
  .bind .view fun _ => .onlyIf fun _ => .bind (.onlyIf fun _ => .bind (follows_intraPred 3 16) fun _ => follows_intraPred 3 20)
    fun _ => .bind (.held fun _ => rfl) fun _ => .onlyIf fun _ => .forEach fun c hc => by
      refine follows_chromaPlane kind ?_
      simp only [List.mem_cons, List.not_mem_nil, or_false] at hc
      omega

/-! ### The end of a macroblock -/

/-- The macroblock address and the size of the picture. -/
def AddressIs (x y : BitVec 16) (size : Word) (s : State) : Prop := s.mbX = x ∧ s.mbY = y ∧ s.cr1 = size

theorem arrayWrites_address (x y : BitVec 16) (size : Word) : ArrayWrites (AddressIs x y size) where
  macroblock _ _ _ _ _ h := h
  picNnz _ _ _ h := h
  picI4 _ _ _ h := h
  picRef _ _ _ h := h
  picMv _ _ _ h := h

/-- Write-back completes inside the picture only, and leaves the address. -/
theorem inside_of_cacheWriteback (h : cacheWriteback s = .ok () t) : t.mbY.toNat < t.picH := by
  obtain ⟨_, u, hreq, -⟩ := Op.bind_ok_iff.mp h
  have hin : decide (s.mbX.toNat < s.picW ∧ s.mbY.toNat < s.picH) = true := by
    refine Decidable.byContradiction fun hnot => ?_
    rw [Op.require_false _ (Bool.eq_false_iff.mpr hnot)] at hreq
    cases hreq
  obtain ⟨-, hy, hsize⟩ := (cacheWriteback_keeps (arrayWrites_address s.mbX s.mbY s.cr1)).ok ⟨rfl, rfl, rfl⟩ h
  rw [State.picH, hsize, hy]
  exact (of_decide_eq_true hin).2

/-- The macroblock registers are `undef`, the address moves on and `RES` is 0. -/
def State.nextMacroblock (s : State) : State :=
  let last := s.mbX.toNat + 1 = s.picW
  { s with
    mb := Mb.undef, mbX := if last then 0 else s.mbX + 1, mbY := if last then s.mbY + 1 else s.mbY
    engine := if last ∧ s.mbY.toNat + 1 = s.picH then .done else s.engine
    res := some 0 }

theorem nextMacroblock_eq (h : s.mbY.toNat < s.picH) : { s.advanceMb with res := some 0 } = s.nextMacroblock := by
  by_cases hlast : s.mbX.toNat + 1 = s.picW
  · simp [State.advanceMb, State.nextMacroblock, hlast]
  · simp [State.advanceMb, State.nextMacroblock, hlast, Nat.ne_of_lt h]

theorem follows_ending : Follows (issue .cacheWriteback >>= fun _ => change State.nextMacroblock)
    (cacheWriteback >>= fun _ => Op.modify State.advanceMb >>= fun _ => setRes 0) := by
  intro s a t h
  obtain ⟨_, u, hback, hend⟩ := Steps.bind_some_iff.mp h
  have hok := follows_cacheWriteback s () u hback
  cases hend
  rw [Op.bind_ok hok, ← nextMacroblock_eq (inside_of_cacheWriteback hok)]
  rfl

theorem follows_recon : Follows reconSteps mbRecon := by
  refine .bind (.held fun _ => rfl) fun kind => ?_
  intro s a t h
  obtain ⟨_, u, honly, hrest⟩ := Steps.bind_some_iff.mp h
  obtain ⟨hkind, hu⟩ := Steps.only_some_iff.mp honly
  have hk : kind ≠ .intraPcm := of_decide_eq_true hkind
  rw [hu] at hrest
  have hmodel : Follows (lumaReconSteps kind >>= fun _ => chromaReconSteps kind >>= fun _ =>
      change (fun s => { s with coefs := Coefs.zero }) >>= fun _ => issue .cacheWriteback >>= fun _ => change State.nextMacroblock)
      (reconLuma kind >>= fun _ => reconChroma kind >>= fun _ => Op.modify (fun s => { s with coefs := Coefs.zero }) >>= fun _ =>
        cacheWriteback >>= fun _ => Op.modify State.advanceMb >>= fun _ => setRes 0) :=
    .bind (follows_lumaRecon hk) fun _ => .bind (follows_chromaRecon kind) fun _ => .bind .change fun _ => follows_ending
  rw [reconSamples, if_neg hk, bind_assoc]
  exact hmodel s a t hrest

theorem macroblockReconstruction_steps {u : State} (he : s.engine = .run) (hsteps : afterSteps reconSteps s = some u) :
    exec .mbRecon s = .next { u with status := .ended .ok } := by
  obtain ⟨⟨_, t⟩, hrun, rfl⟩ := Option.map_eq_some_iff.mp hsteps
  exact command_ok (accepts_run he rfl) (follows_recon s () t hrun)

end Sys2Proof.Machine
end

section
/-! Proofs. `MB_RECON` of an `IntraPCM` macroblock (45_reconstruction.md R451). -/

namespace Sys2Proof.Machine

open Sys2Proof.Stated

variable {s t : State}

theorem pcmLoaded_of_isSome {k n top : Nat} (h : ∀ i, i < top → (Cells.look s.pcm i).isSome = true) (hn : k + n ≤ top) :
    s.pcmLoaded k n = true :=
  List.all_eq_true.mpr fun i hi => h i (by have := List.mem_range'_1.mp hi; omega)

/-- The current macroblock's block of a plane, `n` samples wide. -/
def pcmBlockAt (s : State) (n : Nat) : Block := ⟨n * s.mbX.toNat, n * s.mbY.toNat, n, n⟩

section
variable {m : McRegs} {pl : Planes} {c p k n : Nat}

theorem pcmBlock_ok (hload : s.pcmLoaded k (n * n) = true) (hp : p ≤ 2) (hin : inPlane s p (pcmBlockAt s n) = true) :
    ∃ pl', pcmBlock p k n (s.predicted m pl c) = .ok () (s.predicted m pl' c) ∧ pl'.gen = pl.gen
      ∧ (∀ x y, x < s.planeW p → (s.predicted m pl' c).sample p x y = if (pcmBlockAt s n).has x y then
          (s.pcmAt (k + n * (y - n * s.mbY.toNat) + (x - n * s.mbX.toNat))).toNat else (s.predicted m pl c).sample p x y)
      ∧ ∀ q, q ≤ 2 → q ≠ p → pl'.plane q = pl.plane q := by
  have hload' : (s.predicted m pl c).pcmLoaded k (n * n) = true := hload
  have hin' : (s.predicted m pl c).insidePlane p (n * s.mbX.toNat) (n * s.mbY.toNat) n n = true := hin
  have hwritten := blockWritten_of_planes_eq (s := s.predicted m pl c) (b := pcmBlockAt s n)
    (t := (s.predicted m pl c).putBlock p (n * s.mbX.toNat) (n * s.mbY.toNat) n n fun i j => s.pcmAt (k + n * j + i))
    (f := fun i j => s.pcmAt (k + n * j + i)) rfl rfl hp hin fun _ _ _ => rfl
  obtain ⟨hsamples, -, hother⟩ := hwritten
  refine ⟨_, (Op.bind_ok (Op.require_true _ hload')).trans ((Op.bind_ok (Op.read_run _ _)).trans
    ((Op.bind_ok (Op.read_run _ _)).trans ((Op.bind_ok (Op.require_true _ hin')).trans rfl))), Planes.setPlane_gen ..,
    fun x y hx => Int.ofNat_inj.mp ((hsamples x y hx).trans ?_), hother⟩
  split <;> rfl

end

/-- The samples of the macroblock are those of `PCM_BUF`. -/
theorem reconPcm_ok (hX : s.mbX.toNat < s.picW) (hY : s.mbY.toNat < s.picH)
    (hpcm : ∀ k, k < (if s.chromaFormat = 1 then 384 else 256) → (Cells.look s.pcm k).isSome = true) :
    ∃ pl, reconPcm s = .ok () (s.predicted s.mc pl s.freeCtr) ∧ pl.gen = s.pic.planes.gen
      ∧ (∀ x y, x < s.planeW 0 → ((s.predicted s.mc pl s.freeCtr).sample 0 x y) =
          if (pcmBlockAt s 16).has x y then (s.pcmAt (16 * (y - 16 * s.mbY.toNat) + (x - 16 * s.mbX.toNat))).toNat
          else s.sample 0 x y)
      ∧ ∀ p x y, (p = 1 ∨ p = 2) → x < s.planeW p → ((s.predicted s.mc pl s.freeCtr).sample p x y) =
          if s.chromaFormat = 1 ∧ (pcmBlockAt s 8).has x y then
            (s.pcmAt (64 * p + 192 + 8 * (y - 8 * s.mbY.toNat) + (x - 8 * s.mbX.toNat))).toNat
          else s.sample p x y := by
  have htop : 256 ≤ if s.chromaFormat = 1 then 384 else 256 := by split <;> omega
  have hinY : inPlane s 0 (pcmBlockAt s 16) = true := decide_eq_true (by
    simp only [pcmBlockAt, State.planeW, State.planeH, if_true]
    omega)
  obtain ⟨pl1, hok1, hgen1, hw1, hother1⟩ := pcmBlock_ok (m := s.mc) (pl := s.pic.planes) (c := s.freeCtr) (k := 0)
    (pcmLoaded_of_isSome hpcm (by omega)) (Nat.zero_le 2) hinY
  have hfirst : pcmBlock 0 0 16 s = .ok () (s.predicted s.mc pl1 s.freeCtr) := hok1
  by_cases hc : s.chromaFormat = 1
  · have hinC {p : Nat} (hp : p ≠ 0) : inPlane s p (pcmBlockAt s 8) = true := decide_eq_true (by
      simp only [pcmBlockAt, State.planeW, State.planeH, if_neg hp, hc]
      omega)
    rw [if_pos hc] at hpcm
    obtain ⟨pl2, hok2, hgen2, hw2, hother2⟩ := pcmBlock_ok (m := s.mc) (pl := pl1) (c := s.freeCtr) (k := 256)
      (pcmLoaded_of_isSome hpcm (by omega)) (Nat.le_succ 1) (hinC (p := 1) (by omega))
    obtain ⟨pl3, hok3, hgen3, hw3, hother3⟩ := pcmBlock_ok (m := s.mc) (pl := pl2) (c := s.freeCtr) (k := 320)
      (pcmLoaded_of_isSome hpcm (by omega)) (Nat.le_refl 2) (hinC (p := 2) (by omega))
    have hplane0 : pl3.plane 0 = pl1.plane 0 := (hother3 0 (by decide) (by decide)).trans (hother2 0 (by decide) (by decide))
    refine ⟨pl3, ?_, hgen3.trans (hgen2.trans hgen1), fun x y hx => ?_, fun p x y hp hx => ?_⟩
    · refine (Op.bind_ok hfirst).trans ((Op.bind_ok (Op.read_run _ _)).trans ?_)
      rw [show decide ((s.predicted s.mc pl1 s.freeCtr).chromaFormat = 1) = true from decide_eq_true hc]
      exact (Op.bind_ok hok2).trans hok3
    · rw [State.sample_predicted (m := s.mc) (c := s.freeCtr) (hgen3.trans hgen2) hplane0, hw1 x y hx, Nat.zero_add]
      rfl
    · simp only [hc, true_and]
      rcases hp with rfl | rfl
      · rw [State.sample_predicted (m := s.mc) (c := s.freeCtr) hgen3 (hother3 1 (by decide) (by decide)), hw2 x y hx,
          State.sample_predicted (m := s.mc) (c := s.freeCtr) hgen1 (hother1 1 (by decide) (by decide))]
        rfl
      · rw [hw3 x y hx, State.sample_predicted (m := s.mc) (c := s.freeCtr) (hgen2.trans hgen1)
          ((hother2 2 (by decide) (by decide)).trans (hother1 2 (by decide) (by decide)))]
        rfl
  · refine ⟨pl1, ?_, hgen1, fun x y hx => ?_, fun p x y hp _ => ?_⟩
    · refine (Op.bind_ok hfirst).trans ((Op.bind_ok (Op.read_run _ _)).trans ?_)
      rw [show decide ((s.predicted s.mc pl1 s.freeCtr).chromaFormat = 1) = false from decide_eq_false hc]
      rfl
    · rw [hw1 x y hx, Nat.zero_add]
      rfl
    · simp only [hc, false_and, if_false]
      rw [State.sample_predicted (m := s.mc) (c := s.freeCtr) hgen1 (hother1 p (by omega) (by omega))]
      rfl

/-- What follows the samples: the coefficient buffers, write-back and the address. -/
theorem mbRecon_pcm {pl : Planes} (hkind : s.mb.kind = some .intraPcm) (hX : s.mbX.toNat < s.picW) (hY : s.mbY.toNat < s.picH)
    (hslots : ownSlotsWritten s .intraPcm = true) (hsamples : reconPcm s = .ok () (s.predicted s.mc pl s.freeCtr)) :
    mbRecon s = .ok () (State.nextMacroblock { s with
      coefs := Coefs.zero, pic := { s.pic with planes := pl, arrays := s.arraysWith .intraPcm s.mbXY } }) := by
  have hk : mbKind s = .ok .intraPcm s := Op.need_some hkind
  have hback := cacheWriteback_ok (s := { s.predicted s.mc pl s.freeCtr with coefs := Coefs.zero }) hkind (.inr rfl) hX hY hslots
  rw [← nextMacroblock_eq (s := { s with
    coefs := Coefs.zero, pic := { s.pic with planes := pl, arrays := s.arraysWith .intraPcm s.mbXY } }) hY]
  exact (Op.bind_ok hk).trans ((Op.bind_ok hsamples).trans ((Op.bind_ok (Op.modify_run _ _)).trans
    ((Op.bind_ok hback).trans rfl)))

/-- Settles O57: by its steps, and for `IntraPCM` by its samples. -/
theorem macroblockReconstruction : Obligations.MacroblockReconstruction := by
  refine ⟨fun s u he hsteps => macroblockReconstruction_steps he hsteps, ?_⟩
  intro s he hs hcf hkind hX hY hslots hpcm
  obtain ⟨pl, hsamples, hgen, hluma, hchroma⟩ := reconPcm_ok hX hY hpcm
  refine ⟨_, s.arraysWith .intraPcm s.mbXY, command_ok (accepts_run he rfl) (mbRecon_pcm hkind hX hY hslots hsamples), rfl, hgen,
    writtenBack_arraysWith hslots, fun x y hx => ?_, fun p x y hp hx => ?_, ?_⟩
  · exact congrArg Nat.cast (hluma x y hx)
  · exact congrArg Nat.cast (hchroma p x y hp hx)
  · by_cases hlast : s.mbX.toNat + 1 = s.picW
    · rw [if_pos hlast]
      refine ⟨if_pos hlast, if_pos hlast, ?_⟩
      by_cases hend : s.mbY.toNat + 1 = s.picH
      · rw [if_pos hend]; exact if_pos ⟨hlast, hend⟩
      · rw [if_neg hend]; exact (if_neg fun h => hend h.2).trans he
    · rw [if_neg hlast]
      exact ⟨if_neg hlast, if_neg hlast, (if_neg fun h => hlast h.1).trans he⟩

end Sys2Proof.Machine
end

section
/-! Proofs. `MB_DECODE` as its steps (43_mb_type_motion.md R301): what a reading command answers its caller, and the skip run. -/

namespace Sys2Proof.Machine

open Sys2Proof.Stated

variable {α β γ : Type} {s t : State}

/-! ### What a read gives -/

theorem Op.Gives.bind {Q : β → Prop} {m : Op α} {f : α → Op β} (h : ∀ a, Op.Gives Q (f a)) : Op.Gives Q (m >>= f) := by
  intro u b v hb
  obtain ⟨a, w, -, ha⟩ := Op.bind_ok_iff.mp hb
  exact h a w b v ha

theorem Op.Gives.bind_of {P : α → Prop} {Q : β → Prop} {m : Op α} {f : α → Op β} (hm : Op.Gives P m)
    (h : ∀ a, P a → Op.Gives Q (f a)) : Op.Gives Q (m >>= f) := by
  intro u b v hb
  obtain ⟨a, w, hma, ha⟩ := Op.bind_ok_iff.mp hb
  exact h a (hm u a w hma) w b v ha

theorem Op.Gives.pure {Q : α → Prop} {a : α} (h : Q a) : Op.Gives Q (Pure.pure a : Op α) := by
  intro u b v hb
  cases hb
  exact h

theorem Op.Gives.ite {Q : α → Prop} {c : Prop} [Decidable c] {m n : Op α} (hm : c → Op.Gives Q m) (hn : ¬ c → Op.Gives Q n) :
    Op.Gives Q (if c then m else n) := by
  split
  · next h => exact hm h
  · next h => exact hn h

theorem readBits_gives (n : Nat) : Op.Gives (fun v => v < 2 ^ n) (readBits n) := by
  intro u v w h
  obtain ⟨a, u', hread, hrest⟩ := Op.bind_ok_iff.mp h
  cases hread
  obtain ⟨_, u'', -, hpure⟩ := Op.bind_ok_iff.mp hrest
  cases hpure
  exact (peekBits_spells u n).1

theorem countZeros_gives (k : ErrKind) : ∀ left zeros, Op.Gives (fun n => n < zeros + left) (countZeros k left zeros)
  | 0, _ => fun _ _ _ h => nomatch h
  | left + 1, zeros => .bind fun _ => .ite
      (fun _ u n v h => by have := countZeros_gives k left (zeros + 1) u n v h; omega) fun _ => .pure (by omega)

theorem readUe_gives : Op.Gives (fun v => v < 2 ^ 32 - 1) readUe := by
  refine .bind_of (countZeros_gives _ _ _) fun k hk => .bind_of (readBits_gives k) fun x hx => .pure ?_
  have hpow : 2 ^ k ≤ 2 ^ 31 := Nat.pow_le_pow_right Nat.two_pos (by omega)
  omega

theorem readSe_gives : Op.Gives (fun v => -2 ^ 31 ≤ v ∧ v < 2 ^ 31) readSe := by
  refine .bind_of readUe_gives fun k hk => .pure ?_
  rw [seOfUe]
  split <;> omega

theorem readTe_gives (n : Nat) : Op.Gives (fun v => v < 2 ^ 32) (readTe n) := by
  refine .ite (fun _ => .pure (by decide)) fun _ => .ite (fun _ => .bind_of (readBits_gives 1) fun b hb => .pure (by omega)) fun _ => ?_
  intro u v w h
  have := readUe_gives u v w h
  omega

/-! ### What a reading command answers -/

theorem bitWrites_res (r : Option Word) : BitWrites fun s => s.res = r where
  skip _ _ h _ := h

/-- The answer of a command that leaves a value in `RES` is the operation's value. -/
theorem follows_answer {i : Instr} {m : Op α} {word : α → Int} {back : Word → β} {value : α → β}
    (hissue : Follows (issue i) (m >>= fun v => setRes (word v))) (hres : ∀ r, Op.Keeps (fun s => s.res = r) m)
    (hval : Op.Gives (fun v => back (BitVec.ofInt 32 (word v)) = value v) m) :
    Follows (answer i >>= fun v => pure (back v)) (m >>= fun v => pure (value v)) := by
  intro s b t h
  obtain ⟨v, u, hanswer, hpure⟩ := Steps.bind_some_iff.mp h
  obtain ⟨old, s0, hold, hrest⟩ := Steps.bind_some_iff.mp hanswer
  cases hold
  obtain ⟨_, s1, hcmd, hrest⟩ := Steps.bind_some_iff.mp hrest
  obtain ⟨a, s2, hm, hset⟩ := Op.bind_ok_iff.mp (hissue _ _ _ hcmd)
  cases hset
  cases hpure
  have hkept : s2.res = s.res := (hres s.res).ok rfl hm
  have hv := hval _ _ _ hm
  refine (Op.bind_ok hm).trans ?_
  rw [← hv]
  cases hrest
  dsimp only
  rw [← hkept]
  rfl

theorem toNat_ofInt_word {v : Nat} (h : v < 2 ^ 32) : (BitVec.ofInt 32 (v : Int)).toNat = v := by
  rw [BitVec.ofInt_natCast]
  exact Nat.mod_eq_of_lt h

theorem follows_bitsOf {n : Nat} (hn : n ≤ 32) : Follows (Stated.bitsOf n) (readBits n) := by
  have hcmd : Follows (issue (.read (BitVec.ofNat 8 n))) (readBits (BitVec.ofNat 8 n).toNat >>= fun v => setRes (v : Int)) :=
    .issue (fun _ => ⟨_, _, rfl⟩) (.bind (readBits_stops Stop.legal_raiseSet _) fun _ => .modify)
      fun st => Op.keeps_bind (readBits_keeps (bodyWrites_status st).toBitWrites _) fun _ => Op.keeps_modify fun _ h => h
  rw [toNat_ofNat_byte (by omega)] at hcmd
  have h := follows_answer (back := BitVec.toNat) (value := fun v => v) hcmd (fun r => readBits_keeps (bitWrites_res r) n)
    fun u v w hv => toNat_ofInt_word (Nat.lt_of_lt_of_le (readBits_gives n u v w hv) (Nat.pow_le_pow_right Nat.two_pos hn))
  rwa [bind_pure] at h

theorem follows_ueOf : Follows ueOf readUe := by
  have hcmd : Follows (issue .readUe) (readUe >>= fun v => setRes (v : Int)) :=
    .issue (fun _ => ⟨_, _, rfl⟩) (.bind (readUe_stops Stop.legal_raiseSet) fun _ => .modify)
      fun st => Op.keeps_bind (readUe_keeps (bodyWrites_status st).toBitWrites) fun _ => Op.keeps_modify fun _ h => h
  have h := follows_answer (back := BitVec.toNat) (value := fun v => v) hcmd (fun r => readUe_keeps (bitWrites_res r))
    fun u v w hv => toNat_ofInt_word (Nat.lt_trans (readUe_gives u v w hv) (by decide))
  rwa [bind_pure] at h

theorem follows_seOf : Follows seOf readSe := by
  have hcmd : Follows (issue .readSe) (readSe >>= fun v => setRes v) :=
    .issue (fun _ => ⟨_, _, rfl⟩) (.bind (readSe_stops Stop.legal_raiseSet) fun _ => .modify)
      fun st => Op.keeps_bind (readSe_keeps (bodyWrites_status st).toBitWrites) fun _ => Op.keeps_modify fun _ h => h
  have h := follows_answer (back := BitVec.toInt) (value := fun v => v) hcmd (fun r => readSe_keeps (bitWrites_res r))
    fun u v w hv => toInt_ofInt_source (readSe_gives u v w hv)
  rwa [bind_pure] at h

theorem follows_teOf {n : Nat} (hn : n < 2 ^ 8) : Follows (teOf n) (readTe n) := by
  have hcmd : Follows (issue (.readTe (BitVec.ofNat 8 n))) (readTe (BitVec.ofNat 8 n).toNat >>= fun v => setRes (v : Int)) :=
    .issue (fun _ => ⟨_, _, rfl⟩) (.bind (readTe_stops Stop.legal_raiseSet _) fun _ => .modify)
      fun st => Op.keeps_bind (readTe_keeps (bodyWrites_status st).toBitWrites _) fun _ => Op.keeps_modify fun _ h => h
  rw [toNat_ofNat_byte hn] at hcmd
  have h := follows_answer (back := BitVec.toNat) (value := fun v => v) hcmd (fun r => readTe_keeps (bitWrites_res r) n)
    fun u v w hv => toNat_ofInt_word (readTe_gives n u v w hv)
  rwa [bind_pure] at h

/-! ### The other commands issued -/

theorem follows_cacheFill : Follows (issue .cacheFill) cacheFill :=
  .issue (fun _ => ⟨_, _, rfl⟩) (cacheFill_stops Stop.legal_stopSet) fun st => cacheFill_keeps (bodyWrites_status st).toFillWrites

theorem follows_align : Follows (issue .align) alignBits :=
  .issue (fun _ => ⟨_, _, rfl⟩) .modify fun _ => Op.keeps_modify fun _ h => h

theorem follows_predMvPskip : Follows (issue .predMvPskip) predMvPskip :=
  .issue (fun _ => ⟨_, _, rfl⟩) (predMvPskip_stops Stop.legal_stopSet) fun st => predMvPskip_keeps (bodyWrites_status st).toPredWrites

/-- A reference as an operand word is taken back as the reference. -/
theorem setWidth_refWord (ref : BitVec 8) : (ref.setWidth 32).setWidth 8 = ref := by
  refine BitVec.eq_of_toNat_eq ?_
  have := ref.isLt
  simp only [BitVec.toNat_setWidth]
  omega

theorem follows_predMv {n w l : Nat} (ref : BitVec 8) (hn : n < 2 ^ 8) (hw : w < 2 ^ 8) (hl : l < 2 ^ 8) :
    Follows (issue (.predMv (BitVec.ofNat 8 n) (BitVec.ofNat 8 w) (BitVec.ofNat 8 l) (ref.setWidth 32))) (predMv n w l ref) := by
  have h : Follows (issue (.predMv (BitVec.ofNat 8 n) (BitVec.ofNat 8 w) (BitVec.ofNat 8 l) (ref.setWidth 32)))
      (predMv (BitVec.ofNat 8 n).toNat (BitVec.ofNat 8 w).toNat (BitVec.ofNat 8 l).toNat ((ref.setWidth 32).setWidth 8)) :=
    .issue (fun _ => ⟨_, _, rfl⟩) (predMv_stops Stop.legal_stopSet _ _ _ _) fun st => predMv_keeps (bodyWrites_status st).toPredWrites _ _ _ _
  rwa [toNat_ofNat_byte hn, toNat_ofNat_byte hw, toNat_ofNat_byte hl, setWidth_refWord] at h

theorem follows_predMv16x8 {n l : Nat} (ref : BitVec 8) (hn : n < 2 ^ 8) (hl : l < 2 ^ 8) :
    Follows (issue (.predMv16x8 (BitVec.ofNat 8 n) (BitVec.ofNat 8 l) (ref.setWidth 32))) (predMv16x8 n l ref) := by
  have h : Follows (issue (.predMv16x8 (BitVec.ofNat 8 n) (BitVec.ofNat 8 l) (ref.setWidth 32)))
      (predMv16x8 (BitVec.ofNat 8 n).toNat (BitVec.ofNat 8 l).toNat ((ref.setWidth 32).setWidth 8)) :=
    .issue (fun _ => ⟨_, _, rfl⟩) (predMv16x8_stops Stop.legal_stopSet _ _ _) fun st => predMv16x8_keeps (bodyWrites_status st).toPredWrites _ _ _
  rwa [toNat_ofNat_byte hn, toNat_ofNat_byte hl, setWidth_refWord] at h

theorem follows_predMv8x16 {n l : Nat} (ref : BitVec 8) (hn : n < 2 ^ 8) (hl : l < 2 ^ 8) :
    Follows (issue (.predMv8x16 (BitVec.ofNat 8 n) (BitVec.ofNat 8 l) (ref.setWidth 32))) (predMv8x16 n l ref) := by
  have h : Follows (issue (.predMv8x16 (BitVec.ofNat 8 n) (BitVec.ofNat 8 l) (ref.setWidth 32)))
      (predMv8x16 (BitVec.ofNat 8 n).toNat (BitVec.ofNat 8 l).toNat ((ref.setWidth 32).setWidth 8)) :=
    .issue (fun _ => ⟨_, _, rfl⟩) (predMv8x16_stops Stop.legal_stopSet _ _ _) fun st => predMv8x16_keeps (bodyWrites_status st).toPredWrites _ _ _
  rwa [toNat_ofNat_byte hn, toNat_ofNat_byte hl, setWidth_refWord] at h

end Sys2Proof.Machine
end

section
/-! Proofs. `MB_DECODE` as its steps: the skip run, skipped macroblocks and the macroblock type (43_mb_type_motion.md R302 to R308). -/

namespace Sys2Proof.Machine

open Sys2Proof.Stated

variable {α β γ δ : Type} {s t : State}

/-! ### Operations that stand for a list of steps' values in their own form -/

/-- Where the steps complete, the operation completes in the same state, with a value that stands for the steps'. -/
def FollowsVia (R : α → β → Prop) (p : Steps α) (m : Op β) : Prop :=
  ∀ s a t, p s = some (a, t) → ∃ b, m s = .ok b t ∧ R a b

theorem Follows.via {p : Steps α} {m : Op α} {f : α → Steps β} {n : α → Op γ} {Q : β → γ → Prop}
    (h : Follows p m) (hf : ∀ a, FollowsVia Q (f a) (n a)) : FollowsVia Q (p >>= f) (m >>= n) := by
  intro s b t hb
  obtain ⟨a, u, ha, hrest⟩ := Steps.bind_some_iff.mp hb
  rw [Op.bind_ok (h s a u ha)]
  exact hf a u b t hrest

theorem FollowsVia.pure {R : α → β → Prop} {a : α} {b : β} (h : R a b) : FollowsVia R (Pure.pure a) (Pure.pure b : Op β) := by
  intro s c t hc
  cases hc
  exact ⟨b, rfl, h⟩

theorem FollowsVia.bind {R : α → β → Prop} {p : Steps α} {m : Op β} {f : α → Steps γ} {g : β → Op γ}
    (h : FollowsVia R p m) (hf : ∀ a b, R a b → Follows (f a) (g b)) : Follows (p >>= f) (m >>= g) := by
  intro s c t hc
  obtain ⟨a, u, ha, hrest⟩ := Steps.bind_some_iff.mp hc
  obtain ⟨b, hb, hr⟩ := h s a u ha
  rw [Op.bind_ok hb]
  exact hf a b hr u c t hrest

theorem FollowsVia.gather {R : β → γ → Prop} {f : α → Steps β} {g : δ → Op γ} {as : List α} {ds : List δ}
    (h : ListRel (fun a d => FollowsVia R (f a) (g d)) as ds) :
    FollowsVia (ListRel R) (Stated.gather as f) (Op.collect ds g) := by
  induction h with
  | nil => exact .pure .nil
  | cons h _ ih =>
    intro s bs t hbs
    obtain ⟨b, u, hb, hrest⟩ := Steps.bind_some_iff.mp hbs
    obtain ⟨bs', v, hbs', hpure⟩ := Steps.bind_some_iff.mp hrest
    cases hpure
    obtain ⟨c, hc, hr⟩ := h s b u hb
    obtain ⟨cs, hcs, hrs⟩ := ih _ _ _ hbs'
    exact ⟨c :: cs, (Op.bind_ok hc).trans (Op.bind_ok hcs), .cons hr hrs⟩

/-! ### The skip run -/

theorem follows_readSkipRun (run : Word) : Follows
    (onlyIf (decide (run = -1)) do
      let k ← ueOf
      let most ← view fun s => s.picW * s.picH
      let rest ← view macroblocksLeft
      only (k ≤ most ∧ (k ≤ rest ∨ Config.skipRunPastEnd k rest = false))
      change fun s => { s with skipRun := BitVec.ofNat 32 k }) (readSkipRun run) := by
  refine .onlyIf_then (c := run = -1) (.bind follows_ueOf fun k => ?_)
  intro s a t h
  obtain ⟨most, s1, hmost, hrest⟩ := Steps.bind_some_iff.mp h
  cases hmost
  obtain ⟨rest, s2, hleft, hrest⟩ := Steps.bind_some_iff.mp hrest
  cases hleft
  obtain ⟨_, s3, honly, hchange⟩ := Steps.bind_some_iff.mp hrest
  obtain ⟨hfits, hs3⟩ := Steps.only_some_iff.mp honly
  cases hchange
  obtain ⟨hmost, hleft⟩ := of_decide_eq_true hfits
  have hshort : (!(s.skipRunTooLong k)) = true := by
    rw [State.skipRunTooLong, decide_eq_false (Nat.not_lt.mpr hmost), Bool.false_or]
    rcases hleft with hk | hk
    · rw [show decide (s.mbsLeft < k) = false from decide_eq_false (Nat.not_lt.mpr hk)]; rfl
    · rw [show Config.skipRunPastEnd k s.mbsLeft = false from hk, Bool.and_false]; rfl
  rw [hs3]
  exact (Op.bind_ok (Op.modify_run _ s)).trans (Op.require_true _ hshort)

theorem follows_skipRun : Follows skipRunSteps skipRunStep :=
  .bind .view fun run => .bind (follows_readSkipRun run) fun _ => .bind .view fun _ =>
    .ite (fun _ => .bind .change fun _ => .pure) fun _ => .bind .change fun _ => .pure

/-! ### Motion from `DirectPredict`, and a skipped macroblock -/

theorem follows_direct (motion : Nat → DirectBlock) (l : Nat) (ns : List Nat) :
    Follows (directSteps motion l ns) (writeDirect motion l ns) :=
  .forEach fun _ _ => .bind .change fun _ => .change

theorem follows_directMacroblock : Follows directMacroblock directMotion :=
  .bind .view fun _ => .forEach fun _ _ => follows_direct _ _ _

theorem follows_skippedMotionP : Follows (do
    issue .predMvPskip
    let x ← held fun s => s.pmx
    let y ← held fun s => s.pmy
    fillRefs 0 (slotsOf 0 4 4) 0
    fillVectors 0 (slotsOf 0 4 4) ⟨x, y⟩
    fillCounts ((List.range 24).map scan8) 0) (skippedMotionP >>= fun _ => setNnz blockSlots 0) := by
  simp only [skippedMotionP, bind_assoc]
  exact .bind follows_predMvPskip fun _ => .bind (.held fun _ => rfl) fun _ => .bind (.held fun _ => rfl) fun _ =>
    .bind .change fun _ => .bind .change fun _ => .change

theorem follows_skipped : Follows skippedSteps skippedMacroblock := by
  refine .bind .view fun b => .bind .change fun _ => .bind follows_cacheFill fun _ => ?_
  cases b
  · exact follows_skippedMotionP
  · exact .bind follows_directMacroblock fun _ => .change

/-! ### The macroblock type -/

theorem intraType_eq : ∀ t, intraType t = if t ≤ 25 then some (iMbType t) else none := by
  intro t
  by_cases ht : t ≤ 25
  · rw [if_pos ht]
    revert t
    decide
  · rw [if_neg ht, intraType, if_neg (by omega), if_neg (by omega), if_neg (by omega)]

theorem pType_eq : ∀ t < 5, pType t = some (pMbType t) := by decide

theorem bType_eq : ∀ t < 23, bType t = some (bMbType t) := by decide

theorem typeOf_eq (sl : SliceType) (t : Nat) : typeOf sl t = mbOfType sl t := by
  cases sl
  case i => exact intraType_eq t
  case p =>
    by_cases ht : t < 5
    · rw [typeOf, mbOfType, if_pos ht, if_pos ht, pType_eq t ht]
    · rw [typeOf, mbOfType, if_neg ht, if_neg ht, intraType_eq]
  case b =>
    by_cases ht : t < 23
    · rw [typeOf, mbOfType, if_pos ht, if_pos ht, bType_eq t ht]
    · rw [typeOf, mbOfType, if_neg ht, if_neg ht, intraType_eq]

theorem Follows.held_orStop {o o' : Option α} {e : Stop} (h : o = o') : Follows (Stated.held fun _ => o) (Op.orStop o' e) := by
  intro s a t ha
  obtain ⟨b, hb, hu⟩ := Option.map_eq_some_iff.mp ha
  cases hu
  rw [← h, show o = some a from hb]
  exact Op.orStop_some a e s

end Sys2Proof.Machine
end

section
/-! Proofs. `MB_DECODE` as its steps: intra macroblocks and the motion of inter macroblocks (43_mb_type_motion.md R309 to R339). -/

namespace Sys2Proof.Machine

open Sys2Proof.Stated

variable {α β γ : Type} {s t : State}

/-! ### Intra macroblocks -/

theorem follows_chromaMode : Follows chromaModeSteps intraChromaMode :=
  .bind .view fun _ => .onlyIf fun _ => .bind follows_ueOf fun _ => .bind (.only fun h _ => h) fun _ => .change

theorem predI4Mode_res {n k : Nat} (h : predI4Mode n s = .ok k t) : t.res = some (BitVec.ofNat 32 k) ∧ k < 2 ^ 32 := by
  obtain ⟨left, s1, hleft, hrest⟩ := Op.bind_ok_iff.mp h
  obtain ⟨top, s2, htop, hset⟩ := Op.bind_ok_iff.mp hrest
  cases hset
  refine ⟨rfl, ?_⟩
  have := left.toInt_lt
  rw [i4Prediction]
  split <;> omega

/-- The predicted mode is in `RES` when the command completes. -/
theorem follows_predI4Mode {n : Nat} (hn : n < 2 ^ 8) : Follows
    (issue (.predI4Mode (BitVec.ofNat 8 n)) >>= fun _ => held fun s => s.res.map BitVec.toNat) (predI4Mode n) := by
  have hcmd : Follows (issue (.predI4Mode (BitVec.ofNat 8 n))) (predI4Mode (BitVec.ofNat 8 n).toNat >>= fun _ => pure ()) :=
    .issue (fun _ => ⟨_, _, rfl⟩) (.bind (predI4Mode_stops Stop.legal_stopSet _) fun _ => .pure)
      fun st => Op.keeps_bind (predI4Mode_keeps (bodyWrites_status st).toPredWrites _) fun _ => Op.keeps_pure _
  rw [toNat_ofNat_byte hn] at hcmd
  intro s m t h
  obtain ⟨_, u, hissue, hheld⟩ := Steps.bind_some_iff.mp h
  obtain ⟨k, v, hk, hpure⟩ := Op.bind_ok_iff.mp (hcmd s () u hissue)
  cases hpure
  obtain ⟨hres, hlt⟩ := predI4Mode_res hk
  obtain ⟨m', hm, hu⟩ := Option.map_eq_some_iff.mp hheld
  cases hu
  have hv : some m = some k := by
    rw [← hm]
    dsimp only
    rw [hres]
    exact congrArg some (Nat.mod_eq_of_lt hlt)
  rw [Option.some.inj hv]
  exact hk

/-- Two steps that stand for one operation. -/
theorem Follows.bind₂ {p : Steps α} {q : α → Steps β} {f : β → Steps γ} {m : Op β} {g : β → Op γ} (h : Follows (p >>= q) m)
    (hf : ∀ b, Follows (f b) (g b)) : Follows (p >>= fun a => q a >>= f) (m >>= g) := by
  rw [← bind_assoc]
  exact .bind h hf

theorem follows_modeStep (big : Bool) {n : Nat} (hn : n < 2 ^ 8) : Follows (modeSteps big n) (intraModeStep big n) := by
  simp only [intraModeStep, readI4Mode, bind_assoc]
  refine .bind₂ (follows_predI4Mode hn) fun pred => .bind (follows_bitsOf (by decide)) fun flag => ?_
  by_cases hf : flag = 1
  · rw [if_pos hf, if_pos hf]
    exact .bind .pure fun _ => .bind .change fun _ => .change
  · rw [if_neg hf, if_neg hf, bind_assoc]
    exact .bind (follows_bitsOf (by decide)) fun _ => .bind .pure fun _ => .bind .change fun _ => .change

theorem follows_intra4x4 : Follows intra4x4Steps (intraModes >>= fun _ => intraChromaMode) := by
  simp only [intraModes, bind_assoc]
  refine .bind .view fun mode => ?_
  have hmodes (flag : Nat) : Follows (forEach (if flag = 1 then [0, 4, 8, 12] else List.range 16) (modeSteps (decide (flag = 1))))
      (Op.each (if decide (flag = 1) then [0, 4, 8, 12] else List.range 16) (intraModeStep (decide (flag = 1)))) := by
    simp only [decide_eq_true_eq]
    refine .forEach fun n hn => follows_modeStep _ ?_
    split at hn
    · simp only [List.mem_cons, List.not_mem_nil, or_false] at hn
      omega
    · exact lt_byte_of_range (by decide) hn
  cases mode
  · exact .bind .pure fun flag => .bind .change fun _ => .bind (hmodes flag) fun _ => follows_chromaMode
  · exact .bind (follows_bitsOf (by decide)) fun flag => .bind .change fun _ => .bind (hmodes flag) fun _ => follows_chromaMode

theorem follows_pcm : Follows pcmSteps intraPcm := by
  refine .bind follows_align fun _ => ?_
  intro s a t h
  obtain ⟨depth, s1, hdepth, hrest⟩ := Steps.bind_some_iff.mp h
  cases hdepth
  obtain ⟨count, s2, hcount, hrest⟩ := Steps.bind_some_iff.mp hrest
  cases hcount
  obtain ⟨ahead, s3, hahead, hrest⟩ := Steps.bind_some_iff.mp hrest
  cases hahead
  obtain ⟨_, s4, honly, hrest⟩ := Steps.bind_some_iff.mp hrest
  obtain ⟨hfits, hs4⟩ := Steps.only_some_iff.mp honly
  have hcount : (if s.chromaFormat = 1 then 384 else 256) = s.pcmCount := by
    rw [State.pcmCount]
    split <;> rfl
  have hlen := of_decide_eq_true hfits
  dsimp only at hlen hrest
  rw [hcount] at hlen hrest
  have hdepth : s.bitDepth ≤ 32 := by
    have := (s.cr0.extractLsb' 2 4).isLt
    rw [State.bitDepth]
    omega
  rw [hs4] at hrest
  refine (Op.bind_ok (Op.require_true _ (decide_eq_true hlen))).trans ((Op.bind_ok (Op.read_run _ s)).trans ((Op.bind_ok (Op.read_run _ s)).trans ?_))
  have htail : Follows (do
      forEach (List.range s.pcmCount) fun i => do
        let v ← Stated.bitsOf s.bitDepth
        change fun s => { s with pcm := Cells.put s.pcm i (BitVec.ofNat 14 v) }
      fillCounts ((List.range 24).map scan8) 16
      changeMb fun m => { m with cbp := some 47 }) (do
      Op.each (List.range s.pcmCount) fun i => do
        let v ← readBits s.bitDepth
        Op.modify fun s => { s with pcm := Cells.put s.pcm i (BitVec.ofNat 14 v) }
      setNnz blockSlots 16
      setMb fun m => { m with cbp := some 47 }) :=
    .bind (.forEach fun _ _ => .bind (follows_bitsOf hdepth) fun _ => .change) fun _ => .bind .change fun _ => .change
  exact htail s a t hrest

/-! ### References and vectors -/

theorem refCount_lt (s : State) (l : Nat) : s.refCount l < 2 ^ 8 := by
  have h0 := (s.cr2.extractLsb' 18 6).isLt
  have h1 := (s.cr2.extractLsb' 24 6).isLt
  rw [State.refCount]
  split <;> omega

theorem follows_ref (uses : Bool) (l : Nat) : Follows (refSteps uses l) (refIfUsed uses l) := by
  refine .ite (fun _ => .bind (.held fun _ => rfl) fun zero => .view_bind fun s => .bind (follows_teOf ?_) fun r =>
    .bind (.only fun h _ => h) fun _ => .pure) fun _ => .pure
  have := refCount_lt s l
  split <;> omega

/-- A predictor and the two deltas. -/
theorem follows_vector {predictor : Instr} {m : Op Unit} (h : Follows (issue predictor) m) :
    Follows (vectorSteps predictor) (m >>= fun _ => readMv) :=
  .bind h fun _ => .bind (.held fun _ => rfl) fun _ => .bind (.held fun _ => rfl) fun _ => .bind follows_seOf fun _ =>
    .bind follows_seOf fun _ => .pure

theorem pairsByList_map {f : α → β} (lists : List Nat) (xs : List α) :
    pairsByList lists (xs.map f) = (pairsByList lists xs).map fun c => (c.1, f c.2) := by
  simp only [pairsByList, List.map_flatMap, List.map_map, Function.comp_def]

theorem mem_byList {n : Nat} {xs : List α} {c : Nat × α} (h : c ∈ byList n xs) : c.1 < n ∧ c.2 ∈ xs := by
  obtain ⟨l, hl, hc⟩ := List.mem_flatMap.mp h
  obtain ⟨x, hx, rfl⟩ := List.mem_map.mp hc
  exact ⟨List.mem_range.mp hl, hx⟩

/-- The model's form of a partition. -/
def partOfPartition (q : Partition) : Part := ⟨q.p, q.block, q.w, q.h⟩

/-- A reference decoded, as the steps hold it and as the model does. -/
def SameRef (c : (Nat × Partition) × Bool × BitVec 8) (d : PartRef Part) : Prop :=
  d = ⟨c.1.1, partOfPartition c.1.2, c.2.1, c.2.2⟩

theorem follows_partRef {c : Nat × Partition} {cs : List (Nat × Partition)} (hc : c ∈ cs) :
    FollowsVia (fun v d => SameRef v d ∧ v.1 ∈ cs) (do
    let uses ← held fun s => Cells.look s.mb.dir (2 * c.2.p + c.1)
    let r ← refSteps uses c.1
    fillRefs c.1 (slotsOf c.2.block c.2.w c.2.h) r
    pure (c, uses, r)) (partRef (c.1, partOfPartition c.2)) :=
  Follows.via (.held fun _ => rfl) fun uses => Follows.via (follows_ref uses c.1) fun _ => Follows.via .change fun _ =>
    .pure ⟨rfl, hc⟩

/-- The predictor issued for a partition is the model's. -/
theorem follows_predictor {kind : MbKind} {q : Partition} (hq : q ∈ partitionsOf kind) {l : Nat} (hl : l < 2 ^ 8) (ref : BitVec 8) :
    Follows (issue (q.predictor kind l ref)) ((partOfPartition q).predict l ref) := by
  cases kind
  case inter16x16 =>
    obtain rfl := List.mem_singleton.mp hq
    exact follows_predMv ref (by decide) (by decide) hl
  case inter16x8 =>
    simp only [partitionsOf, List.mem_cons, List.not_mem_nil, or_false] at hq
    rcases hq with rfl | rfl <;> exact follows_predMv16x8 ref (by decide) hl
  case inter8x16 =>
    simp only [partitionsOf, List.mem_cons, List.not_mem_nil, or_false] at hq
    rcases hq with rfl | rfl <;> exact follows_predMv8x16 ref (by decide) hl
  all_goals cases hq

theorem follows_partMv {kind : MbKind} {c : (Nat × Partition) × Bool × BitVec 8} {d : PartRef Part} (hd : SameRef c d)
    (hq : c.1.2 ∈ partitionsOf kind) (hl : c.1.1 < 2 ^ 8) : Follows (do
      let mv ← if c.2.1 then vectorSteps (c.1.2.predictor kind c.1.1 c.2.2) else pure ⟨0, 0⟩
      fillVectors c.1.1 (slotsOf c.1.2.block c.1.2.w c.1.2.h) mv) (partMv d) := by
  rw [show d = _ from hd, partMv, partVector]
  cases c.2.1
  · exact .bind .pure fun _ => .change
  · exact .bind (follows_vector (follows_predictor hq hl _)) fun _ => .change

theorem listCount_lt (s : State) : s.listCount < 2 ^ 8 := by
  have := s.listCount_le
  omega

theorem follows_partitions (kind : MbKind) :
    Follows (partitionSteps kind) (interParts ((partitionsOf kind).map partOfPartition)) := by
  refine .view_bind fun s => ?_
  have hrefs := FollowsVia.gather (R := fun v d => SameRef v d ∧ v.1 ∈ byList s.listCount (partitionsOf kind))
    (ds := pairsByList s.lists ((partitionsOf kind).map partOfPartition)) (g := partRef) <| by
      rw [pairsByList_map]
      exact ListRel.map_right fun c hc s a t h => follows_partRef hc s a t h
  refine FollowsVia.bind hrefs fun as ds h => Follows.forEach₂ (h.imp fun v d hv => ?_)
  obtain ⟨hl, hq⟩ := mem_byList hv.2
  exact follows_partMv hv.1 hq (Nat.lt_trans hl (listCount_lt s))

/-! ### Quadrants -/

theorem subTypeOf_eq (b : Bool) (t : Nat) :
    subTypeOf b t = if t ≤ (if b then 12 else 3) then some (if b then bSubMbType t else pSubMbType t) else none := by
  cases b
  · by_cases ht : t ≤ 3
    · revert t
      decide
    · rw [if_neg (show ¬ t ≤ (if false = true then 12 else 3) from ht)]
      exact List.getElem?_eq_none (Nat.lt_of_not_le ht)
  · by_cases ht : t ≤ 12
    · revert t
      decide
    · rw [if_neg (show ¬ t ≤ (if true = true then 12 else 3) from ht)]
      exact List.getElem?_eq_none (Nat.lt_of_not_le ht)

theorem follows_subTypes : Follows (forEach (List.range 4) fun i => do
    let t ← ueOf
    let b ← view fun s => decide (s.sliceType = .b)
    let sub ← held fun _ => subTypeOf b t
    changeMb fun m => { m with sub := Cells.put m.sub i sub }) readSubTypes := by
  refine .forEach fun i _ => .bind follows_ueOf fun n => .bind .view fun b => ?_
  intro s a t h
  obtain ⟨sub, u, hsub, hput⟩ := Steps.bind_some_iff.mp h
  obtain ⟨sub', hsome, hu⟩ := Option.map_eq_some_iff.mp hsub
  cases hu
  dsimp only at hsome
  rw [subTypeOf_eq] at hsome
  by_cases hn : n ≤ if b then 12 else 3
  · rw [if_pos hn] at hsome
    cases hput
    rw [← Option.some.inj hsome]
    exact Op.bind_ok (Op.require_true _ (decide_eq_true hn))
  · rw [if_neg hn] at hsome
    cases hsome

theorem pieces_eq (shape : SubShape) (s : Nat) : (piecesOf shape).1 = shape.count ∧ (piecesOf shape).2.1 = shape.blockWidth
    ∧ (piecesOf shape).2.2.map (s + ·) = shape.slots s ∧ shape.count ≤ 4 ∧ shape.blockWidth ≤ 2 := by
  cases shape <;> exact ⟨rfl, rfl, rfl, by decide, by decide⟩

/-- A quadrant's reference, as the steps hold it and as the model does. -/
def SameQuadrant (direct : List (Nat → DirectBlock)) (c : (Nat × Nat) × (Nat → DirectBlock) × Bool × BitVec 8) (d : PartRef Nat) : Prop :=
  d = ⟨c.1.1, c.1.2, c.2.2.1, c.2.2.2⟩ ∧ c.2.1 = direct.getD c.1.2 fun _ => default

theorem follows_quadrantRef (direct : List (Nat → DirectBlock)) (c : Nat × Nat) :
    FollowsVia (fun v d => SameQuadrant direct v d ∧ v.1 = c) (do
      let motion := direct.getD c.2 fun _ => default
      let sub ← held fun s => Cells.look s.mb.sub c.2
      let uses := if c.1 = 0 then sub.dir0 else sub.dir1
      let r ← if sub.shape.isNone then pure ((motion (4 * c.2)).refOf c.1) else refSteps uses c.1
      pure (c, motion, uses, r)) (quadrantRef direct c) := by
  refine Follows.via (.held fun _ => rfl) fun sub => ?_
  unfold quadrantRefValue
  cases sub.shape with
  | none => exact Follows.via .pure fun _ => .pure ⟨⟨rfl, rfl⟩, rfl⟩
  | some shape => exact Follows.via (follows_ref _ _) fun _ => .pure ⟨⟨rfl, rfl⟩, rfl⟩

theorem follows_pieces (shape : SubShape) {l i : Nat} (hl : l < 2 ^ 8) (hi : i < 4) (ref : BitVec 8) : Follows
    (forEach (List.range (piecesOf shape).1) fun j => do
      let n := 4 * i + (piecesOf shape).2.1 * j
      let mv ← vectorSteps (.predMv (BitVec.ofNat 8 n) (BitVec.ofNat 8 (piecesOf shape).2.1) (BitVec.ofNat 8 l) (ref.setWidth 32))
      fillVectors l ((piecesOf shape).2.2.map (scan8 n + ·)) mv) (piecesMv shape l i ref) := by
  obtain ⟨hcount, hwidth, -, hcount4, hwidth2⟩ := pieces_eq shape 0
  simp only [hcount, hwidth, (pieces_eq shape _).2.2.1]
  refine .forEach fun j hj => ?_
  have hj4 := List.mem_range.mp hj
  have hn : 4 * i + shape.blockWidth * j < 2 ^ 8 := by
    have : shape.blockWidth * j ≤ 2 * 4 := Nat.mul_le_mul hwidth2 (by omega)
    omega
  have h := Follows.bind (follows_vector (follows_predMv ref hn (by omega : shape.blockWidth < 2 ^ 8) hl)) fun mv =>
    Follows.change (f := fun s => { s with cache := { s.cache with
      mv := Cells.putAll s.cache.mv mv ((shape.slots (scan8 (4 * i + shape.blockWidth * j))).map (75 * l + ·)) } })
  rw [bind_assoc] at h
  exact h

theorem follows_quadrant (direct : List (Nat → DirectBlock)) {c : (Nat × Nat) × (Nat → DirectBlock) × Bool × BitVec 8} {d : PartRef Nat}
    (hd : SameQuadrant direct c d) (hl : c.1.1 < 2 ^ 8) (hi : c.1.2 < 4) :
    Follows (quadrantSteps c.1.1 c.1.2 c.2.1 c.2.2.1 c.2.2.2) (quadrantMv direct d) := by
  obtain ⟨rfl, hmotion⟩ := hd
  rw [quadrantMv, hmotion]
  refine .bind (.held fun _ => rfl) fun sub => ?_
  cases sub.shape with
  | none => exact follows_direct _ _ _
  | some shape => exact .bind .change fun _ => .ite (fun _ => follows_pieces shape hl hi _) fun _ => .change

theorem follows_inter8x8 : Follows inter8x8Steps inter8x8 := by
  refine .bind follows_subTypes fun _ => .bind (.gather fun _ _ => .view) fun direct => .view_bind fun s => ?_
  have hrefs := FollowsVia.gather (R := fun v d => SameQuadrant direct v d ∧ v.1 ∈ byList s.listCount (List.range 4))
    (ds := pairsByList s.lists (List.range 4)) (g := quadrantRef direct) <|
      ListRel.same fun c hc s a t h => by
        obtain ⟨d, hd, hv, hvc⟩ := follows_quadrantRef direct c s a t h
        exact ⟨d, hd, hv, hvc ▸ hc⟩
  refine FollowsVia.bind hrefs fun as ds h => Follows.forEach₂ (h.imp fun v d hv => ?_)
  obtain ⟨hl, hq⟩ := mem_byList hv.2
  exact follows_quadrant direct hv.1 (Nat.lt_trans hl (listCount_lt s)) (List.mem_range.mp hq)

end Sys2Proof.Machine
end

section
/-! Proofs. `MB_DECODE` as its steps: the coded block pattern, the quantizer and the residual, and the macroblock (43_mb_type_motion.md
R301, R340 to R352). -/

namespace Sys2Proof.Machine

open Sys2Proof.Stated

variable {α β : Type} {s t : State}

/-! ### Pattern, transform size, quantizer -/

theorem follows_pattern (kind : MbKind) : Follows (patternSteps kind) (readCbp kind) := by
  refine .bind follows_ueOf fun c => .bind .view fun format => .bind (.held_orStop ?_) fun _ => .change
  by_cases hf : format = 1 ∨ format = 2 <;> by_cases hk : kind = .intra4x4 <;> simp only [hf, hk, if_true, if_false] <;> rfl

/-- Does a quadrant's sub-type fit the 8x8 transform? -/
theorem allows8x8_eq (m : SubMb) (inference : Bool) :
    m.allows8x8 inference = if m.shape.isNone then inference else decide (m.shape = some .s8x8) := by
  unfold SubMb.allows8x8
  cases m.shape with
  | none => rfl
  | some shape => simp only [Option.isNone_some, Bool.false_eq_true, if_false, Option.some.injEq]

/-- The flag is read where it is allowed. -/
theorem follows_flag (allowed : Bool) : Follows (held (fun s => s.mb.cbp.map BitVec.toNat) >>= fun cbp =>
      onlyIf (allowed && decide (cbp % 16 ≠ 0)) do
        let b ← Stated.bitsOf 1
        changeMb fun m => { m with dct8x8 := some (decide (b = 1)) })
    (mbCbp >>= fun cbp => Op.when (allowed && decide (cbp % 16 ≠ 0)) do
        let b ← readBits 1
        setMb fun m => { m with dct8x8 := some (decide (b = 1)) }) :=
  .bind (.held fun _ => rfl) fun _ => .onlyIf fun _ => .bind (follows_bitsOf (by decide)) fun _ => .change

theorem follows_transformFlag (kind : MbKind) : Follows (transformFlagSteps kind) (interTransformFlag kind) := by
  simp only [interTransformFlag, transform8x8Allowed, bind_assoc]
  refine .bind .view fun mode => .bind .view fun inference => ?_
  cases kind
  case inter8x8 =>
    simp only [bind_assoc, pure_bind, allows8x8_eq]
    refine .bind (.gather fun _ _ => .held fun _ => rfl) fun subs => ?_
    have h := follows_flag (mode && subs.all fun m => if m.shape.isNone then inference else decide (m.shape = some .s8x8))
    simpa [MbKind.intra] using h
  case direct =>
    have h := follows_flag (mode && inference)
    simpa [MbKind.intra] using h
  case intra4x4 | intra16x16 | intraPcm => simpa [MbKind.intra] using follows_flag false
  all_goals simpa [MbKind.intra] using follows_flag mode

/-- Over a list, where the steps keep what the operation needs to know. -/
theorem follows_each_keeping {P : State → Prop} {f : α → Steps Unit} {g : α → Op Unit} {as : List α}
    (h : ∀ a ∈ as, ∀ s t, P s → f a s = some ((), t) → g a s = .ok () t ∧ P t) (hs : P s) (hsteps : forEach as f s = some ((), t)) :
    Op.each as g s = .ok () t := by
  induction as generalizing s with
  | nil =>
    cases hsteps
    rfl
  | cons a as ih =>
    obtain ⟨_, u, hfirst, hrest⟩ := Steps.bind_some_iff.mp hsteps
    obtain ⟨hg, hu⟩ := h a (by simp) s u hs hfirst
    exact (Op.bind_ok hg).trans (ih (fun b hb => h b (List.mem_cons_of_mem _ hb)) hu hrest)

theorem maxQp_lt_word (s : State) : s.maxQp < 128 := by
  have := (s.cr0.extractLsb' 2 4).isLt
  rw [State.maxQp, State.bitDepth, Config.minBitDepth]
  omega

theorem quantizerWord_eq {w : Int} (h0 : 0 ≤ w) (h1 : w < 128) : BitVec.ofInt 32 w = BitVec.ofNat 32 w.toNat &&& 0x7F#32 := by
  obtain ⟨n, rfl⟩ := Int.eq_ofNat_of_zero_le h0
  refine BitVec.eq_of_toNat_eq ?_
  rw [BitVec.ofInt_natCast, Int.toNat_natCast, BitVec.toNat_and]
  have hand : n &&& 127 = n % 2 ^ 7 := Nat.and_two_pow_sub_one_eq_mod n 7
  have hn : (BitVec.ofNat 32 n).toNat = n := Nat.mod_eq_of_lt (by omega)
  rw [hn]
  exact (hand.trans (Nat.mod_eq_of_lt (by omega))).symm

/-- The wrapped quantizer of the steps. -/
def wrapped (top q : Int) : Int := if q < 0 then q + top + 1 else if top < q then q - (top + 1) else q

theorem follows_chromaQp {q' : Nat} {w top : Int} (hq : w.toNat = q') (hs : (s.maxQp : Int) = top)
    (hsteps : forEach [0, 1] (fun c => do
      let v ← held fun s => Cells.look s.tabs.chromaQp (128 * c + w.toNat)
      only (v.toNat ≤ top)
      change fun s => { s with chromaQp := Cells.put s.chromaQp c v }) s = some ((), t)) :
    Op.each [0, 1] (fun c => do
      let v ← chromaQpTabAt c q'
      Op.require (fun s => decide (v.toNat ≤ s.maxQp)) (.faulted .outOfRange)
      Op.modify fun s => { s with chromaQp := Cells.put s.chromaQp c v }) s = .ok () t := by
  refine follows_each_keeping (P := fun s => (s.maxQp : Int) = top) (fun c _ s t hs h => ?_) hs hsteps
  obtain ⟨v, u, hheld, hrest⟩ := Steps.bind_some_iff.mp h
  obtain ⟨v', hlook, hu⟩ := Option.map_eq_some_iff.mp hheld
  cases hu
  obtain ⟨_, u', honly, hchange⟩ := Steps.bind_some_iff.mp hrest
  obtain ⟨hle, hu'⟩ := Steps.only_some_iff.mp honly
  cases hchange
  rw [hu']
  have hread : chromaQpTabAt c q' s = .ok v s := Op.need_some (by rw [← hq, Nat.mul_comm]; exact hlook)
  have hfits : decide (v.toNat ≤ s.maxQp) = true := decide_eq_true (by have := of_decide_eq_true hle; omega)
  exact ⟨(Op.bind_ok hread).trans ((Op.bind_ok (Op.require_true _ hfits)).trans rfl), hs⟩

theorem follows_quantizer : Follows quantizerSteps quantizerDelta := by
  refine .bind follows_seOf fun dq => ?_
  intro s a t h
  obtain ⟨top, s1, htop, hrest⟩ := Steps.bind_some_iff.mp h
  cases htop
  obtain ⟨q, s2, hq, hrest⟩ := Steps.bind_some_iff.mp hrest
  cases hq
  obtain ⟨_, s3, honly, hrest⟩ := Steps.bind_some_iff.mp hrest
  obtain ⟨hrange, hs3⟩ := Steps.only_some_iff.mp honly
  obtain ⟨_, s4, hchange, hloop⟩ := Steps.bind_some_iff.mp hrest
  cases hchange
  have hin : 0 ≤ wrapped s.maxQp (s.qscale + dq) ∧ wrapped s.maxQp (s.qscale + dq) ≤ s.maxQp := of_decide_eq_true hrange
  have hwrap : wrapQuantizer s.maxQp (s.qscale + dq) = some (wrapped s.maxQp (s.qscale + dq)).toNat := if_pos hin
  have hword := quantizerWord_eq hin.1 (by have := maxQp_lt_word s; omega)
  refine (Op.bind_ok (Op.read_run _ s)).trans ?_
  rw [hwrap]
  refine (Op.bind_ok (Op.orStop_some _ _ s)).trans ((Op.bind_ok (Op.modify_run _ s)).trans ?_)
  rw [hs3] at hloop
  rw [State.setQscale, ← hword]
  exact follows_chromaQp (w := wrapped s.maxQp (s.qscale + dq)) rfl rfl hloop

/-! ### Residual blocks -/

/-- A selector, by its fields. -/
theorem qmul_of_fields {n m off qp : Nat} {valid is8 dest8 : Bool} (hn : n < 2 ^ 32) (h31 : decide (n / 2 ^ 31 % 2 = 1) = valid)
    (h30 : decide (n / 2 ^ 30 % 2 = 1) = is8) (h29 : decide (n / 2 ^ 29 % 2 = 1) = dest8) (hm : n / 2 ^ 24 % 2 ^ 3 = m)
    (hoff : n / 2 ^ 16 % 2 ^ 6 = off) (hqp : n % 2 ^ 7 = qp) :
    Legal.qmul (BitVec.ofNat 32 n) = ⟨valid, is8, dest8, m, off, qp⟩ := by
  have hbit (i : Nat) (hi : i < 32) : (BitVec.ofNat 32 n).getLsbD i = decide (n / 2 ^ i % 2 = 1) := by
    rw [BitVec.getLsbD_ofNat, decide_eq_true hi, Bool.true_and, Nat.testBit_eq_decide_div_mod_eq]
  have hfield (i k : Nat) : ((BitVec.ofNat 32 n).extractLsb' i k).toNat = n / 2 ^ i % 2 ^ k := by
    rw [BitVec.extractLsb'_toNat, Nat.shiftRight_eq_div_pow, BitVec.toNat_ofNat, Nat.mod_eq_of_lt hn]
  rw [Legal.qmul, hbit 31 (by decide), hbit 30 (by decide), hbit 29 (by decide), hfield, hfield, hfield, Nat.pow_zero, Nat.div_one,
    h31, h30, h29, hm, hoff, hqp]

theorem qmul_selectorD4 {m qp off : Nat} (hm : m < 8) (hoff : off < 64) (hqp : qp < 128) :
    Legal.qmul (selectorD4 m qp off) = qmulD4 m qp off :=
  qmul_of_fields (by omega) (decide_eq_true (by omega)) (decide_eq_false (by omega)) (decide_eq_false (by omega)) (by omega) (by omega)
    (by omega)

theorem qmul_selectorD8 {m qp off : Nat} (hm : m < 8) (hoff : off < 64) (hqp : qp < 128) :
    Legal.qmul (selectorD8 m qp off) = qmulD8 m qp off :=
  qmul_of_fields (by omega) (decide_eq_true (by omega)) (decide_eq_true (by omega)) (decide_eq_true (by omega)) (by omega) (by omega)
    (by omega)

theorem qmul_zero : Legal.qmul 0 = qmulNull 0 := rfl

/-- A block's command completes where the block does: its checks write nothing. -/
theorem follows_decodeResidual {n : Nat} (hn : n < 2 ^ 8) (scan mc : BitVec 8) (d : Word) :
    Follows (issue (.decodeResidual (BitVec.ofNat 8 n) scan mc d)) (decodeResidual ⟨n, scan.toNat, mc.toNat, Legal.qmul d⟩) := by
  have hcmd : Follows (issue (.decodeResidual (BitVec.ofNat 8 n) scan mc d)) (do
      Op.require (fun s => s.bitDepthLegal) (.rejected .unsupported)
      Op.require (fun s => decide ((Legal.qmul d).qp ≤ s.maxQp)) (.rejected .illegalCommand)
      decodeResidual ⟨(BitVec.ofNat 8 n).toNat, scan.toNat, mc.toNat, Legal.qmul d⟩) :=
    .issue (fun _ => ⟨_, _, rfl⟩)
      (.bind (.require legal_unsupported) fun _ => .bind (.require legal_illegal) fun _ => decodeResidual_stops _)
      fun st => Op.keeps_bind (Op.keeps_require _ _) fun _ => Op.keeps_bind (Op.keeps_require _ _) fun _ =>
        decodeResidual_keeps (bodyWrites_status st).toResidualWrites _
  rw [toNat_ofNat_byte hn] at hcmd
  intro s a t h
  obtain ⟨_, u, hdepth, hrest⟩ := Op.bind_ok_iff.mp (hcmd s a t h)
  obtain ⟨_, v, hqp, hok⟩ := Op.bind_ok_iff.mp hrest
  obtain ⟨-, rfl⟩ := Op.require_ok_iff.mp hdepth
  obtain ⟨-, rfl⟩ := Op.require_ok_iff.mp hqp
  exact hok

/-- Blocks with their selectors, and their operands in the model. -/
theorem follows_residual {scan mc : BitVec 8} {blocks : List (Nat × Word)} {rs : List ResidualArgs}
    (h : ListRel (fun c r => c.1 < 2 ^ 8 ∧ r = ⟨c.1, scan.toNat, mc.toNat, Legal.qmul c.2⟩) blocks rs) :
    Follows (residualSteps scan mc blocks) (residualBlocks rs) :=
  .forEach₂ (h.imp fun _ _ hr => hr.2 ▸ .nested (follows_decodeResidual hr.1 _ _ _))

/-- Blocks given by the same function of a number. -/
theorem follows_residual_map {scan mc : BitVec 8} {ns : List Nat} {f : Nat → Nat × Word} {g : Nat → ResidualArgs}
    (h : ∀ n ∈ ns, (f n).1 < 2 ^ 8 ∧ g n = ⟨(f n).1, scan.toNat, mc.toNat, Legal.qmul (f n).2⟩) :
    Follows (residualSteps scan mc (ns.map f)) (residualBlocks (ns.map g)) :=
  follows_residual (.map h)

theorem qscale_lt (s : State) : s.qscale < 128 := (s.cr3.extractLsb' 0 7).isLt

theorem follows_quadrantResidual (intra big : Bool) (cbp : Nat) {qp q : Nat} (hqp : qp < 128) (hq : q < 4) : Follows
    (if cbp / 2 ^ q % 2 = 0 then do
        fillCounts (slotsOf (4 * q) 2 2) 0
        sumSteps q 0
      else if big then do
        residualSteps 2 16 ((List.range 4).map fun k => (4 * q + k, selectorD8 (if intra then 0 else 1) qp (16 * k)))
        let counts ← gather (slotsOf (4 * q) 2 2) fun k => held fun s => Cells.look s.cache.nnz k
        sumSteps q (counts.map BitVec.toNat).sum
      else residualSteps 0 16 ((List.range 4).map fun k => (4 * q + k, selectorD4 (if intra then 0 else 3) qp 0)))
    (quadrantResidual intra big cbp qp q) := by
  have hblock {k : Nat} (hk : k ∈ List.range 4) : 4 * q + k < 2 ^ 8 ∧ k < 4 := by
    have := List.mem_range.mp hk
    omega
  have hm {a b : Nat} (ha : a < 8) (hb : b < 8) : (if intra then a else b) < 8 := by split <;> assumption
  rw [quadrantResidual, Nat.testBit_eq_decide_div_mod_eq]
  by_cases hbit : cbp / 2 ^ q % 2 = 0
  · rw [if_pos hbit, if_neg (by rw [hbit]; decide)]
    exact .bind .change fun _ => .change
  · rw [if_neg hbit, if_pos (decide_eq_true (by omega))]
    refine .ite (fun _ => ?_) fun _ => ?_
    · simp only [quadrantCount, bind_assoc, pure_bind, ← List.sum_eq_foldl]
      refine .bind (follows_residual_map fun k hk => ⟨(hblock hk).1, ?_⟩) fun _ =>
        .bind (.gather fun _ _ => .held fun _ => rfl) fun _ => .change
      rw [qmul_selectorD8 (hm (by decide) (by decide)) (by have := (hblock hk).2; omega) hqp]
      rfl
    · refine follows_residual_map fun k hk => ⟨(hblock hk).1, ?_⟩
      rw [qmul_selectorD4 (hm (by decide) (by decide)) (by decide) hqp]
      rfl

theorem follows_luma (kind : MbKind) (cbp : Nat) : Follows (lumaSteps kind cbp) (lumaResidual kind cbp) := by
  refine .view_bind fun s => .ite (fun _ => ?_) fun _ => .bind (.held fun _ => rfl) fun big => .forEach fun q hq =>
    follows_quadrantResidual kind.intra big cbp (qscale_lt s) (List.mem_range.mp hq)
  refine .bind (follows_residual (.cons ⟨by decide, rfl⟩ .nil)) fun _ => ?_
  by_cases hcbp : cbp % 16 = 0
  · rw [if_pos hcbp, if_neg (not_not_intro hcbp)]
    exact .change
  · rw [if_neg hcbp, if_pos hcbp]
    refine follows_residual_map fun n hn => ⟨lt_byte_of_range (by decide) hn, ?_⟩
    rw [qmul_selectorD4 (by decide) (by decide) (qscale_lt s)]
    rfl

theorem chromaQpAt_gives (c : Nat) : Op.Gives (fun qp => qp < 128) (chromaQpAt c) := by
  intro u qp v h
  obtain ⟨w, -, hw⟩ := Option.map_eq_some_iff.mp (Op.need_ok_iff.mp h).1
  exact hw ▸ w.isLt

theorem follows_chroma (kind : MbKind) (cbp : Nat) : Follows (chromaSteps kind cbp) (chromaResidual kind.intra cbp) := by
  refine .bind .view fun format => .bind (.onlyIf fun _ =>
    follows_residual (.cons ⟨by decide, rfl⟩ (.cons ⟨by decide, rfl⟩ .nil))) fun _ => .ite (fun _ => ?_) fun _ => .change
  refine .forEach fun c hc => .bind_gives (.held fun _ => rfl) (chromaQpAt_gives c) fun qp hqp =>
    follows_residual_map fun k hk => ?_
  have hk4 := List.mem_range.mp hk
  simp only [List.mem_cons, List.not_mem_nil, or_false] at hc
  have hm : c + 1 + (if kind.intra then 0 else 3) < 8 := by split <;> omega
  refine ⟨by dsimp only; omega, ?_⟩
  rw [qmul_selectorD4 hm (by decide) hqp]
  rfl

/-! ### The macroblock -/

theorem follows_prediction {kind : MbKind} (hk : kind ≠ .intraPcm) {f : Unit → Steps Unit} {g : Unit → Op Unit}
    (h : Follows (f ()) (g ())) : Follows
    (match kind with
      | .intra4x4 => intra4x4Steps >>= f
      | .intra16x16 => chromaModeSteps >>= f
      | .inter8x8 => inter8x8Steps >>= f
      | .direct => directMacroblock >>= f
      | _ => partitionSteps kind >>= f) (predictionSyntax kind >>= g) := by
  cases kind
  case intraPcm => exact absurd rfl hk
  case intra4x4 => exact .bind follows_intra4x4 fun _ => h
  case intra16x16 => exact .bind follows_chromaMode fun _ => h
  case inter16x16 => exact .bind (follows_partitions .inter16x16) fun _ => h
  case inter16x8 => exact .bind (follows_partitions .inter16x8) fun _ => h
  case inter8x16 => exact .bind (follows_partitions .inter8x16) fun _ => h
  case inter8x8 => exact .bind follows_inter8x8 fun _ => h
  case direct => exact .bind follows_directMacroblock fun _ => h

/-- Quantizer and residual, or none. -/
theorem follows_residualSyntax (kind : MbKind) : Follows (do
    let cbp ← held fun s => s.mb.cbp.map BitVec.toNat
    if 0 < cbp ∨ kind = .intra16x16 then do
      quantizerSteps
      lumaSteps kind cbp
      chromaSteps kind cbp
    else do
      fillCounts ((List.range 24).map scan8) 0
      forEach (List.range 4) fun q => sumSteps q 0
    change fun s => { s with res := some 0 }) (residualSyntax kind >>= fun _ => setRes 0) := by
  simp only [residualSyntax, bind_assoc]
  refine .bind (.held fun _ => rfl) fun cbp => ?_
  by_cases hc : 0 < cbp ∨ kind = .intra16x16
  · rw [if_pos hc, if_pos hc]
    simp only [bind_assoc]
    exact .bind follows_quantizer fun _ => .bind (follows_luma kind cbp) fun _ => .bind (follows_chroma kind cbp) fun _ => .change
  · rw [if_neg hc, if_neg hc]
    simp only [bind_assoc]
    exact .bind .change fun _ => .bind (.forEach fun _ _ => .change) fun _ => .change

theorem follows_coded : Follows codedSteps codedMacroblock := by
  simp only [codedMacroblock, readMbType, bind_assoc]
  refine .bind follows_ueOf fun n => .bind .view fun sl => .bind (.held_orStop (typeOf_eq sl n)) fun m => .bind .change fun _ =>
    .bind follows_cacheFill fun _ => .bind (.held fun _ => rfl) fun kind => .ite (fun _ => follows_pcm) fun hk => ?_
  refine follows_prediction hk ?_
  exact .bind (.onlyIf fun _ => follows_pattern kind) fun _ => .bind (follows_transformFlag kind) fun _ => follows_residualSyntax kind

theorem follows_decode : Follows decodeSteps mbDecode := by
  refine .bind .view fun sl => ?_
  have hrest (skipped : Bool) : Follows (if skipped then skippedSteps else codedSteps)
      (if skipped then skippedMacroblock else codedMacroblock) := .ite (fun _ => follows_skipped) fun _ => follows_coded
  rw [isSkipped]
  by_cases hi : sl = .i
  · rw [if_pos hi, if_pos hi]
    exact .bind .pure hrest
  · rw [if_neg hi, if_neg hi]
    exact .bind follows_skipRun hrest

/-- Settles O44: each step is the command or the read the model does. -/
theorem macroblockDecodesBySteps : Obligations.MacroblockDecodesBySteps := by
  intro s u he hsteps
  obtain ⟨⟨_, t⟩, hrun, rfl⟩ := Option.map_eq_some_iff.mp hsteps
  exact command_ok (accepts_run he rfl) (follows_decode s () t hrun)

end Sys2Proof.Machine
end

section
/-! Proofs. A skipped macroblock of a P slice (43_mb_type_motion.md R302, R303), and the skip run that is read. -/

namespace Sys2Proof.Machine

open Sys2Proof.Stated

variable {s t : State}

/-! ### The vector of a skipped macroblock -/

/-- Once the caches are filled, the predictor of a skipped macroblock completes, and its vector depends on the caches alone. -/
theorem predMvPskip_filled (hp : s.sliceType = .p) :
    ∃ v, ∀ c : State, c.cache = s.filledCaches → predMvPskip c = .ok () (c.withPm v) := by
  have hlist : 0 < s.listCount := by rw [State.listCount, hp]; decide
  have hslot (j : Nat) (hj : j ∈ motionSlots) : ∃ a, ∀ c : State, c.cache = s.filledCaches → slotMotion c 0 j = some a :=
    ⟨(_, _), fun c hc => slotMotion_eq_some.mpr (hc ▸ look_filled hlist hj)⟩
  obtain ⟨a, ha⟩ := hslot 11 (by decide)
  obtain ⟨b, hb⟩ := hslot 4 (by decide)
  obtain ⟨d, hd⟩ := hslot 8 (by decide)
  obtain ⟨e, he⟩ := hslot 3 (by decide)
  have hdiagonal (c : State) (hc : c.cache = s.filledCaches) :
      diagonalMotion c 0 (scan8 0) 4 = some (if d.1 = -2 then e else d) := by
    have hr : Cells.look c.cache.ref (75 * 0 + scan8 0 - 8 + 4) = some d.1 := (slotMotion_eq_some.mp (hd c hc)).1
    simp only [diagonalMotion, hr, apply_ite some]
    rw [← he c hc, ← hd c hc]
    rfl
  refine ⟨if a.1 = -2 ∨ b.1 = -2 ∨ a = (0, ⟨0, 0⟩) ∨ b = (0, ⟨0, 0⟩) then ⟨0, 0⟩
    else predicted 0 a b (if d.1 = -2 then e else d), fun c hc => ?_⟩
  rw [predMvPskip_run (ha c hc) (hb c hc),
    predMv_ok (n := 0) (by decide) (ha c hc) (hb c hc) (hdiagonal c hc)]
  split <;> rfl

/-! ### A skipped macroblock -/

/-- The caches a skipped macroblock of a P slice leaves. -/
def skippedCaches (c : Caches) (v : Mv) : Caches where
  nnz := Cells.putAll c.nnz 0 blockSlots
  i4 := c.i4
  ref := Cells.putAll c.ref 0 ((fillSlots 0 4 4).map (Config.nnzSlots * 0 + ·))
  mv := Cells.putAll c.mv v ((fillSlots 0 4 4).map (Config.nnzSlots * 0 + ·))

theorem skippedMotionP_setNnz_ok {v : Mv} (h : predMvPskip s = .ok () (s.withPm v)) :
    (skippedMotion false >>= fun _ => setNnz blockSlots 0) s
      = .ok () { s.withPm v with cache := skippedCaches s.cache v } := by
  have hmotion : skippedMotionP s = .ok () { s.withPm v with cache := { skippedCaches s.cache v with nnz := s.cache.nnz } } := by
    rw [skippedMotionP, Op.bind_ok h, Op.bind_ok (Op.need_some (f := State.pmx) rfl),
      Op.bind_ok (Op.need_some (f := State.pmy) rfl), setRef, Op.bind_ok (Op.modify_run _ _), setMv, Op.modify_run]
    rfl
  rw [show skippedMotion false = skippedMotionP from rfl, Op.bind_ok hmotion, setNnz, Op.modify_run,
    skippedCaches]

/-- What a macroblock skipped in a P slice leaves, with its vector and the run that is left. -/
def State.skippedP (s : State) (v : Mv) (left : Word) : State :=
  { (s.filling (availOf s) (intraAvailOf s) (skippedCaches s.filledCaches v)).withPm v with
    mb := skippedMb false, skipRun := left }

theorem skippedMacroblock_ok (hp : s.sliceType = .p) (hk : neighboursKnown s = true) {v : Mv} (left : Word)
    (hv : ∀ c : State, c.cache = s.filledCaches → predMvPskip c = .ok () (c.withPm v)) :
    skippedMacroblock { s with skipRun := left } = .ok () (s.skippedP v left) := by
  have hfill := (cacheFill_ok (s := { s with skipRun := left, mb := skippedMb false }) hk).1
  have hpred := hv (State.filling { s with skipRun := left, mb := skippedMb false } (availOf s) (intraAvailOf s) s.filledCaches) rfl
  have hb : decide (s.sliceType = .b) = false := by rw [hp]; rfl
  have hb' : decide (({ s with skipRun := left } : State).sliceType = .b) = false := hb
  rw [skippedMacroblock, Op.bind_ok (Op.read_run _ _), hb', setMb, Op.bind_ok (Op.modify_run _ _), Op.bind_ok hfill]
  exact (skippedMotionP_setNnz_ok hpred).trans rfl

/-- One macroblock once a skip run is held (R302). -/
def runMacroblock : Op Unit := do
  let left ← Op.read State.skipRun
  let skipped ← useSkipRun left
  if skipped then skippedMacroblock else codedMacroblock

theorem mbDecode_eq (hs : s.sliceType ≠ .i) : mbDecode s = (readSkipRun s.skipRun >>= fun _ => runMacroblock) s := by
  rw [mbDecode, Op.bind_ok (Op.read_run _ _), isSkipped, if_neg hs, skipRunStep]
  simp only [bind_assoc]
  rfl

theorem mbDecode_of_held (hs : s.sliceType ≠ .i) (h : s.skipRun ≠ -1) : mbDecode s = runMacroblock s := by
  rw [mbDecode_eq hs, readSkipRun, if_neg (show ¬ s.skipRun = 0xFFFFFFFF#32 from h)]
  rfl

theorem mbDecode_of_run (hs : s.sliceType ≠ .i) (hr : 0 < s.skipRun.toInt) :
    mbDecode s = skippedMacroblock { s with skipRun := s.skipRun - 1 } := by
  have hheld : s.skipRun ≠ -1 := fun h => by rw [h] at hr; exact absurd hr (by decide)
  rw [mbDecode_of_held hs hheld, runMacroblock, Op.bind_ok (Op.read_run _ _), useSkipRun, if_pos hr]
  rfl

theorem mem_fillSlots {k : Nat} : k ∈ fillSlots 0 4 4 ↔ ∃ n < 16, k = scan8 n := by
  have hslots : ∀ k ∈ fillSlots 0 4 4, ∃ n < 16, k = scan8 n := by decide
  have hmem : ∀ n < 16, scan8 n ∈ fillSlots 0 4 4 := by decide
  exact ⟨hslots k, fun ⟨n, hn, h⟩ => h ▸ hmem n hn⟩

theorem mem_blockSlots {k : Nat} : k ∈ blockSlots ↔ ∃ n < 24, k = scan8 n := by
  simp [blockSlots, eq_comm]

/-- The 24 block slots read the value put there, the other slots as before. -/
theorem look_blockSlots (c : Cells (BitVec 8)) (v : BitVec 8) :
    (∀ n, n < 24 → Cells.look (Cells.putAll c v blockSlots) (scan8 n) = some v)
      ∧ ∀ k, (∀ n, n < 24 → k ≠ scan8 n) → Cells.look (Cells.putAll c v blockSlots) k = Cells.look c k := by
  refine ⟨fun n hn => ?_, fun k hk => ?_⟩ <;> rw [Cells.look_putAll]
  · exact if_pos (mem_blockSlots.mpr ⟨n, hn, rfl⟩)
  · exact if_neg fun h => let ⟨n, hn, he⟩ := mem_blockSlots.mp h; hk n hn he

/-- The sixteen luma slots of list 0 read the value put there, the other slots as before. -/
theorem look_lumaSlots {α : Type} (c : Cells α) (v : α) :
    (∀ n, n < 16 → Cells.look (Cells.putAll c v ((fillSlots 0 4 4).map (Config.nnzSlots * 0 + ·))) (scan8 n) = some v)
      ∧ ∀ k, (∀ n, n < 16 → k ≠ scan8 n) →
        Cells.look (Cells.putAll c v ((fillSlots 0 4 4).map (Config.nnzSlots * 0 + ·))) k = Cells.look c k := by
  have hmap : (fillSlots 0 4 4).map (Config.nnzSlots * 0 + ·) = fillSlots 0 4 4 := by decide
  refine ⟨fun n hn => ?_, fun k hk => ?_⟩ <;> rw [hmap, Cells.look_putAll]
  · exact if_pos (mem_fillSlots.mpr ⟨n, hn, rfl⟩)
  · exact if_neg fun h => let ⟨n, hn, he⟩ := mem_fillSlots.mp h; hk n hn he

theorem look_skippedCaches (c : Caches) (v : Mv) :
    (∀ n, n < 16 → Cells.look (skippedCaches c v).ref (scan8 n) = some 0 ∧ Cells.look (skippedCaches c v).mv (scan8 n) = some v)
      ∧ (∀ n, n < 24 → Cells.look (skippedCaches c v).nnz (scan8 n) = some 0)
      ∧ (∀ k, (∀ n, n < 24 → k ≠ scan8 n) → Cells.look (skippedCaches c v).nnz k = Cells.look c.nnz k)
      ∧ (∀ k, (∀ n, n < 16 → k ≠ scan8 n) → Cells.look (skippedCaches c v).ref k = Cells.look c.ref k
          ∧ Cells.look (skippedCaches c v).mv k = Cells.look c.mv k)
      ∧ (skippedCaches c v).i4 = c.i4 := by
  dsimp only [skippedCaches]
  obtain ⟨hnnz, hnnzOther⟩ := look_blockSlots c.nnz 0
  obtain ⟨href, hrefOther⟩ := look_lumaSlots c.ref 0
  obtain ⟨hmv, hmvOther⟩ := look_lumaSlots c.mv v
  exact ⟨fun n hn => ⟨href n hn, hmv n hn⟩, hnnz, hnnzOther, fun k hk => ⟨hrefOther k hk, hmvOther k hk⟩, rfl⟩

/-! ### A skip run that is read -/

/-- A body that is never turned away ends the same from two states that count the same free values. -/
theorem finish_congr {u : State} {r : EStateM.Result Stop State Unit} (hr : ∀ e v, r = .error e v → e.NotRefused)
    (hfree : s.freeCtr = u.freeCtr) : finish s r = finish u r := by
  cases r with
  | ok => rfl
  | error e v =>
    cases e with
    | rejected => exact (hr _ _ rfl).elim
    | raised => rfl
    | faulted => rfl
    | waiting => rw [finish, finish, hfree]

/-- What `ReadUE` leaves: the cursor moved, and nothing else. -/
theorem readUe_moves {v : Nat} (h : readUe s = .ok v t) : t = { s with bitpos := t.bitpos } := by
  have hw : BitWrites fun u => u = { s with bitpos := u.bitpos } := ⟨fun u p hu _ => by rw [hu]⟩
  exact (readUe_keeps hw).ok rfl h

/-- A skip run that is read is held, and one too long is `CorruptedSyntax` (R302). -/
theorem readSkipRun_read {v p : Nat} (h : readUe s = .ok v { s with bitpos := p }) :
    readSkipRun (-1) s = if s.skipRunTooLong v
      then .error (.raised .corruptedSyntax) { s with bitpos := p, skipRun := BitVec.ofNat 32 v }
      else .ok () { s with bitpos := p, skipRun := BitVec.ofNat 32 v } := by
  rw [readSkipRun, if_pos (show (-1 : Word) = 0xFFFFFFFF#32 from rfl), Op.bind_ok h, Op.bind_ok (Op.modify_run _ _)]
  have hlong : ({ s with bitpos := p, skipRun := BitVec.ofNat 32 v } : State).skipRunTooLong v = s.skipRunTooLong v := rfl
  cases hv : s.skipRunTooLong v with
  | true => exact Op.require_false _ (by rw [hlong, hv]; rfl)
  | false => exact Op.require_true _ (by rw [hlong, hv]; rfl)

/-- What `READ_UE` reads where it completes. -/
theorem readUe_of_exec {k : Word} (he : s.engine = .run) (h : exec .readUe s = .next t) (hok : t.status = .ended .ok) (hres : t.res = some k) :
    readUe s = .ok k.toNat { s with bitpos := t.bitpos } := by
  have hacc : (s.isIdleOrRun && true) = true := by rw [State.isIdleOrRun, he]; rfl
  rw [show exec .readUe s = command _ true _ s from rfl, command_run hacc] at h
  cases hr : readUe s with
  | ok v u =>
    rw [Op.bind_ok hr] at h
    cases h
    have hv : v < 2 ^ 32 := Nat.lt_trans (readUe_gives _ _ _ hr) (by decide)
    rw [← Option.some.inj hres, toNat_ofInt_word hv, readUe_moves hr]
  | error e u =>
    have hstop := readUe_stops Stop.legal_raiseSet _ _ _ hr
    rw [Op.bind_error hr] at h
    cases e with
    | rejected k =>
      cases h
      rcases hstop with rfl | rfl <;> cases hok
    | raised k =>
      cases h
      exact absurd (Status.ended.inj hok) hstop
    | faulted => cases h
    | waiting =>
      cases h
      cases hok

end Sys2Proof.Machine

namespace Sys2Proof

open Machine Stated

/-- Settles O42. -/
theorem skippedMacroblock : Obligations.SkippedMacroblock := by
  refine ⟨fun s he hp hrun hk => ?_, fun s t k he hs hr hread hok hres => ?_⟩
  · obtain ⟨v, hv⟩ := predMvPskip_filled hp
    have hdecode := skippedMacroblock_ok hp hk (s.skipRun - 1) hv
    rw [← mbDecode_of_run (by rw [hp]; decide) hrun] at hdecode
    refine ⟨_, _, _, v.x, v.y, command_ok (accepts_run he rfl) (cacheFill_ok hk).1,
      command_ok (accepts_run he rfl) (hv _ rfl), command_ok (accepts_run he rfl) hdecode, rfl, rfl, ?_, rfl,
      look_skippedCaches s.filledCaches v⟩
    rw [State.skippedP]
    generalize skippedCaches s.filledCaches v = c
    rfl
  · have hskip := readSkipRun_read (readUe_of_exec he hread hok hres)
    rw [BitVec.ofNat_toNat, BitVec.setWidth_eq, ← hr] at hskip
    have hdecode : exec .mbDecode s = finish s (mbDecode s) := command_run (accepts_run he rfl)
    have hlong : s.skipRunTooLong k.toNat = true →
        exec .mbDecode s = .next (raised { s with bitpos := t.bitpos, skipRun := k } .corruptedSyntax) := fun h => by
      rw [if_pos h] at hskip
      rw [hdecode, mbDecode_eq hs, Op.bind_error hskip]
      exact congrArg Host.Outcome.next (raise_eq_raised _ _)
    refine ⟨fun hpic => hlong ?_, fun hpic hk => ?_⟩
    · simp [State.skipRunTooLong, hpic]
    · cases hl : s.skipRunTooLong k.toNat with
      | true =>
        refine .inr ⟨?_, hlong hl⟩
        have : decide (s.picW * s.picH < k.toNat) = false := decide_eq_false (Nat.not_lt.mpr hpic)
        simp only [State.skipRunTooLong, this, Bool.false_or, Bool.and_eq_true, decide_eq_true_eq] at hl
        exact hl.1
      | false =>
        rw [hl, if_neg Bool.false_ne_true] at hskip
        have hheld : k ≠ -1 := fun h => by rw [h] at hk; exact absurd hk (by decide)
        have hmb : mbDecode s = mbDecode { s with bitpos := t.bitpos, skipRun := k } := by
          rw [mbDecode_of_held (s := { s with bitpos := t.bitpos, skipRun := k }) hs hheld, mbDecode_eq hs, Op.bind_ok hskip]
        have hdecode' : exec .mbDecode { s with bitpos := t.bitpos, skipRun := k } = finish _ (mbDecode _) :=
          command_run (accepts_run he rfl)
        refine .inl ?_
        rw [hdecode, hdecode', hmb]
        exact finish_congr (mbDecode_stops Stop.notRefused_raiseSet _) rfl

end Sys2Proof
end

section
/-! Proofs. An IntraPCM macroblock of an I slice (43_mb_type_motion.md R306, R318): its type, and its samples read one after
another. -/

namespace Sys2Proof.Machine

open Sys2Proof.Stated

variable {s t : State}

/-! ### The type -/

/-- The codeword of `mb_type` 25 is the Exp-Golomb one of 25. -/
theorem readUe_pcmType (h : codeNext s ⟨25, 9, 0b000011010⟩ = true) (hb : s.bitpos + 9 ≤ s.bsLen) :
    readUe s = .ok 25 { s with bitpos := s.bitpos + 9 } := by
  have hbits : ∀ j < 9, Nat.testBit 0b000011010 (8 - j) = s.bsBit (s.bitpos + j) := fun j hj =>
    eq_of_beq (List.all_eq_true.mp h j (List.mem_range.mpr hj))
  have hzeros : ∀ j < 4, Nat.testBit 0b000011010 (8 - j) = false := by decide
  have hten : ∀ j < 4, Nat.testBit 10 (4 - 1 - j) = Nat.testBit 0b000011010 (8 - (5 + j)) := by decide
  refine readUe_ok (k := 4) (x := 10) (by decide) ?_ hb ⟨by decide, fun j hj => ?_⟩
  · simp only [zerosThenOne, Bool.and_eq_true, List.all_eq_true, List.mem_range, Bool.not_eq_true']
    exact ⟨fun j hj => (hbits j (by omega)).symm.trans (hzeros j hj), (hbits 4 (by decide)).symm⟩
  · rw [hten j hj, hbits (5 + j) (by omega), ← Nat.add_assoc]

theorem readMbType_pcm (hi : s.sliceType = .i) (h : readUe s = .ok 25 t) (ht : t.sliceType = s.sliceType) :
    readMbType s = .ok () { t with mb := iMbType 25 } := by
  rw [readMbType, Op.bind_ok h, Op.bind_ok (Op.read_run _ _), ht, hi]
  rfl

/-! ### The samples -/

theorem bsBits_spells (s : State) (pos n : Nat) : spells s pos n (numberOf (s.bsBits pos n)) := (spells_iff ..).mpr rfl

/-- Sample `k` of the macroblock, `depth` bits each from `start` on. -/
def State.pcmSample (s : State) (start depth k : Nat) : Sample := BitVec.ofNat 14 (numberOf (s.bsBits (start + k * depth) depth))

theorem pcmSample_spells {start depth : Nat} (hd : depth ≤ 14) (k : Nat) :
    spells s (start + k * depth) depth (s.pcmSample start depth k).toNat := by
  have hs := bsBits_spells s (start + k * depth) depth
  rwa [State.pcmSample, BitVec.toNat_ofNat, Nat.mod_eq_of_lt (Nat.lt_of_lt_of_le hs.1 (Nat.pow_le_pow_right Nat.two_pos hd))]

theorem pcmSample_congr {u : State} (h : ∀ k, u.bsBit k = s.bsBit k) : u.pcmSample = s.pcmSample := by
  funext start depth k
  have hs := bsBits_spells s (start + k * depth) depth
  have hu : spells u (start + k * depth) depth (numberOf (s.bsBits (start + k * depth) depth)) :=
    ⟨hs.1, fun j hj => (hs.2 j hj).trans (h _).symm⟩
  rw [State.pcmSample, State.pcmSample, (spells_iff ..).mp hu]

/-- The state with the cursor at `p` and the samples `c`. -/
def State.readingPcm (s : State) (p : Nat) (c : Cells Sample) : State := { s with bitpos := p, pcm := c }

/-- The step of `intraPcm` that reads sample `i`. -/
def readPcmSample (depth i : Nat) : Op Unit := do
  let v ← readBits depth
  Op.modify fun s => { s with pcm := Cells.put s.pcm i (BitVec.ofNat 14 v) }

theorem readPcmSample_ok {start depth i : Nat} (c : Cells Sample) (hb : start + (i + 1) * depth ≤ s.bsLen) :
    readPcmSample depth i (s.readingPcm (start + i * depth) c)
      = .ok () (s.readingPcm (start + (i + 1) * depth) (Cells.put c i (s.pcmSample start depth i))) := by
  have hs := bsBits_spells s (start + i * depth) depth
  rw [Nat.succ_mul, ← Nat.add_assoc] at hb ⊢
  rw [readPcmSample, Op.bind_ok (readBits_ok (s := s.readingPcm _ c) hb), peekBits_of_spells (s := s.readingPcm _ c) hs]
  rfl

/-- The samples from sample `i` on are read one after another. -/
theorem readPcmSamples_ok {start depth n i : Nat} (c : Cells Sample) (hb : start + (i + n) * depth ≤ s.bsLen) :
    Op.each (List.range' i n) (readPcmSample depth) (s.readingPcm (start + i * depth) c)
      = .ok () (s.readingPcm (start + (i + n) * depth)
        (Cells.putList c ((List.range' i n).map fun k => (k, s.pcmSample start depth k)))) := by
  induction n generalizing i c with
  | zero => rfl
  | succ n ih =>
    have hnext : i + (n + 1) = i + 1 + n := by omega
    rw [hnext] at hb ⊢
    have hfirst : start + (i + 1) * depth ≤ s.bsLen :=
      Nat.le_trans (Nat.add_le_add_left (Nat.mul_le_mul_right _ (Nat.le_add_right ..)) _) hb
    rw [List.range'_succ, Op.each_cons, Op.bind_ok (readPcmSample_ok c hfirst), ih _ hb]
    rfl

/-- A run of cells from 0 on reads what was put there, the cells after it as before. -/
theorem look_putList_range {α : Type} (c : Cells α) (n : Nat) (f : Nat → α) :
    (∀ k, k < n → Cells.look (Cells.putList c ((List.range n).map fun k => (k, f k))) k = some (f k))
      ∧ ∀ k, n ≤ k → Cells.look (Cells.putList c ((List.range n).map fun k => (k, f k))) k = Cells.look c k :=
  ⟨fun k hk => by simpa only [Nat.zero_add] using Cells.look_putList_run c 0 n f hk,
    fun k hk => by simpa only [Nat.zero_add] using Cells.look_putList_run_ne c 0 n f fun j hj => by omega⟩

/-- The caches an IntraPCM macroblock leaves. -/
def pcmCaches (c : Caches) : Caches := { c with nnz := Cells.putAll c.nnz 16 blockSlots }

theorem look_pcmCaches (c : Caches) : pcmCaches c = { c with nnz := (pcmCaches c).nnz }
    ∧ (∀ n, n < 24 → Cells.look (pcmCaches c).nnz (scan8 n) = some 16)
    ∧ ∀ k, (∀ n, n < 24 → k ≠ scan8 n) → Cells.look (pcmCaches c).nnz k = Cells.look c.nnz k := by
  dsimp only [pcmCaches]
  exact ⟨rfl, look_blockSlots c.nnz 16⟩

/-- The samples follow the aligned cursor, every count is 16 and the coded block pattern 47. -/
theorem intraPcm_ok {start : Nat} (hstart : s.alignedPos = start) (hb : start + s.pcmCount * s.bitDepth ≤ s.bsLen) :
    intraPcm s = .ok () { s with
      bitpos := start + s.pcmCount * s.bitDepth
      pcm := Cells.putList s.pcm ((List.range s.pcmCount).map fun k => (k, s.pcmSample start s.bitDepth k))
      cache := pcmCaches s.cache
      mb := { s.mb with cbp := some 47 } } := by
  have hloop := readPcmSamples_ok (s := s) (start := start) (i := 0) (n := s.pcmCount) (depth := s.bitDepth) s.pcm
    (by rwa [Nat.zero_add])
  rw [Nat.zero_mul, Nat.add_zero, Nat.zero_add, ← List.range_eq_range'] at hloop
  have hroom : decide (s.pcmCount * s.bitDepth ≤ s.bsLen - start) = true := decide_eq_true (by omega)
  rw [intraPcm, alignBits, Op.bind_ok (Op.modify_run _ _), hstart, Op.bind_ok (Op.require_true _ hroom),
    Op.bind_ok (Op.read_run _ _), Op.bind_ok (Op.read_run _ _)]
  show (Op.each (List.range s.pcmCount) (readPcmSample s.bitDepth) >>= _) (s.readingPcm start s.pcm) = _
  rw [Op.bind_ok hloop, pcmCaches]
  rfl

/-! ### The macroblock -/

/-- The state once the type is read. -/
def State.pcmTyped (s : State) : State := { s with bitpos := s.bitpos + 9, mb := iMbType 25 }

/-- What an IntraPCM macroblock of an I slice leaves. -/
def State.pcmDecoded (s : State) (start : Nat) : State :=
  { s.filling (availOf s) (intraAvailOf s) (pcmCaches s.filledCaches) with
    bitpos := start + s.pcmCount * s.bitDepth
    pcm := Cells.putList s.pcm ((List.range s.pcmCount).map fun k => (k, s.pcmSample start s.bitDepth k))
    mb := { iMbType 25 with cbp := some 47 } }

theorem mbDecode_pcm {start : Nat} (hi : s.sliceType = .i) (hk : neighboursKnown s = true)
    (hcode : codeNext s ⟨25, 9, 0b000011010⟩ = true) (hstart : start = (s.bitpos + 9 + 7) / 8 * 8)
    (hb : start + s.pcmCount * s.bitDepth ≤ s.bsLen) : mbDecode s = .ok () (s.pcmDecoded start) := by
  have htype : readMbType s = .ok () s.pcmTyped :=
    readMbType_pcm hi (readUe_pcmType hcode (by omega)) rfl
  have hfill := (cacheFill_ok (s := s.pcmTyped) hk).1
  have haligned : min ((s.bitpos + 9 + 7) / 8 * 8) s.bsLen = start := by omega
  have hpcm := intraPcm_ok (s := s.pcmTyped.filling (availOf s) (intraAvailOf s) s.filledCaches) haligned hb
  have hsample : (s.pcmTyped.filling (availOf s) (intraAvailOf s) s.filledCaches).pcmSample = s.pcmSample :=
    pcmSample_congr fun _ => rfl
  rw [hsample] at hpcm
  have hskip : isSkipped s.sliceType s = .ok false s := by rw [isSkipped, if_pos hi]; rfl
  rw [mbDecode, Op.bind_ok (Op.read_run _ _), Op.bind_ok hskip]
  show codedMacroblock s = _
  rw [codedMacroblock, Op.bind_ok htype, Op.bind_ok hfill, mbKind,
    Op.bind_ok (Op.need_some (a := MbKind.intraPcm) rfl), if_pos rfl]
  exact hpcm

/-- Settles O43. -/
theorem pcmMacroblock : Obligations.PcmMacroblock := by
  intro s he hi hdepth hk hcode hb start count hroom
  have hcount : count = s.pcmCount := by
    show (if s.chromaFormat = 1 then 384 else 256) = 256 + if s.chromaFormat = 1 then 128 else 0
    split <;> rfl
  have hstart : start = (s.bitpos + 9 + 7) / 8 * 8 := rfl
  clear_value start count
  subst hcount
  have hd : s.bitDepth ≤ 14 := (of_decide_eq_true hdepth).2
  have hdecode := mbDecode_pcm hi hk hcode hstart hroom
  obtain ⟨hpcm, hpcmOther⟩ := look_putList_range s.pcm s.pcmCount (s.pcmSample start s.bitDepth)
  refine ⟨_, _, command_ok (accepts_run he rfl) (cacheFill_ok hk).1, command_ok (accepts_run he rfl) hdecode, ?_, rfl,
    fun k hk => ⟨s.pcmSample start s.bitDepth k, hpcm k hk, pcmSample_spells hd k⟩, hpcmOther, look_pcmCaches s.filledCaches⟩
  rw [State.pcmDecoded]
  generalize pcmCaches s.filledCaches = c, Cells.putList _ _ = d
  rfl

end Sys2Proof.Machine
end
